-- ==== Sys2Proof/Word.lean ====
section
/-!
DEFINITION. The octet and the 16-bit check of the station link (spec/11 R213, spec/01 R2). Everything else the
GS-410 handles is an integer in a fixed unit (spec/00, "Numbers") and is a `Nat` or an `Int`.
-/

namespace Sys2Proof

/-- One octet of a frame, a table image or a payload. -/
abbrev Octet := BitVec 8

/-- A CRC-16 value (spec/01 R2). -/
abbrev Check := BitVec 16

end Sys2Proof
end

