-- ==== Sys2Proof/Syntax.lean ====
section
/-!
DEFINITION. The commands of the GS-410: one constructor for each row of spec/opcode_table.json.

A row that is a management request takes the oldest waiting request into service (spec/10 R196); the request's
arguments are the octets of its frame, so the constructor has no operand (log entry 1). A row that is an event
names the entry, channel, run, compressor, train or bed whose event it is.
-/

namespace Sys2Proof

/-- The two ports of the station link (spec/01). -/
inductive Port where
  | f
  | s
  deriving DecidableEq, Repr

/-- What a port receives besides end and abort delimiters (spec/01 R1): the rows FRAME_ARRIVAL and ABORT_DELIMITER are those
two. -/
inductive LineSym where
  | startDelim
  | octet (b : Octet)
  deriving DecidableEq, Repr

/-- What a port received about an end or abort delimiter (R1, log entry 19): before it, since the port's last row, and behind
it when the row is taken, which begins the collection of the next frame. -/
structure LineRun where
  before : List LineSym
  behind : List LineSym
  deriving DecidableEq, Repr

/-- An abort delimiter (R1): the port that received it, with what it received about it. -/
structure LineAbort where
  port : Port
  run : LineRun
  deriving DecidableEq, Repr

/-- The beds of a dryer train (spec/07). -/
inductive BedId where
  | a
  | b
  | c
  deriving DecidableEq, Repr

/-- The commands, in the order of spec/opcode_table.json. -/
inductive Instr where
  /-- POWER_ON_RESET (R212) -/
  | powerOnReset
  /-- CUSTODY_LINE_CHANGE (R207): the level the line changes to -/
  | custodyLineChange (asserted : Bool)
  /-- FRAME_ARRIVAL_PORT_F (R8): what Port F received before the end delimiter and behind it -/
  | frameArrivalPortF (run : LineRun)
  /-- FRAME_ARRIVAL_PORT_S (R10): what Port S received before the end delimiter and behind it -/
  | frameArrivalPortS (run : LineRun)
  /-- PORT_S_SELECT (R16) -/
  | portSSelect
  /-- PORT_S_TRANSMIT_END (R16) -/
  | portSTransmitEnd
  /-- PORT_F_SELECT (R17) -/
  | portFSelect
  /-- PORT_F_TRANSMIT_END (R17) -/
  | portFTransmitEnd
  /-- SILENCE_TIMEOUT (R22) -/
  | silenceTimeout (entry : Nat)
  /-- RELEASE_UNIT (R27) -/
  | releaseUnit
  /-- READ_UNIT (R29) -/
  | readUnit
  /-- INTERVAL_TIMER_EXPIRY (R41) -/
  | intervalTimerExpiry (channel : Nat)
  /-- CUSTODY_CONDITIONING_DONE (R42) -/
  | custodyConditioningDone (channel : Nat)
  /-- ENGINE_SELECT (R43) -/
  | engineSelect
  /-- ENGINE_CONDITIONING_DONE (R44) -/
  | engineConditioningDone
  /-- AGE_TIMER_EXPIRY (R56) -/
  | ageTimerExpiry (channel : Nat)
  /-- SWEEP_PERIOD_EXPIRY (R48) -/
  | sweepPeriodExpiry
  /-- SWEEP (R47) -/
  | sweep
  /-- READ_CHANNEL (R59) -/
  | readChannel
  /-- READ_PEAKS (R60) -/
  | readPeaks
  /-- REF_STALE_TIMER_EXPIRY (R73) -/
  | refStaleTimerExpiry (run : Nat)
  /-- READ_RUN (R82) -/
  | readRun
  /-- BOUNDARY (R85) -/
  | boundary
  /-- TIME_WRAP (R84) -/
  | timeWrap
  /-- SET_TIME (R88, R89) -/
  | setTime
  /-- SET_MODE (R91) -/
  | setMode
  /-- LINEUP_TIMER_EXPIRY (R92) -/
  | lineupTimerExpiry
  /-- RUNDOWN_TIMER_EXPIRY (R93) -/
  | rundownTimerExpiry
  /-- QUIET_DWELL_EXPIRY (R93) -/
  | quietDwellExpiry
  /-- READ_STATUS (R199) -/
  | readStatus
  /-- START_CONFIRM_EXPIRY (R110) -/
  | startConfirmExpiry (compressor : Nat)
  /-- MINIMUM_RUN_EXPIRY (R111) -/
  | minimumRunExpiry (compressor : Nat)
  /-- STOP_CONFIRM_EXPIRY (R112) -/
  | stopConfirmExpiry (compressor : Nat)
  /-- COOLDOWN_EXPIRY (R113) -/
  | cooldownExpiry (compressor : Nat)
  /-- START_MARK_AGEOUT (R108) -/
  | startMarkAgeout (compressor : Nat)
  /-- RESET_UNIT (R117) -/
  | resetUnit
  /-- SET_UNIT_AUTO (R118) -/
  | setUnitAuto
  /-- SET_UNIT_MANUAL (R118) -/
  | setUnitManual
  /-- ROTATE (R119) -/
  | rotate
  /-- READ_COMPRESSOR (R129) -/
  | readCompressor
  /-- ADSORB_LIMIT_EXPIRY (R139) -/
  | adsorbLimitExpiry (train : Nat)
  /-- OPENING_VALVE_TIMEOUT (R141) -/
  | openingValveTimeout (train : Nat)
  /-- RELEASING_VALVE_TIMEOUT (R142) -/
  | releasingValveTimeout (train : Nat)
  /-- HEAT_TIME_REACHED (R146) -/
  | heatTimeReached (train : Nat) (bed : BedId)
  /-- HEAT_SHORT (R146) -/
  | heatShort (train : Nat) (bed : BedId)
  /-- COOL_TIMER_EXPIRY (R147) -/
  | coolTimerExpiry (train : Nat) (bed : BedId)
  /-- HOLD_TRAIN (R148) -/
  | holdTrain
  /-- RESUME_TRAIN (R148) -/
  | resumeTrain
  /-- FORCE_SWITCH (R145) -/
  | forceSwitch
  /-- RETURN_BED (R149) -/
  | returnBed
  /-- READ_DRYER (R154) -/
  | readDryer
  /-- NOMINATE (R159) -/
  | nominate
  /-- CLOSE_COMPLETE (R174) -/
  | closeComplete
  /-- TRANSFER (R179) -/
  | transfer
  /-- READ_SHIPPER (R182) -/
  | readShipper
  /-- READ_CLOSE (R178) -/
  | readClose
  /-- CLEAR_EVENTS (R192) -/
  | clearEvents
  /-- FORCE_EVENT (R193) -/
  | forceEvent
  /-- READ_EVENTS (R194) -/
  | readEvents
  /-- READ_TABLE (R200) -/
  | readTable
  /-- RESTART (R201) -/
  | restart
  /-- UNKNOWN_REQUEST (R198) -/
  | unknownRequest
  /-- LOAD_BEGIN (R203) -/
  | loadBegin
  /-- LOAD_DATA (R203) -/
  | loadData
  /-- LOAD_ABORT (R203) -/
  | loadAbort
  /-- LOAD_COMMIT (R204) -/
  | loadCommit
  /-- COMMIT_COMPLETE (R204) -/
  | commitComplete
  /-- ABORT_DELIMITER (R1): the port that received it, and what it received before the delimiter and behind it -/
  | abortDelimiter (abort : LineAbort)
  /-- COMMIT_REFUSED (R204) -/
  | commitRefused
  deriving DecidableEq, Repr

end Sys2Proof
end

