-- ==== Sys2Proof/Decode.lean ====
section
/-!
DEFINITION. Reading a command from the bits of spec/opcode_table.json. The table gives no row any bits: the part's
commands are frames, pin levels and events, and what a frame's octets mean is in Machine/Operands.lean.
-/

namespace Sys2Proof

/-- The command a word spells by the table's bits: none, since no row has bits. -/
def decodeTableWord (_nbits _w : Nat) : Option Instr := none

end Sys2Proof
end

