-- ==== Sys2Proof/Config.lean ====
section
/-!
DEFINITION. The numbers the manual fixes for the part (spec/00, "Capacities") and the free values: constants
with no body, so that nothing can be proved of a value the manual does not state.
-/

namespace Sys2Proof

/-- Milliseconds in a second. -/
abbrev Config.second : Nat := 1000

/-- Station time is a 48-bit count (spec/05 R84). -/
abbrev Config.timeModulus : Nat := 2 ^ 48

/-- A joule count saturates here (spec/04 R62), and a bed loading likewise (spec/07 R134). -/
abbrev Config.max64 : Nat := 2 ^ 64 - 1

/-- What the OBA holds after a sum outside the signed 48-bit range of spec/08 R157, which states no result there
(log entry 8). Read as the 48 bits of the account. -/
opaque Config.freeOba : Nat → BitVec 48

/-- The interval number after 4,294,967,295, for which spec/08 R157 states no successor (log entry 8). -/
opaque Config.freeInterval : Nat → BitVec 32

end Sys2Proof
end

