-- ==== Sys2Proof/WellFormed.lean ====
section
/-!
DEFINITION. When a command names something the part has (spec/00, "Capacities"). A command that does not is
refused by name and has no effect (log entry 25).
-/

namespace Sys2Proof

/-- The command's operand names one of the 48 unit entries, 64 channels, 8 runs, 6 compressors or 2 trains. -/
def Instr.wellFormed : Instr → Bool
  | .silenceTimeout i => i < 48
  | .intervalTimerExpiry i => i < 64
  | .custodyConditioningDone i => i < 64
  | .ageTimerExpiry i => i < 64
  | .refStaleTimerExpiry i => i < 8
  | .startConfirmExpiry i => i < 6
  | .minimumRunExpiry i => i < 6
  | .stopConfirmExpiry i => i < 6
  | .cooldownExpiry i => i < 6
  | .startMarkAgeout i => i < 6
  | .adsorbLimitExpiry i => i < 2
  | .openingValveTimeout i => i < 2
  | .releasingValveTimeout i => i < 2
  | .heatTimeReached i _ => i < 2
  | .heatShort i _ => i < 2
  | .coolTimerExpiry i _ => i < 2
  | .powerOnReset => true
  | .custodyLineChange _ => true
  | .frameArrivalPortF _ => true
  | .frameArrivalPortS _ => true
  | .portSSelect => true
  | .portSTransmitEnd => true
  | .portFSelect => true
  | .portFTransmitEnd => true
  | .releaseUnit => true
  | .readUnit => true
  | .engineSelect => true
  | .engineConditioningDone => true
  | .sweepPeriodExpiry => true
  | .sweep => true
  | .readChannel => true
  | .readPeaks => true
  | .readRun => true
  | .boundary => true
  | .timeWrap => true
  | .setTime => true
  | .setMode => true
  | .lineupTimerExpiry => true
  | .rundownTimerExpiry => true
  | .quietDwellExpiry => true
  | .readStatus => true
  | .resetUnit => true
  | .setUnitAuto => true
  | .setUnitManual => true
  | .rotate => true
  | .readCompressor => true
  | .holdTrain => true
  | .resumeTrain => true
  | .forceSwitch => true
  | .returnBed => true
  | .readDryer => true
  | .nominate => true
  | .closeComplete => true
  | .transfer => true
  | .readShipper => true
  | .readClose => true
  | .clearEvents => true
  | .forceEvent => true
  | .readEvents => true
  | .readTable => true
  | .restart => true
  | .unknownRequest => true
  | .loadBegin => true
  | .loadData => true
  | .loadAbort => true
  | .loadCommit => true
  | .commitComplete => true
  | .abortDelimiter _ => true
  | .commitRefused => true

end Sys2Proof
end

