-- ==== Sys2Proof/Machine/State.lean ====
section
/-!
DEFINITION. The state of the GS-410 as plain data, and the state right after a power-on reset of a part whose
retained store holds nothing yet. Field by field the rule of spec/ that names it; INVENTORY.md lists them all.
Times of timers are elapsed milliseconds since the power-on reset (`State.now`); a running timer is held as the
moment it ends, or as the moment it started where its age is read.
-/

namespace Sys2Proof.Machine

/-! ### Frames, queues and requests (spec/01, spec/11) -/

/-- A link address: segment and unit. -/
structure Addr where
  seg : Octet
  unit : Octet
  deriving DecidableEq, Repr

/-- A valid frame (R2, R213). Its Length and check follow from the other fields. -/
structure Frame where
  dst : Addr
  src : Addr
  kind : Octet
  seq : Octet
  payload : List Octet
  deriving DecidableEq, Repr

/-- The lineups a LINEUP command names (R12). -/
inductive LineupArg where
  | shut
  | inject
  | withdraw
  deriving DecidableEq, Repr

/-- A command the part originates, with its argument (R12). -/
inductive Command where
  | start
  | stop
  | speed (rpm : Nat)
  | openBed (bed : BedId)
  | closeBed (bed : BedId)
  | lineup (l : LineupArg)
  deriving DecidableEq, Repr

/-- The two sorts of own command (R12). -/
inductive OwnSort where
  | action
  | setpoint
  deriving DecidableEq, Repr

/-- An entry of the own-command queue (R12). -/
structure OwnEntry where
  target : Nat
  sort : OwnSort
  command : Command
  deriving DecidableEq, Repr

/-- A response waiting in the response queue: header fields of R14 and the payloads of the parts not yet sent
(R215). -/
structure Response where
  dst : Addr
  src : Addr
  seq : Octet
  parts : List (List Octet)
  deriving DecidableEq, Repr

/-- A request as the request queue holds it (R196). The request code is the first payload octet (R215). -/
structure Request where
  src : Addr
  dst : Addr
  seq : Octet
  payload : List Octet
  noResponse : Bool
  deriving DecidableEq, Repr

/-- What the Link Interface holds besides the own-command and response queues (R1, R9, R11, R14, R16, R17). -/
structure LinkState where
  rxF : Option (List Octet)
  rxS : Option (List Octet)
  txF : Option Frame
  txS : Option Frame
  upQ : List Frame
  downQ : List Frame
  ownRunF : Nat
  ownRunS : Nat
  seqF : Octet
  seqS : Octet
  deriving DecidableEq, Repr

/-! ### Tables in effect -/

/-- An entry of the own-address table (R3). -/
structure OwnAddr where
  addr : Addr
  ignoreSeg : Bool
  enabled : Bool
  deriving DecidableEq, Repr

/-- The LINK table (R4). -/
structure LinkTable where
  own : List OwnAddr
  extended : Bool
  alertDst : Addr
  deriving DecidableEq, Repr

/-- The classes of field units (R19), in the order R19 lists them. -/
inductive UnitClass where
  | meter
  | transmitter
  | analyser
  | compressor
  | dryerValves
  | stationValves
  | generic
  deriving DecidableEq, Repr

/-- The configuration part of a unit entry (R19). -/
structure UnitCfg where
  inUse : Bool
  addr : Addr
  cls : UnitClass
  timeout : Nat
  deriving DecidableEq, Repr

/-- Channel classes (R31). -/
inductive ChannelClass where
  | custody
  | process
  | survey
  deriving DecidableEq, Repr

/-- Quantities of channels (R31). -/
inductive Quantity where
  | pressure
  | temperature
  | flowRate
  | water
  | calorific
  | generic
  deriving DecidableEq, Repr

/-- Comparator modes (R31). -/
inductive CmpMode where
  | off
  | above
  | below
  | inside
  | outside
  deriving DecidableEq, Repr

/-- The parameters of a comparator (R31). -/
structure Comparator where
  mode : CmpMode
  t1 : Int
  t2 : Int
  hyst : Nat
  deriving DecidableEq, Repr

/-- The parameters of a channel (R31). Times are in the units of R31: ms and s. -/
structure ChannelCfg where
  inUse : Bool
  unit : Nat
  localIx : Nat
  cls : ChannelClass
  quantity : Quantity
  rawMin : Int
  rawMax : Int
  gain : Int
  offset : Int
  engMin : Int
  engMax : Int
  profile : Nat
  minInterval : Nat
  maxAge : Nat
  cmpA : Comparator
  cmpB : Comparator
  spanFormat : Bool
  deriving DecidableEq, Repr

/-- One term of a filter tap: `+2^(-exp)` or `-2^(-exp)` (R52, R53). -/
structure Term where
  neg : Bool
  exp : Nat
  deriving DecidableEq, Repr

/-- A filter profile: its taps in order, each with up to three terms (R53). -/
structure Profile where
  taps : List (List Term)
  deriving DecidableEq, Repr

/-- Roles of meter runs (R62). -/
inductive Role where
  | station
  | fuel
  | regen
  | unused
  deriving DecidableEq, Repr

/-- The parameters of a run (R63). -/
structure RunCfg where
  role : Role
  flow : Nat
  press : Nat
  temp : Nat
  cal : Option Nat
  fallbackH : Nat
  pb : Nat
  tb : Nat
  zb : Nat
  curve : List (Nat × Nat)
  gapCap : Nat
  subst : Int
  refStale : Nat
  ptMaxAge : Nat
  deriving DecidableEq, Repr

/-- The STATION table (R86). -/
structure StationCfg where
  lMin : Nat
  sweep : Nat
  storage : Option Nat
  pipeline : Option Nat
  margin : Nat
  hyst : Nat
  quietThreshold : Nat
  quietDwell : Nat
  rundown : Nat
  lineup : Nat
  cutoff : Nat
  deriving DecidableEq, Repr

/-- Modes of a duty record (R103). -/
inductive UnitMode where
  | auto
  | manual
  deriving DecidableEq, Repr

/-- The parameters of a duty record (R102). -/
structure CompCfg where
  inUse : Bool
  unit : Nat
  capacity : Nat
  sMin : Nat
  sMax : Nat
  pMin : Nat
  deadband : Nat
  startConfirm : Nat
  stopConfirm : Nat
  minRun : Nat
  cooldown : Nat
  budget : Nat
  window : Nat
  initial : UnitMode
  deriving DecidableEq, Repr

/-- Which comparator of a channel a train names (R132). -/
inductive CmpId where
  | a
  | b
  deriving DecidableEq, Repr

/-- The parameters of a train (R132). -/
structure DryerCfg where
  inUse : Bool
  unit : Nat
  run : Nat
  inlet : Nat
  outlet : Nat
  breakCmp : CmpId
  regenCh : Option Nat
  regenCmp : Option CmpId
  defaultInlet : Nat
  capacity : Nat
  derate : Nat
  bedCapacity : Nat
  switchPercent : Nat
  resume : Nat
  adsorbMax : Nat
  heat : Nat
  heatMax : Nat
  cool : Nat
  valveConfirm : Nat
  deriving DecidableEq, Repr

/-- An entry of the SHIPPERS table (R156); code 0 marks the slot unused. -/
structure ShipperCfg where
  code : Nat
  firm : Bool
  rank : Nat
  injRight : Nat
  wdRight : Nat
  space : Nat
  deriving DecidableEq, Repr

/-- An entry of the EVENTS table (R186). -/
structure EventCfg where
  alertEnabled : Bool
  priority : Nat
  deriving DecidableEq, Repr

/-- The ten tables in effect (R202). -/
structure Tables where
  link : LinkTable
  units : List UnitCfg
  channels : List ChannelCfg
  filters : List Profile
  runs : List RunCfg
  station : StationCfg
  compressors : List CompCfg
  dryers : List DryerCfg
  shippers : List ShipperCfg
  events : List EventCfg
  deriving DecidableEq, Repr

/-- The tables by their codes 0 to 9 (R215). -/
inductive TableId where
  | link
  | units
  | channels
  | filters
  | runs
  | station
  | compressors
  | dryers
  | shippers
  | events
  deriving DecidableEq, Repr

/-- The entry check of one table entry (R208): `bad` when its contents and its check disagree, `mark` when it has
been found bad. -/
structure EntryParity where
  bad : Bool
  mark : Bool
  deriving DecidableEq, Repr

/-- The entry checks and parity marks of every table in effect (R208). FILTERS profile n is at index n - 1. -/
structure Parity where
  link : List EntryParity
  units : List EntryParity
  channels : List EntryParity
  filters : List EntryParity
  runs : List EntryParity
  station : List EntryParity
  compressors : List EntryParity
  dryers : List EntryParity
  shippers : List EntryParity
  events : List EntryParity
  deriving DecidableEq, Repr

/-! ### Unit Directory (spec/02) -/

/-- Attach states (R19). -/
inductive Attach where
  | absent
  | present
  | held
  | mismatch
  deriving DecidableEq, Repr

/-- What a unit said of itself (R19); an unrecognised class is `none`. -/
structure Identity where
  cls : Option UnitClass
  channels : Nat
  revision : Octet
  deriving DecidableEq, Repr

/-- The live part of a unit entry (R19). `silence` is the end of the silence timer. -/
structure UnitLive where
  attach : Attach
  departed : Bool
  identity : Option Identity
  lastHeard : Option Nat
  silence : Option Nat
  deriving DecidableEq, Repr

/-! ### Sample channels and conditioning (spec/02, spec/03) -/

/-- A sample item as far as its channel is concerned (R34). -/
structure Item where
  raw : Int
  quality : Octet
  deriving DecidableEq, Repr

/-- Engine requests (R33). -/
inductive EngineRequest where
  | none
  | waiting
  | inService
  deriving DecidableEq, Repr

/-- Qualities (R33). -/
inductive Quality where
  | good
  | suspect
  | bad
  | stale
  deriving DecidableEq, Repr

/-- The filter a conditioning works with (R52, R53): the profile as it stood when the conditioning began, `none`
for profile 0, and whether the profile carries a parity mark. -/
structure FilterUse where
  profile : Option Profile
  marked : Bool
  deriving DecidableEq, Repr

/-- The fixed inputs of a conditioning in progress (R49), and whether a commit has made its result void (R32). -/
structure Conditioning where
  raw : Int
  rawQ : Octet
  cfg : ChannelCfg
  filter : FilterUse
  discard : Bool
  deriving DecidableEq, Repr

/-- The state record of a channel (R33) and its timing and progress state (R39). -/
structure ChannelState where
  raw : Int
  rawQ : Octet
  pendingItem : Option Item
  lastAccept : Option Nat
  request : EngineRequest
  scaled : Option Int
  history : List Int
  filtered : Option Int
  quality : Quality
  peakMax : Option Int
  peakMin : Option Int
  cmpA : Bool
  cmpB : Bool
  lastGood : Option Int
  intervalUntil : Option Nat
  ageStart : Option Nat
  custody : Option Conditioning
  unconditioned : Bool
  deriving DecidableEq, Repr

/-- The Conditioning Engine, the survey sweep and its period timer (R43, R45, R48). -/
structure EngineState where
  serving : Option (Nat × Conditioning)
  remaining : List Nat
  sweepDue : Option Nat
  deriving DecidableEq, Repr

/-! ### Meter runs (spec/04) -/

/-- An accumulator slot: joules of the open interval and the kWh carry (R62). -/
structure Slot where
  joules : Nat
  carry : Nat
  deriving DecidableEq, Repr

/-- Reference states (R73). -/
inductive RefState where
  | none
  | ready
  | stale
  | fault
  deriving DecidableEq, Repr

/-- Which inputs of a trigger were substituted, held, capped or clamped (R82). -/
structure InputFlags where
  dtCapped : Bool
  qSubstituted : Bool
  qClamped : Bool
  pHeld : Bool
  pSubstituted : Bool
  pClamped : Bool
  tHeld : Bool
  tSubstituted : Bool
  tClamped : Bool
  zClamped : Bool
  hHeld : Bool
  hSubstituted : Bool
  deriving DecidableEq, Repr

/-- The last trigger record (R82). `acc` is the slot the energy went to, none for q = 0. -/
structure TriggerRecord where
  dt : Nat
  q : Int
  p : Nat
  t : Nat
  z : Nat
  h : Nat
  va : Nat
  vb : Nat
  e : Nat
  acc : Option Nat
  flags : InputFlags
  deriving DecidableEq, Repr

/-- The state record of a run (R62). Its parity mark is in `Parity.runs`. -/
structure RunState where
  role : Role
  slots : List Slot
  rV : Nat
  rE : Nat
  mark : Option Nat
  lastP : Option Nat
  lastT : Option Nat
  lastH : Option Nat
  ref : RefState
  refTimer : Option Nat
  estimated : Bool
  last : Option TriggerRecord
  deriving DecidableEq, Repr

/-! ### Time and mode (spec/05) -/

/-- Station time and the running interval (R84, R85). -/
structure TimeState where
  count : Nat
  unset : Bool
  start : Nat
  next : Option Nat
  stepFlag : Bool
  firstFlag : Bool
  boundaries : Nat
  deriving DecidableEq, Repr

/-- A direction of flow: the target of a transition and the direction of a nomination. -/
inductive Dir where
  | inject
  | withdraw
  deriving DecidableEq, Repr

/-- Phases of TRANSITION (R90). -/
inductive Phase where
  | rundown
  | lineup
  deriving DecidableEq, Repr

/-- The station mode (R90). -/
inductive Mode where
  | shutIn
  | inject
  | withdraw
  | transition (target : Dir) (phase : Phase)
  deriving DecidableEq, Repr

/-- Lineups the station valve set reports (R90). -/
inductive Lineup where
  | shut
  | inject
  | withdraw
  | moving
  deriving DecidableEq, Repr

/-- The mode machine (R90, R99). -/
structure ModeState where
  mode : Mode
  esd : Bool
  lineup : Option Lineup
  tLineup : Option Nat
  tRundown : Option Nat
  tQuiet : Option Nat
  flag : Bool
  deriving DecidableEq, Repr

/-! ### Compressor duty (spec/06) -/

/-- Duty states (R103). -/
inductive DutyState where
  | unavailable
  | stopped
  | starting
  | running
  | unloading
  | cooldown
  | lockedOut
  deriving DecidableEq, Repr

/-- Conditions a compressor reports (R105). -/
inductive Condition where
  | stopped
  | transient
  | running
  | tripped
  deriving DecidableEq, Repr

/-- The live part of a duty record (R103). Its parity mark is in `Parity.compressors`. -/
structure CompRec where
  state : DutyState
  entry : Nat
  mode : UnitMode
  marks : List Nat
  failures : Nat
  runSec : Nat
  runMs : Nat
  lastSpeed : Option Nat
  lastReport : Option Condition
  stopPending : Bool
  lostOp : Bool
  lockHeld : Bool
  tStart : Option Nat
  tStop : Option Nat
  tMinRun : Option Nat
  tCool : Option Nat
  deriving DecidableEq, Repr

/-- The Compressor Duty Controller (R103, R119, R120, R123, R131). -/
structure CompState where
  recs : List CompRec
  order : List Nat
  injTotal : Nat
  wdTotal : Nat
  published : Nat
  heldMode : Mode
  heldEsd : Bool
  heldFlag : Bool
  deriving DecidableEq, Repr

/-! ### Gas drying (spec/07) -/

/-- Bed states (R134). -/
inductive BedState where
  | unsynced
  | standby
  | adsorbing
  | releasing
  | heating
  | cooling
  | outOfService
  deriving DecidableEq, Repr

/-- Valve positions (R136). -/
inductive Position where
  | closed
  | opened
  | moving
  | fault
  deriving DecidableEq, Repr

/-- A bed record (R134). The timers are counts of elapsed ms. `adsorbDone` and `heatDone` are the model's own: the
adsorb limit has expired since the bed became ADSORBING (R139); the heat time has been taken since the bed began
HEATING (R146). -/
structure Bed where
  state : BedState
  loading : Nat
  report : Option Position
  adsorbMs : Nat
  heatMs : Nat
  coolMs : Nat
  adsorbDone : Bool
  heatDone : Bool
  deriving DecidableEq, Repr

/-- Phases of a switch operation (R134). -/
inductive SwitchPhase where
  | opening
  | releasing
  deriving DecidableEq, Repr

/-- A switch operation in flight (R134, R140); `valve` is the end of the valve timer. -/
structure SwitchOp where
  phase : SwitchPhase
  incoming : BedId
  outgoing : Option BedId
  valve : Nat
  deriving DecidableEq, Repr

/-- Train states (R134). -/
inductive TrainState where
  | inService
  | degraded
  | outOfService
  deriving DecidableEq, Repr

/-- A train record with its three beds (R134). Its parity mark is in `Parity.dryers`. -/
structure Train where
  state : TrainState
  synced : Bool
  held : Bool
  request : Bool
  switch : Option SwitchOp
  residue : Nat
  published : Nat
  bedA : Bed
  bedB : Bed
  bedC : Bed
  deriving DecidableEq, Repr

/-- The Drying Controller (R134, R139, R151). -/
structure DryState where
  trains : List Train
  heldMode : Mode
  total : Nat
  deriving DecidableEq, Repr

/-! ### Accounts (spec/08) -/

/-- The volatile account record of a slot (R157). -/
structure AccSlot where
  dir : Dir
  req : Nat
  conf : Nat
  next : Option (Dir × Nat)
  deriving DecidableEq, Repr

/-- A boundary notice (R85). -/
structure Notice where
  num : Nat
  start : Nat
  stop : Nat
  stepFlag : Bool
  firstFlag : Bool
  deriving DecidableEq, Repr

/-- A handover group (R167). -/
structure Group where
  num : Nat
  mInj : Nat
  mWd : Nat
  tIn : Nat
  tOut : Nat
  fuel : Nat
  regen : Nat
  estimated : Bool
  complete : Bool
  deriving DecidableEq, Repr

/-- A shipper line of a close record (R176). -/
structure CloseLine where
  slot : Nat
  inj : Nat
  wd : Nat
  fuel : Nat
  drying : Nat
  after : Nat
  deriving DecidableEq, Repr

/-- A close record (R176). -/
structure CloseRecord where
  num : Nat
  start : Nat
  stop : Nat
  estimated : Bool
  timeStep : Bool
  first : Bool
  curtailed : Bool
  mInj : Nat
  mWd : Nat
  tIn : Nat
  tOut : Nat
  fuel : Nat
  regen : Nat
  obaDelta : Int
  lines : List CloseLine
  pending : Bool
  deriving DecidableEq, Repr

/-- The snapshot of a slot at the beginning of a close (R166). -/
structure SnapSlot where
  dir : Dir
  conf : Nat
  inventory : Nat
  space : Nat
  deriving DecidableEq, Repr

/-- What the allocation of a close has computed and is writing to the retained store (R169 to R174). -/
structure AllocResult where
  inventories : List Nat
  oba : Int
  obaDelta : Int
  lines : List CloseLine
  capped : Option Nat
  group : Group
  deriving DecidableEq, Repr

/-- A close in flight (R166, R168): snapshot, projected inventories and, once taken, the allocation. -/
structure CloseOp where
  notice : Notice
  slots : List SnapSlot
  oba : Int
  curtailed : Bool
  projected : List Nat
  alloc : Option AllocResult
  deriving DecidableEq, Repr

/-- The volatile state of the Account Engine (R157); it is CLOSING while `closing` is present. -/
structure AcctState where
  slots : List AccSlot
  closing : Option CloseOp
  deferred : List Notice
  groups : List Group
  compCap : Nat
  dryCap : Nat
  flag : Bool
  curtailed : Bool
  provisional : Bool
  toldInj : Nat
  toldWd : Nat
  deriving DecidableEq, Repr

/-! ### Events (spec/09) -/

/-- Latch, count and subject of a source (R184). Mask, priority, parity mark and 'queued' are read from the EVENTS
table, `Parity.events` and the alert queue. -/
structure SourceRec where
  latch : Bool
  count : Nat
  subject : Octet
  deriving DecidableEq, Repr

/-- An alert record in the alert queue (R188). -/
structure Alert where
  source : Nat
  priority : Nat
  count : Nat
  subject : Octet
  first : Nat
  last : Nat
  unset : Bool
  deriving DecidableEq, Repr

/-- The Event Unit (R184, R188). -/
structure EventState where
  recs : List SourceRec
  alerts : List Alert
  deriving DecidableEq, Repr

/-! ### Management and the retained store (spec/10) -/

/-- The request in service (R196): one that its row is to carry out, a commit in flight (R204), or one whose response
the response queue could not take (R197). -/
inductive Service where
  | taken (q : Request)
  | committing (q : Request)
  | holding (r : Response)
  deriving DecidableEq, Repr

/-- An open load in the staging area (R203). -/
structure Load where
  table : TableId
  length : Nat
  crc : Check
  octets : List Octet
  written : List Bool
  deriving DecidableEq, Repr

/-- The Management Engine (R196, R203, R212). -/
structure MgmtState where
  waiting : List Request
  service : Option Service
  load : Option Load
  bootBad : Bool
  deriving DecidableEq, Repr

/-- A table image in the retained store with its length and CRC (R210). -/
structure StoredImage where
  octets : List Octet
  length : Nat
  crc : Check
  deriving DecidableEq, Repr

/-- The committed images by table (R210). -/
structure Committed where
  link : Option StoredImage
  units : Option StoredImage
  channels : Option StoredImage
  filters : Option StoredImage
  runs : Option StoredImage
  station : Option StoredImage
  compressors : Option StoredImage
  dryers : Option StoredImage
  shippers : Option StoredImage
  events : Option StoredImage
  deriving DecidableEq, Repr

/-- The retained store (R210). -/
structure Retained where
  committed : Committed
  pendRuns : Option StoredImage
  pendStation : Option StoredImage
  pendShippers : Option StoredImage
  inventories : List Nat
  oba : Int
  lastInterval : Nat
  history : List CloseRecord
  runSeconds : List Nat
  deriving DecidableEq, Repr

/-! ### The machine -/

/-- The whole machine. `now`, `pending` and `free` are the model's own: the elapsed time, the commands that wait, and
the counter a free value is drawn with. -/
structure State where
  now : Nat
  pending : List Instr
  link : LinkState
  own : List OwnEntry
  resp : List Response
  tables : Tables
  parity : Parity
  units : List UnitLive
  chans : List ChannelState
  engine : EngineState
  runs : List RunState
  time : TimeState
  mode : ModeState
  comp : CompState
  dry : DryState
  acct : AcctState
  ev : EventState
  mgmt : MgmtState
  custody : Bool
  ret : Retained
  free : Nat
  deriving DecidableEq, Repr

/-- The part has no fault that stops it: what goes wrong is an effect on its state (INVENTORY.md, "Faults"). -/
inductive Fault where
  deriving DecidableEq, Repr

/-- Why a command has no meaning. -/
inductive Refusal where
  /-- Raised by `exec` for a row that has no meaning yet (none). Safe. -/
  | notModelled (mnemonic : String)
  /-- Raised by an event command whose operand names an entry, channel, run, compressor or train that the part does
  not have (spec/00, "Capacities"; log entry 25). Safe: no claim about such a command can be proved of the part. -/
  | noSuchTarget
  deriving DecidableEq, Repr

/-! ### Reset values -/

def UnitCfg.blank : UnitCfg := ⟨false, ⟨0, 0⟩, .meter, 0⟩

def Comparator.blank : Comparator := ⟨.off, 0, 0, 0⟩

def ChannelCfg.blank : ChannelCfg :=
  ⟨false, 0, 0, .custody, .pressure, 0, 0, 0, 0, 0, 0, 0, 0, 0, .blank, .blank, false⟩

/-- Each default profile has one tap of the single term +2^0 (R53). -/
def Profile.passing : Profile := ⟨[[⟨false, 0⟩]]⟩

def RunCfg.blank : RunCfg := ⟨.unused, 0, 0, 0, none, 0, 0, 0, 0, [], 0, 0, 0, 0⟩

/-- The default STATION table (R86). -/
def StationCfg.initial : StationCfg :=
  ⟨60, 0, none, none, 300000, 50000, 10000, 60, 1200, 300, 80⟩

def CompCfg.blank : CompCfg := ⟨false, 0, 0, 0, 0, 0, 0, 0, 0, 0, 0, 0, 0, .auto⟩

def DryerCfg.blank : DryerCfg :=
  ⟨false, 0, 0, 0, 0, .a, none, none, 0, 0, 0, 0, 0, 0, 0, 0, 0, 0, 0⟩

def ShipperCfg.blank : ShipperCfg := ⟨0, true, 0, 0, 0, 0⟩

/-- In the default EVENTS table every source is alert enabled with priority 2 (R186). -/
def EventCfg.initial : EventCfg := ⟨true, 2⟩

/-- The default LINK table (R4). -/
def LinkTable.initial : LinkTable where
  own := [⟨⟨0xFE, 0xFE⟩, false, true⟩, ⟨⟨0, 0⟩, false, false⟩, ⟨⟨0, 0⟩, false, false⟩, ⟨⟨0xFF, 0xFF⟩, false, true⟩]
  extended := false
  alertDst := ⟨0xFF, 0xFF⟩

/-- The ten default tables. -/
def Tables.initial : Tables where
  link := .initial
  units := List.replicate 48 .blank
  channels := List.replicate 64 .blank
  filters := List.replicate 7 .passing
  runs := List.replicate 8 .blank
  station := .initial
  compressors := List.replicate 6 .blank
  dryers := List.replicate 2 .blank
  shippers := List.replicate 32 .blank
  events := List.replicate 48 .initial

def EntryParity.sound : EntryParity := ⟨false, false⟩

/-- No entry marked, every entry check freshly formed (R208). -/
def Parity.clear : Parity where
  link := List.replicate 5 .sound
  units := List.replicate 48 .sound
  channels := List.replicate 64 .sound
  filters := List.replicate 7 .sound
  runs := List.replicate 8 .sound
  station := List.replicate 1 .sound
  compressors := List.replicate 6 .sound
  dryers := List.replicate 2 .sound
  shippers := List.replicate 32 .sound
  events := List.replicate 48 .sound

/-- A unit entry after either reset (R30). -/
def UnitLive.initial : UnitLive := ⟨.absent, false, none, none, none⟩

/-- A channel in its reset state (R38, R39); `age` is the moment its age timer started, none when it is stopped. -/
def ChannelState.initial (age : Option Nat) : ChannelState where
  raw := 0
  rawQ := 2
  pendingItem := none
  lastAccept := none
  request := .none
  scaled := none
  history := []
  filtered := none
  quality := .stale
  peakMax := none
  peakMin := none
  cmpA := false
  cmpB := false
  lastGood := none
  intervalUntil := none
  ageStart := age
  custody := none
  unconditioned := false

/-- A run after a power-on reset (R83). -/
def RunState.initial (role : Role) (ref : RefState) : RunState where
  role := role
  slots := List.replicate 4 ⟨0, 0⟩
  rV := 0
  rE := 0
  mark := none
  lastP := none
  lastT := none
  lastH := none
  ref := ref
  refTimer := none
  estimated := false
  last := none

/-- A duty record after a reset (R131). -/
def CompRec.initial (entry : Nat) (mode : UnitMode) (runSec runMs : Nat) : CompRec where
  state := .unavailable
  entry := entry
  mode := mode
  marks := []
  failures := 0
  runSec := runSec
  runMs := runMs
  lastSpeed := none
  lastReport := none
  stopPending := false
  lostOp := false
  lockHeld := false
  tStart := none
  tStop := none
  tMinRun := none
  tCool := none

def Bed.initial : Bed := ⟨.unsynced, 0, none, 0, 0, 0, false, false⟩

/-- A train after a reset (R155). -/
def Train.initial : Train where
  state := .outOfService
  synced := false
  held := false
  request := false
  switch := none
  residue := 0
  published := 0
  bedA := .initial
  bedB := .initial
  bedC := .initial

def AccSlot.initial : AccSlot := ⟨.inject, 0, 0, none⟩

def SourceRec.initial : SourceRec := ⟨false, 0, 0xFF⟩

/-- The retained store of a part that has never committed a table or closed an interval (log entry 6). -/
def Retained.blank : Retained where
  committed := ⟨none, none, none, none, none, none, none, none, none, none⟩
  pendRuns := none
  pendStation := none
  pendShippers := none
  inventories := List.replicate 32 0
  oba := 0
  lastInterval := 0
  history := []
  runSeconds := List.replicate 6 0

/-- The machine right after a power-on reset with nothing in the retained store (R18, R30, R38, R61, R83, R101, R131,
R155, R183, R195, R196, R203). -/
def State.reset : State where
  now := 0
  pending := []
  link := ⟨none, none, none, none, [], [], 0, 0, 0, 0⟩
  own := []
  resp := []
  tables := .initial
  parity := .clear
  units := List.replicate 48 .initial
  chans := List.replicate 64 (.initial none)
  engine := ⟨none, [], none⟩
  runs := List.replicate 8 (.initial .unused .ready)
  time := ⟨0, true, 0, none, false, true, 0⟩
  mode := ⟨.shutIn, false, none, none, none, none, false⟩
  comp := ⟨List.replicate 6 (.initial 0 .auto 0 0), [], 0, 0, 0, .shutIn, false, false⟩
  dry := ⟨List.replicate 2 .initial, .shutIn, 0⟩
  acct := ⟨List.replicate 32 .initial, none, [], [], 0, 0, false, false, false, 0, 0⟩
  ev := ⟨List.replicate 48 .initial, []⟩
  mgmt := ⟨[], none, none, false⟩
  custody := false
  ret := .blank
  free := 0

end Sys2Proof.Machine
end

