-- ==== Sys2Proof/Machine/Ops.lean ====
section
/-!
DEFINITION. The operations every block shares: octet strings and the CRC-16 (spec/01 R2, spec/11 R213), the rounding
terms and the largest-remainder division (spec/00, spec/08 R162), timers on elapsed time, entry checks of tables
(spec/10 R208), and reads and writes of one record of the state.
-/

namespace Sys2Proof.Machine

/-! ### Octet strings -/

/-- `n` octets of `v`, most significant first (R213). -/
def be : Nat → Nat → List Octet
  | 0, _ => []
  | n + 1, v => BitVec.ofNat 8 (v / 256 ^ n) :: be n v

/-- `n` octets of a signed number in two's complement (R213). -/
def beInt (n : Nat) (v : Int) : List Octet := be n (v % (256 ^ n : Nat)).toNat

/-- The number that octets spell, most significant first. -/
def ofBe (bs : List Octet) : Nat := bs.foldl (fun acc b => acc * 256 + b.toNat) 0

/-- The signed number that octets spell in two's complement. -/
def ofBeInt (bs : List Octet) : Int :=
  if 256 ^ bs.length ≤ 2 * ofBe bs then (ofBe bs : Int) - (256 ^ bs.length : Nat) else ofBe bs

/-- The unsigned field of `n` octets at octet `off`. -/
def fieldAt (bs : List Octet) (off n : Nat) : Nat := ofBe ((bs.drop off).take n)

/-- The signed field of `n` octets at octet `off`. -/
def fieldIntAt (bs : List Octet) (off n : Nat) : Int := ofBeInt ((bs.drop off).take n)

/-- A yes-or-no field (R202). -/
def beFlag (b : Bool) : List Octet := [if b then 1 else 0]

/-- A field that may be absent: a presence octet, then its full size (R202). -/
def beOpt (n : Nat) : Option Nat → List Octet
  | none => 0 :: be n 0
  | some v => 1 :: be n v

/-- A signed field that may be absent (R202). -/
def beOptInt (n : Nat) : Option Int → List Octet
  | none => 0 :: be n 0
  | some v => 1 :: beInt n v

/-- A list in a result: its count, then its present items (R215). -/
def beList (items : List (List Octet)) : List Octet := be 1 items.length ++ items.flatten

/-- Octets filled with 00h up to a size (R202). -/
def padTo (n : Nat) (bs : List Octet) : List Octet := bs ++ List.replicate (n - bs.length) 0

/-! ### CRC-16 (R2) -/

def crcBit (c : Check) : Check := if c.msb then (c <<< 1) ^^^ 0x1021#16 else c <<< 1

def crcOctet (c : Check) (b : Octet) : Check := Nat.repeat crcBit 8 (c ^^^ (b.setWidth 16 <<< 8))

/-- Polynomial 1021h, initial value FFFFh, most significant bit first, no final inversion (R2). -/
def crc16 (bs : List Octet) : Check := bs.foldl crcOctet 0xFFFF#16

/-! ### Rounding and division -/

/-- `num / den` rounded half away from zero (spec/00, "Rounding"). -/
def roundHalfAway (num : Int) (den : Nat) : Int :=
  if 0 ≤ num then (((2 * num.natAbs + den) / (2 * den) : Nat) : Int)
  else -(((2 * num.natAbs + den) / (2 * den) : Nat) : Int)

/-- `num / den` rounded half up (spec/00, "Rounding"). -/
def roundHalfUp (num : Int) (den : Nat) : Int := (2 * num + den) / (2 * (den : Int))

/-- The value held to the nearer end of a range. -/
def clampInt (lo hi v : Int) : Int := if v < lo then lo else if hi < v then hi else v

/-- The least multiple of `step` strictly greater than `t` (R85). -/
def leastMultipleAbove (t step : Nat) : Nat := (t / step + 1) * step

/-- The remainders of the largest-remainder division of `total` by `weights` (R162). -/
def remainders (total : Nat) (weights : List Nat) : List Nat :=
  weights.map fun w => total * w % weights.sum

/-- How many slots come before slot `i` in the order of remainders, largest first, lowest index first among
equals (R162). -/
def rankOf (rems : List Nat) (i : Nat) : Nat :=
  (List.range rems.length).countP fun j =>
    decide (rems.getD i 0 < rems.getD j 0) || (decide (rems.getD j 0 = rems.getD i 0) && decide (j < i))

/-- `total` divided over the slots in proportion to `weights` by largest remainder (R162); all zero when the weights
sum to 0. -/
def divideShares (total : Nat) (weights : List Nat) : List Nat :=
  if weights.sum = 0 then weights.map fun _ => 0
  else
    let leftover := total - (weights.map fun w => total * w / weights.sum).sum
    (List.range weights.length).map fun i =>
      total * weights.getD i 0 / weights.sum +
        (if rankOf (remainders total weights) i < leftover then 1 else 0)

/-! ### Timers -/

/-- A timer that is running has reached its end. -/
def fires (now : Nat) : Option Nat → Bool
  | none => false
  | some t => decide (t ≤ now)

/-- A timer started now for a duration; one of duration 0 expires at once and is not running afterwards. -/
def startTimer (now dur : Nat) : Option Nat := if dur = 0 then none else some (now + dur)

/-- The time that remains on a timer, absent when it is stopped. -/
def remainingMs (now : Nat) (t : Option Nat) : Option Nat := t.map (· - now)

/-! ### Entry checks of tables (R208) -/

def Parity.get (p : Parity) : TableId → List EntryParity
  | .link => p.link
  | .units => p.units
  | .channels => p.channels
  | .filters => p.filters
  | .runs => p.runs
  | .station => p.station
  | .compressors => p.compressors
  | .dryers => p.dryers
  | .shippers => p.shippers
  | .events => p.events

def Parity.put (p : Parity) (t : TableId) (l : List EntryParity) : Parity :=
  match t with
  | .link => { p with link := l }
  | .units => { p with units := l }
  | .channels => { p with channels := l }
  | .filters => { p with filters := l }
  | .runs => { p with runs := l }
  | .station => { p with station := l }
  | .compressors => { p with compressors := l }
  | .dryers => { p with dryers := l }
  | .shippers => { p with shippers := l }
  | .events => { p with events := l }

/-- The entry carries a parity mark. -/
def State.marked (s : State) (t : TableId) (i : Nat) : Bool := ((s.parity.get t).getD i .sound).mark

/-- A use of the entry finds it bad: its contents and check disagree and it carries no mark yet; a marked entry is not
checked again (R208). -/
def State.foundBad (s : State) (t : TableId) (i : Nat) : Bool :=
  ((s.parity.get t).getD i .sound).bad && !((s.parity.get t).getD i .sound).mark

def State.setMark (s : State) (t : TableId) (i : Nat) : State :=
  { s with parity := s.parity.put t ((s.parity.get t).modify i fun e => { e with mark := true }) }

/-- The next image of the table takes effect: every entry check is formed anew and every mark removed (R208). -/
def State.clearMarks (s : State) (t : TableId) : State :=
  { s with parity := s.parity.put t ((s.parity.get t).map fun _ => .sound) }

/-! ### Records of the state -/

def State.unitCfg (s : State) (i : Nat) : UnitCfg := s.tables.units.getD i .blank

def State.unit (s : State) (i : Nat) : UnitLive := s.units.getD i .initial

def State.onUnit (s : State) (i : Nat) (f : UnitLive → UnitLive) : State := { s with units := s.units.modify i f }

/-- The entry is in use and carries no parity mark (R19, R28). -/
def State.unitInUse (s : State) (i : Nat) : Bool := (s.unitCfg i).inUse && !s.marked .units i

def State.present (s : State) (i : Nat) : Bool := decide ((s.unit i).attach = .present)

def State.chCfg (s : State) (i : Nat) : ChannelCfg := s.tables.channels.getD i .blank

def State.chan (s : State) (i : Nat) : ChannelState := s.chans.getD i (.initial none)

def State.onChan (s : State) (i : Nat) (f : ChannelState → ChannelState) : State :=
  { s with chans := s.chans.modify i f }

def State.runCfg (s : State) (i : Nat) : RunCfg := s.tables.runs.getD i .blank

def State.run (s : State) (i : Nat) : RunState := s.runs.getD i (.initial .unused .ready)

def State.onRun (s : State) (i : Nat) (f : RunState → RunState) : State := { s with runs := s.runs.modify i f }

def State.compCfg (s : State) (i : Nat) : CompCfg := s.tables.compressors.getD i .blank

def State.compRec (s : State) (i : Nat) : CompRec := s.comp.recs.getD i (.initial 0 .auto 0 0)

def State.onComp (s : State) (i : Nat) (f : CompRec → CompRec) : State :=
  { s with comp := { s.comp with recs := s.comp.recs.modify i f } }

def State.dryerCfg (s : State) (i : Nat) : DryerCfg := s.tables.dryers.getD i .blank

def State.train (s : State) (i : Nat) : Train := s.dry.trains.getD i .initial

def State.onTrain (s : State) (i : Nat) (f : Train → Train) : State :=
  { s with dry := { s.dry with trains := s.dry.trains.modify i f } }

def Train.bed (t : Train) : BedId → Bed
  | .a => t.bedA
  | .b => t.bedB
  | .c => t.bedC

def Train.onBed (t : Train) (which : BedId) (f : Bed → Bed) : Train :=
  match which with
  | .a => { t with bedA := f t.bedA }
  | .b => { t with bedB := f t.bedB }
  | .c => { t with bedC := f t.bedC }

/-- The beds in letter order. -/
def allBeds : List BedId := [.a, .b, .c]

def State.shipper (s : State) (i : Nat) : ShipperCfg := s.tables.shippers.getD i .blank

def State.slot (s : State) (i : Nat) : AccSlot := s.acct.slots.getD i .initial

def State.onSlot (s : State) (i : Nat) (f : AccSlot → AccSlot) : State :=
  { s with acct := { s.acct with slots := s.acct.slots.modify i f } }

def State.inventory (s : State) (i : Nat) : Nat := s.ret.inventories.getD i 0

def State.source (s : State) (i : Nat) : SourceRec := s.ev.recs.getD i .initial

/-- The interval length in force, in minutes (R85); a parity mark leaves it in force (R209). -/
def State.lMin (s : State) : Nat := s.tables.station.lMin

/-- Codes are numbered in the order their rule lists them (R202). -/
def TableId.all : List TableId :=
  [.link, .units, .channels, .filters, .runs, .station, .compressors, .dryers, .shippers, .events]

def Committed.get (c : Committed) : TableId → Option StoredImage
  | .link => c.link
  | .units => c.units
  | .channels => c.channels
  | .filters => c.filters
  | .runs => c.runs
  | .station => c.station
  | .compressors => c.compressors
  | .dryers => c.dryers
  | .shippers => c.shippers
  | .events => c.events

def Committed.put (c : Committed) (t : TableId) (i : Option StoredImage) : Committed :=
  match t with
  | .link => { c with link := i }
  | .units => { c with units := i }
  | .channels => { c with channels := i }
  | .filters => { c with filters := i }
  | .runs => { c with runs := i }
  | .station => { c with station := i }
  | .compressors => { c with compressors := i }
  | .dryers => { c with dryers := i }
  | .shippers => { c with shippers := i }
  | .events => { c with events := i }

/-- The pending image of RUNS, STATION or SHIPPERS; no other table has one (R202). -/
def Retained.pendingOf (r : Retained) : TableId → Option StoredImage
  | .runs => r.pendRuns
  | .station => r.pendStation
  | .shippers => r.pendShippers
  | _ => none

def State.putCommitted (s : State) (t : TableId) (i : StoredImage) : State :=
  { s with ret := { s.ret with committed := s.ret.committed.put t (some i) } }

/-- The OBA after a sum: the sum within the signed 48-bit range, a free value otherwise (R157, log entry 8). -/
def obaAfter (free : Nat) (sum : Int) : Int :=
  if -(2 ^ 47 : Int) ≤ sum ∧ sum < 2 ^ 47 then sum else (Config.freeOba free).toInt

/-- The interval number after `n`: the next one up to 4,294,967,295, a free value after it (R157, log entry 8). -/
def intervalAfter (free : Nat) (n : Nat) : Nat :=
  if n + 1 < 2 ^ 32 then n + 1 else (Config.freeInterval free).toNat

end Sys2Proof.Machine
end

