-- ==== Sys2Proof/Machine/Flags.lean ====
section
/-!
DEFINITION. The Event Unit's latches and alert queue (spec/09 R184 to R190), through which every block reports, and
the finding of a bad table entry (spec/10 R208).
-/

namespace Sys2Proof.Machine

/-! ### Source numbers (R184) -/

namespace Src

def fCheck : Nat := 0
def sCheck : Nat := 1
def upOverrun : Nat := 2
def downOverrun : Nat := 3
def misdirected : Nat := 4
def requestBusy : Nat := 5
def commandRefused : Nat := 6
def unitAnnounced : Nat := 7
def unitDeparted : Nat := 8
def unitMismatch : Nat := 9
def unitHeld : Nat := 10
def rawRange : Nat := 11
def engClamp : Nat := 12
def channelStale : Nat := 13
def compareA : Nat := 14
def compareB : Nat := 15
def sweepDone : Nat := 16
def refStale : Nat := 17
def refFault : Nat := 18
def gapCapped : Nat := 19
def zRange : Nat := 20
def flowSubstituted : Nat := 21
def counterflow : Nat := 22
def modeChanged : Nat := 23
def transitionFailed : Nat := 24
def esdActive : Nat := 25
def compressionChanged : Nat := 26
def timeStep : Nat := 27
def startFailed : Nat := 28
def unitLockedOut : Nat := 29
def unitTripped : Nat := 30
def speedClamped : Nat := 31
def localStart : Nat := 32
def stopTimeout : Nat := 33
def operationLost : Nat := 34
def bedSwitched : Nat := 35
def breakthrough : Nat := 36
def trainDegraded : Nat := 37
def valveTimeout : Nat := 38
def heatShort : Nat := 39
def bedOut : Nat := 40
def intervalClosed : Nat := 41
def curtailed : Nat := 42
def allocationCapped : Nat := 43
def closeOverwritten : Nat := 44
def tableCommitted : Nat := 45
def tableParity : Nat := 46
def tableProtected : Nat := 47

end Src

/-- The subject of an occurrence that has none. -/
def noSubject : Nat := 255

/-- The source is alert enabled: by its EVENTS entry, or by the fallback while the entry carries a mark (R187). -/
def State.alertEnabled (s : State) (src : Nat) : Bool :=
  s.marked .events src || (s.tables.events.getD src .initial).alertEnabled

/-- The priority of the source; 0 while its EVENTS entry carries a mark (R187). -/
def State.alertPriority (s : State) (src : Nat) : Nat :=
  if s.marked .events src then 0 else (s.tables.events.getD src .initial).priority

/-- The alert queue holds an entry for the source (R184). -/
def queued (alerts : List Alert) (src : Nat) : Bool := alerts.any fun a => decide (a.source = src)

/-- An entry joins behind every entry of the same or higher priority and ahead of every entry of lower priority
(R188); 0 is the highest priority. -/
def joinAlert (a : Alert) : List Alert → List Alert
  | [] => [a]
  | b :: rest => if a.priority < b.priority then a :: b :: rest else b :: joinAlert a rest

/-- An offer to the alert queue (R190): it joins when fewer than 32 entries are held, displaces the last entry of a
full queue when its priority is higher, and is not queued otherwise. -/
def offerAlert (a : Alert) (alerts : List Alert) : List Alert :=
  if alerts.length < 32 then joinAlert a alerts
  else
    match alerts.getLast? with
    | none => joinAlert a alerts
    | some l => if a.priority < l.priority then joinAlert a alerts.dropLast else alerts

/-- An occurrence at a queued source updates its entry in place (R189). -/
def updateAlert (src count : Nat) (subject : Octet) (time : Nat) (unset : Bool) (alerts : List Alert) : List Alert :=
  alerts.map fun a =>
    if a.source = src then { a with count := count, subject := subject, last := time, unset := unset } else a

/-- The steps of R185, without the entry check of R187. -/
def occurPlain (src subject : Nat) (s : State) : State :=
  let old := s.source src
  let count := min 255 (old.count + 1)
  let subj := BitVec.ofNat 8 subject
  let recs := s.ev.recs.set src ⟨true, count, subj⟩
  let alerts :=
    if queued s.ev.alerts src then updateAlert src count subj s.time.count s.time.unset s.ev.alerts
    else if !old.latch && s.alertEnabled src then
      offerAlert ⟨src, s.alertPriority src, count, subj, s.time.count, s.time.count, s.time.unset⟩ s.ev.alerts
    else s.ev.alerts
  { s with ev := ⟨recs, alerts⟩ }

/-- An occurrence of TABLE_PARITY. Its own EVENTS entry may be the one found bad: the occurrence that finding raises
is not checked again (R187). -/
def occurParity (subject : Nat) (s : State) : State :=
  if s.foundBad .events Src.tableParity then
    occurPlain Src.tableParity subject
      (occurPlain Src.tableParity Src.tableParity (s.setMark .events Src.tableParity))
  else occurPlain Src.tableParity subject s

/-- An event source is latched (spec/00, "Latching an event"): the entry check of R187, then the steps of R185. -/
def occur (src subject : Nat) (s : State) : State :=
  if src = Src.tableParity then occurParity subject s
  else if s.foundBad .events src then occurPlain src subject (occurParity src (s.setMark .events src))
  else occurPlain src subject s

/-- `occur` when a condition holds. -/
def occurIf (c : Bool) (src subject : Nat) (s : State) : State := if c then occur src subject s else s

/-- An entry found bad gets its mark and TABLE_PARITY is latched (R208). -/
def markEntry (t : TableId) (i subject : Nat) (s : State) : State := occurParity subject (s.setMark t i)

/-- A use of an EVENTS entry by READ_EVENTS checks it (R187, R194). -/
def checkEventEntry (src : Nat) (s : State) : State :=
  if s.foundBad .events src then
    if src = Src.tableParity then occurPlain Src.tableParity Src.tableParity (s.setMark .events src)
    else occurParity src (s.setMark .events src)
  else s

end Sys2Proof.Machine
end

