-- ==== Sys2Proof/Machine/Images.lean ====
section
/-!
DEFINITION. Table images (spec/10 R202): the octets of each table's entries in the order of the owning chapter, their
reading, and the validation of an image by its owning chapter (R20, R32, R53, R64, R86, R102, R133, R156, R186).
-/

namespace Sys2Proof.Machine

/-! ### Sizes (R202) -/

def entryCount : TableId → Nat
  | .link => 5
  | .units => 48
  | .channels => 64
  | .filters => 7
  | .runs => 8
  | .station => 1
  | .compressors => 6
  | .dryers => 2
  | .shippers => 32
  | .events => 48

def entrySize : TableId → Nat
  | .link => 4
  | .units => 5
  | .channels => 59
  | .filters => 73
  | .runs => 139
  | .station => 23
  | .compressors => 25
  | .dryers => 36
  | .shippers => 15
  | .events => 2

/-- The image length of a table is its number of entries times its entry size (R202). -/
def imageLength (t : TableId) : Nat := entryCount t * entrySize t

/-- The octets of entry `i` of an image of table `t`. -/
def entryOctets (t : TableId) (image : List Octet) (i : Nat) : List Octet :=
  (image.drop (i * entrySize t)).take (entrySize t)

/-- The entry that holds octet `off` of an image of table `t`. -/
def entryAt (t : TableId) (off : Nat) : Nat := off / entrySize t

/-! ### Codes of enumerated fields, from 0 in the order their rules list them (R202) -/

def UnitClass.code : UnitClass → Nat
  | .meter => 0
  | .transmitter => 1
  | .analyser => 2
  | .compressor => 3
  | .dryerValves => 4
  | .stationValves => 5
  | .generic => 6

def unitClassOf (n : Nat) : Option UnitClass :=
  match n with
  | 0 => some .meter
  | 1 => some .transmitter
  | 2 => some .analyser
  | 3 => some .compressor
  | 4 => some .dryerValves
  | 5 => some .stationValves
  | 6 => some .generic
  | _ => none

def ChannelClass.code : ChannelClass → Nat
  | .custody => 0
  | .process => 1
  | .survey => 2

def channelClassOf (n : Nat) : Option ChannelClass :=
  match n with
  | 0 => some .custody
  | 1 => some .process
  | 2 => some .survey
  | _ => none

def Quantity.code : Quantity → Nat
  | .pressure => 0
  | .temperature => 1
  | .flowRate => 2
  | .water => 3
  | .calorific => 4
  | .generic => 5

def quantityOf (n : Nat) : Option Quantity :=
  match n with
  | 0 => some .pressure
  | 1 => some .temperature
  | 2 => some .flowRate
  | 3 => some .water
  | 4 => some .calorific
  | 5 => some .generic
  | _ => none

def CmpMode.code : CmpMode → Nat
  | .off => 0
  | .above => 1
  | .below => 2
  | .inside => 3
  | .outside => 4

def cmpModeOf (n : Nat) : Option CmpMode :=
  match n with
  | 0 => some .off
  | 1 => some .above
  | 2 => some .below
  | 3 => some .inside
  | 4 => some .outside
  | _ => none

def Role.code : Role → Nat
  | .station => 0
  | .fuel => 1
  | .regen => 2
  | .unused => 3

def roleOf (n : Nat) : Option Role :=
  match n with
  | 0 => some .station
  | 1 => some .fuel
  | 2 => some .regen
  | 3 => some .unused
  | _ => none

def UnitMode.code : UnitMode → Nat
  | .auto => 0
  | .manual => 1

def unitModeOf (n : Nat) : Option UnitMode :=
  match n with
  | 0 => some .auto
  | 1 => some .manual
  | _ => none

def CmpId.code : CmpId → Nat
  | .a => 0
  | .b => 1

def cmpIdOf (n : Nat) : Option CmpId :=
  match n with
  | 0 => some .a
  | 1 => some .b
  | _ => none

/-- Codes of two values, 0 and 1. -/
def bit (b : Bool) : Nat := if b then 1 else 0

/-- A presence octet and the field behind it. -/
def optAt (bs : List Octet) (off n : Nat) : Option Nat :=
  if fieldAt bs off 1 = 1 then some (fieldAt bs (off + 1) n) else none

/-! ### Encoding of entries -/

def encodeOwnAddr (e : OwnAddr) : List Octet := [e.addr.seg, e.addr.unit] ++ beFlag e.ignoreSeg ++ beFlag e.enabled

/-- Entry 4 of LINK: upstream queue size (normal 0, extended 1) and alert destination, filled to the entry size. -/
def encodeLinkTail (l : LinkTable) : List Octet := padTo 4 (beFlag l.extended ++ [l.alertDst.seg, l.alertDst.unit])

def encodeUnit (u : UnitCfg) : List Octet :=
  beFlag u.inUse ++ [u.addr.seg, u.addr.unit] ++ be 1 u.cls.code ++ be 1 u.timeout

def encodeComparator (c : Comparator) : List Octet := be 1 c.mode.code ++ beInt 4 c.t1 ++ beInt 4 c.t2 ++ be 4 c.hyst

def encodeChannel (c : ChannelCfg) : List Octet :=
  beFlag c.inUse ++ be 1 c.unit ++ be 1 c.localIx ++ be 1 c.cls.code ++ be 1 c.quantity.code ++ beInt 3 c.rawMin ++
    beInt 3 c.rawMax ++ beInt 4 c.gain ++ beInt 4 c.offset ++ beInt 4 c.engMin ++ beInt 4 c.engMax ++ be 1 c.profile ++
    be 2 c.minInterval ++ be 2 c.maxAge ++ encodeComparator c.cmpA ++ encodeComparator c.cmpB ++ beFlag c.spanFormat

/-- The place of a term: presence, sign (+ 0, - 1), exponent. -/
def encodeTerm : Option Term → List Octet
  | none => [0, 0, 0]
  | some t => 1 :: be 1 (bit t.neg) ++ be 1 t.exp

/-- The three places of a tap. -/
def encodeTap (tap : List Term) : List Octet :=
  encodeTerm (tap[0]?) ++ encodeTerm (tap[1]?) ++ encodeTerm (tap[2]?)

def encodeProfile (p : Profile) : List Octet := padTo 73 (be 1 p.taps.length ++ (p.taps.map encodeTap).flatten)

def encodePoint (p : Nat × Nat) : List Octet := be 4 p.1 ++ be 3 p.2

def encodeCurve (c : List (Nat × Nat)) : List Octet := padTo 113 (be 1 c.length ++ (c.map encodePoint).flatten)

def encodeRun (r : RunCfg) : List Octet :=
  be 1 r.role.code ++ be 1 r.flow ++ be 1 r.press ++ be 1 r.temp ++ beOpt 1 r.cal ++ be 2 r.fallbackH ++ be 3 r.pb ++
    be 2 r.tb ++ be 3 r.zb ++ encodeCurve r.curve ++ be 2 r.gapCap ++ beInt 4 r.subst ++ be 2 r.refStale ++
    be 2 r.ptMaxAge

def encodeStation (c : StationCfg) : List Octet :=
  be 1 c.lMin ++ be 2 c.sweep ++ beOpt 1 c.storage ++ beOpt 1 c.pipeline ++ be 3 c.margin ++ be 3 c.hyst ++
    be 3 c.quietThreshold ++ be 2 c.quietDwell ++ be 2 c.rundown ++ be 2 c.lineup ++ be 1 c.cutoff

def encodeComp (c : CompCfg) : List Octet :=
  beFlag c.inUse ++ be 1 c.unit ++ be 3 c.capacity ++ be 2 c.sMin ++ be 2 c.sMax ++ be 2 c.pMin ++ be 2 c.deadband ++
    be 2 c.startConfirm ++ be 2 c.stopConfirm ++ be 2 c.minRun ++ be 2 c.cooldown ++ be 1 c.budget ++ be 2 c.window ++
    be 1 c.initial.code

def encodeDryer (c : DryerCfg) : List Octet :=
  beFlag c.inUse ++ be 1 c.unit ++ be 1 c.run ++ be 1 c.inlet ++ be 1 c.outlet ++ be 1 c.breakCmp.code ++
    beOpt 1 c.regenCh ++ beOpt 1 (c.regenCmp.map CmpId.code) ++ be 2 c.defaultInlet ++ be 3 c.capacity ++
    be 1 c.derate ++ be 3 c.bedCapacity ++ be 1 c.switchPercent ++ be 4 c.resume ++ be 3 c.adsorbMax ++ be 2 c.heat ++
    be 3 c.heatMax ++ be 2 c.cool ++ be 2 c.valveConfirm

/-- Class FIRM 0, INTERRUPTIBLE 1. -/
def encodeShipper (c : ShipperCfg) : List Octet :=
  be 2 c.code ++ be 1 (bit (!c.firm)) ++ be 1 c.rank ++ be 3 c.injRight ++ be 3 c.wdRight ++ be 5 c.space

/-- Mask alert enabled 0, alert disabled 1. -/
def encodeEvent (e : EventCfg) : List Octet := be 1 (bit (!e.alertEnabled)) ++ be 1 e.priority

/-- The image of table `t` of a set of tables (R202). -/
def encodeTable (ts : Tables) : TableId → List Octet
  | .link => (ts.link.own.map encodeOwnAddr).flatten ++ encodeLinkTail ts.link
  | .units => (ts.units.map encodeUnit).flatten
  | .channels => (ts.channels.map encodeChannel).flatten
  | .filters => (ts.filters.map encodeProfile).flatten
  | .runs => (ts.runs.map encodeRun).flatten
  | .station => encodeStation ts.station
  | .compressors => (ts.compressors.map encodeComp).flatten
  | .dryers => (ts.dryers.map encodeDryer).flatten
  | .shippers => (ts.shippers.map encodeShipper).flatten
  | .events => (ts.events.map encodeEvent).flatten

/-! ### Reading of entries -/

def decodeOwnAddr (bs : List Octet) : OwnAddr :=
  ⟨⟨bs.getD 0 0, bs.getD 1 0⟩, fieldAt bs 2 1 = 1, fieldAt bs 3 1 = 1⟩

def decodeUnit (bs : List Octet) : UnitCfg :=
  ⟨fieldAt bs 0 1 = 1, ⟨bs.getD 1 0, bs.getD 2 0⟩, (unitClassOf (fieldAt bs 3 1)).getD .meter, fieldAt bs 4 1⟩

def decodeComparator (bs : List Octet) (off : Nat) : Comparator :=
  ⟨(cmpModeOf (fieldAt bs off 1)).getD .off, fieldIntAt bs (off + 1) 4, fieldIntAt bs (off + 5) 4, fieldAt bs (off + 9) 4⟩

def decodeChannel (bs : List Octet) : ChannelCfg where
  inUse := fieldAt bs 0 1 = 1
  unit := fieldAt bs 1 1
  localIx := fieldAt bs 2 1
  cls := (channelClassOf (fieldAt bs 3 1)).getD .custody
  quantity := (quantityOf (fieldAt bs 4 1)).getD .pressure
  rawMin := fieldIntAt bs 5 3
  rawMax := fieldIntAt bs 8 3
  gain := fieldIntAt bs 11 4
  offset := fieldIntAt bs 15 4
  engMin := fieldIntAt bs 19 4
  engMax := fieldIntAt bs 23 4
  profile := fieldAt bs 27 1
  minInterval := fieldAt bs 28 2
  maxAge := fieldAt bs 30 2
  cmpA := decodeComparator bs 32
  cmpB := decodeComparator bs 45
  spanFormat := fieldAt bs 58 1 = 1

def decodeTerm (bs : List Octet) (off : Nat) : Option Term :=
  if fieldAt bs off 1 = 1 then some ⟨fieldAt bs (off + 1) 1 = 1, fieldAt bs (off + 2) 1⟩ else none

/-- The present terms of a tap, in order. -/
def decodeTap (bs : List Octet) (off : Nat) : List Term :=
  [decodeTerm bs off, decodeTerm bs (off + 3), decodeTerm bs (off + 6)].filterMap id

def decodeProfile (bs : List Octet) : Profile :=
  ⟨(List.range (fieldAt bs 0 1)).map fun j => decodeTap bs (1 + 9 * j)⟩

def decodeCurve (bs : List Octet) (off : Nat) : List (Nat × Nat) :=
  (List.range (fieldAt bs off 1)).map fun j => (fieldAt bs (off + 1 + 7 * j) 4, fieldAt bs (off + 5 + 7 * j) 3)

def decodeRun (bs : List Octet) : RunCfg where
  role := (roleOf (fieldAt bs 0 1)).getD .unused
  flow := fieldAt bs 1 1
  press := fieldAt bs 2 1
  temp := fieldAt bs 3 1
  cal := optAt bs 4 1
  fallbackH := fieldAt bs 6 2
  pb := fieldAt bs 8 3
  tb := fieldAt bs 11 2
  zb := fieldAt bs 13 3
  curve := decodeCurve bs 16
  gapCap := fieldAt bs 129 2
  subst := fieldIntAt bs 131 4
  refStale := fieldAt bs 135 2
  ptMaxAge := fieldAt bs 137 2

def decodeStation (bs : List Octet) : StationCfg where
  lMin := fieldAt bs 0 1
  sweep := fieldAt bs 1 2
  storage := optAt bs 3 1
  pipeline := optAt bs 5 1
  margin := fieldAt bs 7 3
  hyst := fieldAt bs 10 3
  quietThreshold := fieldAt bs 13 3
  quietDwell := fieldAt bs 16 2
  rundown := fieldAt bs 18 2
  lineup := fieldAt bs 20 2
  cutoff := fieldAt bs 22 1

def decodeComp (bs : List Octet) : CompCfg where
  inUse := fieldAt bs 0 1 = 1
  unit := fieldAt bs 1 1
  capacity := fieldAt bs 2 3
  sMin := fieldAt bs 5 2
  sMax := fieldAt bs 7 2
  pMin := fieldAt bs 9 2
  deadband := fieldAt bs 11 2
  startConfirm := fieldAt bs 13 2
  stopConfirm := fieldAt bs 15 2
  minRun := fieldAt bs 17 2
  cooldown := fieldAt bs 19 2
  budget := fieldAt bs 21 1
  window := fieldAt bs 22 2
  initial := (unitModeOf (fieldAt bs 24 1)).getD .auto

def decodeDryer (bs : List Octet) : DryerCfg where
  inUse := fieldAt bs 0 1 = 1
  unit := fieldAt bs 1 1
  run := fieldAt bs 2 1
  inlet := fieldAt bs 3 1
  outlet := fieldAt bs 4 1
  breakCmp := (cmpIdOf (fieldAt bs 5 1)).getD .a
  regenCh := optAt bs 6 1
  regenCmp := (optAt bs 8 1).bind cmpIdOf
  defaultInlet := fieldAt bs 10 2
  capacity := fieldAt bs 12 3
  derate := fieldAt bs 15 1
  bedCapacity := fieldAt bs 16 3
  switchPercent := fieldAt bs 19 1
  resume := fieldAt bs 20 4
  adsorbMax := fieldAt bs 24 3
  heat := fieldAt bs 27 2
  heatMax := fieldAt bs 29 3
  cool := fieldAt bs 32 2
  valveConfirm := fieldAt bs 34 2

def decodeShipper (bs : List Octet) : ShipperCfg where
  code := fieldAt bs 0 2
  firm := fieldAt bs 2 1 = 0
  rank := fieldAt bs 3 1
  injRight := fieldAt bs 4 3
  wdRight := fieldAt bs 7 3
  space := fieldAt bs 10 5

def decodeEvent (bs : List Octet) : EventCfg := ⟨fieldAt bs 0 1 = 0, fieldAt bs 1 1⟩

/-- The entries of an image, each read by `f`. -/
def decodeEntries {α : Type} (t : TableId) (f : List Octet → α) (image : List Octet) : List α :=
  (List.range (entryCount t)).map fun i => f (entryOctets t image i)

def decodeLink (image : List Octet) : LinkTable where
  own := (List.range 4).map fun i => decodeOwnAddr (entryOctets .link image i)
  extended := fieldAt image 16 1 = 1
  alertDst := ⟨image.getD 17 0, image.getD 18 0⟩

/-- The tables with table `t` read from an image. -/
def Tables.load (ts : Tables) (t : TableId) (image : List Octet) : Tables :=
  match t with
  | .link => { ts with link := decodeLink image }
  | .units => { ts with units := decodeEntries .units decodeUnit image }
  | .channels => { ts with channels := decodeEntries .channels decodeChannel image }
  | .filters => { ts with filters := decodeEntries .filters decodeProfile image }
  | .runs => { ts with runs := decodeEntries .runs decodeRun image }
  | .station => { ts with station := decodeStation (entryOctets .station image 0) }
  | .compressors => { ts with compressors := decodeEntries .compressors decodeComp image }
  | .dryers => { ts with dryers := decodeEntries .dryers decodeDryer image }
  | .shippers => { ts with shippers := decodeEntries .shippers decodeShipper image }
  | .events => { ts with events := decodeEntries .events decodeEvent image }

/-- The image of the table in effect: the committed image as it was loaded, or the default table's encoding (R200). -/
def State.imageInEffect (s : State) (t : TableId) : List Octet :=
  match s.ret.committed.get t with
  | some i => i.octets
  | none => encodeTable Tables.initial t

/-- The image octets of one entry of the table in effect, as a result carries them (R215). -/
def State.entryImage (s : State) (t : TableId) (i : Nat) : List Octet := entryOctets t (s.imageInEffect t) i

/-! ### Validation -/

/-- `lo ≤ v ≤ hi`. -/
def within (lo hi v : Nat) : Bool := decide (lo ≤ v) && decide (v ≤ hi)

/-- The octet at `off` is one of the values 0 to `n - 1`. -/
def codeOk (bs : List Octet) (off n : Nat) : Bool := decide (fieldAt bs off 1 < n)

/-- Another member among the first `n` satisfies `p`. DESIGN CHOICE, unsafe (log entry 12): a condition that two entries break
together (equal addresses, pairs, units, codes or flow channels) charges both, so the lower index is answered. -/
def anyOther (n i : Nat) (p : Nat → Bool) : Bool := (List.range n).any fun j => decide (j ≠ i) && p j

/-- A channel of the table in effect is in use with this quantity. -/
def State.channelIs (s : State) (ch : Nat) (q : Quantity) : Bool :=
  decide (ch < 64) && (s.chCfg ch).inUse && decide ((s.chCfg ch).quantity = q)

/-- A channel of the table in effect is in use with this class and quantity. -/
def State.channelOf (s : State) (ch : Nat) (c : ChannelClass) (q : Quantity) : Bool :=
  s.channelIs ch q && decide ((s.chCfg ch).cls = c)

/-- The channels an image names, whose in-use flag, class and quantity its validation reads (R64, R86, R133). -/
def namedChannels (t : TableId) (image : List Octet) : List Nat :=
  match t with
  | .runs =>
    (decodeEntries .runs decodeRun image).flatMap fun r =>
      if r.role = .unused then [] else [r.flow, r.press, r.temp] ++ r.cal.toList
  | .station =>
    let c := decodeStation (entryOctets .station image 0)
    c.storage.toList ++ c.pipeline.toList
  | .dryers =>
    (decodeEntries .dryers decodeDryer image).flatMap fun c =>
      if c.inUse then [c.inlet, c.outlet] ++ c.regenCh.toList else []
  | .link => []
  | .units => []
  | .channels => []
  | .filters => []
  | .compressors => []
  | .shippers => []
  | .events => []

def linkOffends (image : List Octet) (i : Nat) : Bool :=
  let bs := entryOctets .link image i
  if i < 4 then !(codeOk bs 2 2 && codeOk bs 3 2) else !codeOk bs 0 2

/-- R20: ranges, distinct addresses, at most 6, 2 and 1 entries of the governed classes. DESIGN CHOICE, unsafe (log entry
12): of two entries with one address both are charged; of a class with too many entries, those past its bound. -/
def unitOffends (image : List Octet) (cfgs : List UnitCfg) (i : Nat) : Bool :=
  let bs := entryOctets .units image i
  let u := cfgs.getD i .blank
  let before := (cfgs.take i).countP fun v => v.inUse && decide (v.cls = u.cls)
  !codeOk bs 0 2 ||
    (u.inUse &&
      !(codeOk bs 3 7 && within 5 120 u.timeout &&
        !(anyOther 48 i fun j => (cfgs.getD j .blank).inUse && decide ((cfgs.getD j .blank).addr = u.addr)) &&
        (match u.cls with
          | .compressor => decide (before < 6)
          | .dryerValves => decide (before < 2)
          | .stationValves => decide (before < 1)
          | _ => true)))

def comparatorOk (bs : List Octet) (off : Nat) (c : Comparator) : Bool :=
  codeOk bs off 5 && decide (c.hyst ≤ 2147483647) &&
    (match c.mode with
      | .inside => decide (c.t1 ≤ c.t2)
      | .outside => decide (c.t1 ≤ c.t2)
      | _ => true)

/-- What the runs of a RUNS table require of channel `i` (R32). -/
def runsAllow (runs : List RunCfg) (i : Nat) (c : ChannelCfg) : Bool :=
  runs.all fun r =>
    decide (r.role = .unused) ||
      ((decide (r.flow ≠ i) || (c.inUse && decide (c.cls = .custody) && decide (c.quantity = .flowRate))) &&
        (decide (r.press ≠ i) || (c.inUse && decide (c.cls = .custody) && decide (c.quantity = .pressure))) &&
        (decide (r.temp ≠ i) || (c.inUse && decide (c.cls = .custody) && decide (c.quantity = .temperature))))

/-- The RUNS table in effect and, when there is one, the pending RUNS image (R205). -/
def State.runsToRespect (s : State) : List (List RunCfg) :=
  s.tables.runs ::
    (match s.ret.pendRuns with
      | some i => [decodeEntries .runs decodeRun i.octets]
      | none => [])

/-- R32. DESIGN CHOICE, unsafe (log entry 12): both channels of a pair of unit entry and local index held twice are
charged, so the lower number is answered. -/
def channelOffends (s : State) (image : List Octet) (cfgs : List ChannelCfg) (i : Nat) : Bool :=
  let bs := entryOctets .channels image i
  let c := cfgs.getD i .blank
  !codeOk bs 0 2 ||
    (c.inUse &&
      !(codeOk bs 3 3 && codeOk bs 4 6 && codeOk bs 58 2 && decide (c.unit ≤ 47) && decide (c.localIx ≤ 15) &&
        decide (c.rawMin < c.rawMax) && decide (c.engMin < c.engMax) && decide (c.profile ≤ 7) &&
        decide (c.minInterval ≤ 60000) && within 1 600 c.maxAge && comparatorOk bs 32 c.cmpA &&
        comparatorOk bs 45 c.cmpB &&
        !(anyOther 64 i fun j =>
            (cfgs.getD j .blank).inUse && decide ((cfgs.getD j .blank).unit = c.unit) &&
              decide ((cfgs.getD j .blank).localIx = c.localIx)))) ||
    !(s.runsToRespect.all fun runs => runsAllow runs i c)

/-- R53 and the octet values of R202, sign octets of absent terms included (log entry 13). -/
def profileOffends (image : List Octet) (i : Nat) : Bool :=
  let bs := entryOctets .filters image i
  !(within 1 8 (fieldAt bs 0 1) &&
    (List.range (fieldAt bs 0 1)).all fun j =>
      [0, 3, 6].all fun k =>
        codeOk bs (1 + 9 * j + k) 2 && codeOk bs (2 + 9 * j + k) 2 &&
          (decide (fieldAt bs (1 + 9 * j + k) 1 = 0) || decide (fieldAt bs (3 + 9 * j + k) 1 ≤ 15)))

/-- The pressures of a curve rise strictly and its values lie in their ranges (R63). -/
def curveOk (c : List (Nat × Nat)) : Bool :=
  c.all (fun p => decide (p.1 ≤ 30000000) && within 500000 1200000 p.2) &&
    (c.zip c.tail).all fun p => decide (p.1.1 < p.2.1)

/-- R64. -/
def runOffends (s : State) (image : List Octet) (cfgs : List RunCfg) (i : Nat) : Bool :=
  let bs := entryOctets .runs image i
  let r := cfgs.getD i .blank
  !codeOk bs 0 4 ||
    (decide (r.role ≠ .unused) &&
      !(codeOk bs 4 2 && within 2 16 (fieldAt bs 16 1) && within 20000 60000 r.fallbackH && within 100000 102000 r.pb &&
        within 27315 29315 r.tb && within 500000 1200000 r.zb && curveOk r.curve && within 1000 60000 r.gapCap &&
        decide (-50000000 ≤ r.subst) && decide (r.subst ≤ 50000000) && within 60 3600 r.refStale &&
        within 1 600 r.ptMaxAge && s.channelOf r.flow .custody .flowRate && s.channelOf r.press .custody .pressure &&
        s.channelOf r.temp .custody .temperature &&
        (match r.cal with
          | none => true
          | some c => s.channelIs c .calorific) &&
        !(anyOther 8 i fun j => decide ((cfgs.getD j .blank).role ≠ .unused) && decide ((cfgs.getD j .blank).flow = r.flow)))) ||
    (decide (r.role ≠ .station) && s.tables.dryers.any fun d => d.inUse && decide (d.run = i))

/-- R86. -/
def stationOffends (s : State) (image : List Octet) : Bool :=
  let c := decodeStation image
  let chOk (o : Option Nat) : Bool :=
    match o with
    | none => true
    | some ch => s.channelOf ch .process .pressure
  !(codeOk image 3 2 && codeOk image 5 2 && (decide (c.lMin = 15) || decide (c.lMin = 30) || decide (c.lMin = 60)) &&
    decide (c.sweep ≤ 3600) && decide (c.margin ≤ 5000000) && decide (c.hyst ≤ 1000000) &&
    decide (c.quietThreshold ≤ 5000000) && within 1 600 c.quietDwell && within 60 3600 c.rundown &&
    within 10 1800 c.lineup && decide (c.cutoff ≤ 100) && decide (c.quietDwell < c.rundown) && chOk c.storage &&
    chOk c.pipeline && decide (c.storage.isSome = c.pipeline.isSome))

/-- R102. -/
def compOffends (s : State) (image : List Octet) (cfgs : List CompCfg) (i : Nat) : Bool :=
  let bs := entryOctets .compressors image i
  let c := cfgs.getD i .blank
  !codeOk bs 0 2 ||
    (c.inUse &&
      !(codeOk bs 24 2 && decide (c.unit ≤ 47) && within 1 1000000 c.capacity && decide (c.sMin ≤ c.sMax) &&
        decide (c.sMax ≤ 20000) && decide (c.pMin ≤ 1000) && decide (c.deadband ≤ 5000) && within 5 600 c.startConfirm &&
        within 5 900 c.stopConfirm && decide (c.minRun ≤ 7200) && decide (c.cooldown ≤ 3600) && within 1 6 c.budget &&
        within 600 14400 c.window && s.unitInUse c.unit && decide ((s.unitCfg c.unit).cls = .compressor) &&
        !(anyOther 6 i fun j => (cfgs.getD j .blank).inUse && decide ((cfgs.getD j .blank).unit = c.unit))))

/-- R133. -/
def dryerOffends (s : State) (image : List Octet) (cfgs : List DryerCfg) (i : Nat) : Bool :=
  let bs := entryOctets .dryers image i
  let c := cfgs.getD i .blank
  !codeOk bs 0 2 ||
    (c.inUse &&
      !(codeOk bs 5 2 && codeOk bs 6 2 && codeOk bs 8 2 && codeOk bs 9 2 && decide (c.unit ≤ 47) && decide (c.run ≤ 7) &&
        decide (c.regenCh.isSome = c.regenCmp.isSome) && decide (c.defaultInlet ≤ 10000) &&
        within 1 1000000 c.capacity && decide (c.derate ≤ 100) && within 1 1000000 c.bedCapacity &&
        within 50 100 c.switchPercent && decide (c.resume ≤ c.bedCapacity * 1000) && within 600 86400 c.adsorbMax &&
        within 600 43200 c.heat && within c.heat 86400 c.heatMax && within 300 43200 c.cool &&
        within 10 600 c.valveConfirm && s.unitInUse c.unit && decide ((s.unitCfg c.unit).cls = .dryerValves) &&
        !(anyOther 2 i fun j => (cfgs.getD j .blank).inUse && decide ((cfgs.getD j .blank).unit = c.unit)) &&
        (s.runsToRespect.all fun runs => decide ((runs.getD c.run .blank).role = .station)) &&
        s.channelIs c.inlet .water && s.channelIs c.outlet .water &&
        (match c.regenCh with
          | none => true
          | some ch => s.channelIs ch .temperature)))

/-- The third condition of R156: a slot whose inventory stands above 0 is neither freed nor recoded. DEDUCED, unsafe (log
entry 70): to use such a slot newly is to give it a different code. -/
def slotHeld (s : State) (cfgs : List ShipperCfg) (i : Nat) : Bool :=
  decide (0 < s.inventory i) && decide ((cfgs.getD i .blank).code ≠ (s.shipper i).code)

/-- R156. -/
def shipperOffends (s : State) (image : List Octet) (cfgs : List ShipperCfg) (i : Nat) : Bool :=
  let bs := entryOctets .shippers image i
  let c := cfgs.getD i .blank
  (decide (c.code ≠ 0) &&
      !(codeOk bs 2 2 && decide (c.rank ≤ 31) && decide (c.injRight ≤ 10000000) && decide (c.wdRight ≤ 10000000) &&
        !(anyOther 32 i fun j => decide ((cfgs.getD j .blank).code = c.code)))) ||
    slotHeld s cfgs i

/-- R186. -/
def eventOffends (image : List Octet) (i : Nat) : Bool :=
  let bs := entryOctets .events image i
  !(codeOk bs 0 2 && codeOk bs 1 4)

/-- The first entry of a staged image that fails the validation of its owning chapter or the rule of R202, read
against the other tables as they stand. -/
def firstOffending (s : State) (t : TableId) (image : List Octet) : Option Nat :=
  (List.range (entryCount t)).find?
    (match t with
      | .link => linkOffends image
      | .units => unitOffends image (decodeEntries .units decodeUnit image)
      | .channels => channelOffends s image (decodeEntries .channels decodeChannel image)
      | .filters => profileOffends image
      | .runs => runOffends s image (decodeEntries .runs decodeRun image)
      | .station => fun _ => stationOffends s image
      | .compressors => compOffends s image (decodeEntries .compressors decodeComp image)
      | .dryers => dryerOffends s image (decodeEntries .dryers decodeDryer image)
      | .shippers => shipperOffends s image (decodeEntries .shippers decodeShipper image)
      | .events => eventOffends image)

/-- The entry index that an INVALID_TABLE response and TABLE_PARITY name (R202): profiles count from 1. -/
def entryIndex (t : TableId) (i : Nat) : Nat :=
  match t with
  | .filters => i + 1
  | _ => i

end Sys2Proof.Machine
end

