-- ==== Sys2Proof/Machine/Operands.lean ====
section
/-!
DEFINITION. The operand forms: frames as octets and their check (spec/01 R1, R2, spec/11 R213), the payloads of
field-side frames and commands (R214), the requests and statuses of the management frames (R215, R198).
-/

namespace Sys2Proof.Machine

/-! ### Collecting and checking a frame (R1, R2) -/

/-- One symbol on a receive path (R1): a start delimiter discards what was collected and begins a new frame; an octet
outside a frame is not collected. -/
def collectSym (rx : Option (List Octet)) : LineSym → Option (List Octet)
  | .startDelim => some []
  | .octet b => rx.map fun l => l ++ [b]

/-- What a receive path holds after a run of symbols: the octets since the last start delimiter, or none between frames. -/
def collect (rx : Option (List Octet)) (syms : List LineSym) : Option (List Octet) := syms.foldl collectSym rx

/-- The octets of a frame before its check (R213). -/
def Frame.body (f : Frame) : List Octet :=
  [f.dst.seg, f.dst.unit, f.src.seg, f.src.unit, f.kind, f.seq] ++ be 1 f.payload.length ++ f.payload

/-- The octets of a frame, check recomputed (R213, R11). -/
def Frame.octets (f : Frame) : List Octet := f.body ++ be 2 (crc16 f.body).toNat

/-- The check of R2: long enough, Length at most 240 and in agreement, CRC-16 over all octets before the check. -/
def frameValid (bs : List Octet) : Bool :=
  decide (9 ≤ bs.length) && decide ((bs.getD 6 0).toNat ≤ 240) && decide (bs.length = 9 + (bs.getD 6 0).toNat) &&
    decide (fieldAt bs (bs.length - 2) 2 = (crc16 (bs.take (bs.length - 2))).toNat)

/-- The header fields and payload of a valid frame (R213). -/
def frameOf (bs : List Octet) : Frame where
  dst := ⟨bs.getD 0 0, bs.getD 1 0⟩
  src := ⟨bs.getD 2 0, bs.getD 3 0⟩
  kind := bs.getD 4 0
  seq := bs.getD 5 0
  payload := (bs.drop 7).take (bs.getD 6 0).toNat

/-- The frame that arrived octets make, none when they fail the check of R2. -/
def parseFrame (bs : List Octet) : Option Frame := if frameValid bs then some (frameOf bs) else none

/-! ### Kind codes (R213) -/

def kindSample : Octet := 1
def kindState : Octet := 2
def kindCommand : Octet := 3
def kindAnnounce : Octet := 4
def kindDepart : Octet := 5
def kindRequest : Octet := 8
def kindResponse : Octet := 9
def kindAlert : Octet := 10

/-! ### Field-side payloads (R214) -/

/-- The items of a SAMPLE payload, in order: local index, quality octet, signed 24-bit raw value. A trailing part of
an item is ignored. -/
def sampleItems : List Octet → List (Nat × Item)
  | l :: q :: r1 :: r2 :: r3 :: rest => (l.toNat, ⟨ofBeInt [r1, r2, r3], q⟩) :: sampleItems rest
  | _ => []

/-- A quality octet: 0 GOOD, 1 SUSPECT, anything else BAD (R214). -/
def octetQuality (q : Octet) : Quality := if q = 0 then .good else if q = 1 then .suspect else .bad

def conditionOf (b : Octet) : Condition :=
  if b = 0 then .stopped else if b = 2 then .running else if b = 3 then .tripped else .transient

def positionOf (b : Octet) : Position :=
  if b = 0 then .closed else if b = 1 then .opened else if b = 3 then .fault else .moving

def lineupOf (b : Octet) : Lineup :=
  if b = 0 then .shut else if b = 1 then .inject else if b = 2 then .withdraw else .moving

/-- The reported class of an ANNOUNCE: codes 1 to 7, anything else unrecognised. -/
def reportedClass (b : Octet) : Option UnitClass := if b = 0 then none else unitClassOf (b.toNat - 1)

/-- Bed letters by their code (R214). -/
def bedOf (b : Octet) : Option BedId :=
  if b = 0 then some .a else if b = 1 then some .b else if b = 2 then some .c else none

def bedCode : BedId → Nat
  | .a => 0
  | .b => 1
  | .c => 2

def LineupArg.code : LineupArg → Nat
  | .shut => 0
  | .inject => 1
  | .withdraw => 2

/-- The payload of an own command, with no octets beyond the argument (R214). -/
def Command.payload : Command → List Octet
  | .start => [1]
  | .stop => [2]
  | .speed rpm => 3 :: be 2 rpm
  | .openBed x => 4 :: be 1 (bedCode x)
  | .closeBed x => 5 :: be 1 (bedCode x)
  | .lineup l => 6 :: be 1 l.code

/-- SPEED is a setpoint command, every other command an action command (R12). -/
def Command.sort : Command → OwnSort
  | .speed _ => .setpoint
  | _ => .action

/-- How many argument octets a COMMAND action needs (R214). -/
def argumentOctets (action : Octet) : Nat :=
  if action = 3 then 2 else if action = 4 ∨ action = 5 ∨ action = 6 then 1 else 0

/-- The payload is too short for its action (R214); an empty payload names no action. -/
def commandTooShort : List Octet → Bool
  | [] => false
  | a :: args => decide (args.length < argumentOctets a)

/-! ### Requests and statuses (R215) -/

/-- The statuses of responses with the codes of R215. -/
inductive Status where
  | ok
  | clamped
  | busy
  | unknownRequest
  | badArgument
  | unknownTarget
  | wrongState
  | late
  | insufficient
  | noSpace
  | closing
  | isProtected
  | checkFailed
  | invalidTable
  | incomplete
  | noLoad
  | transitionBusy
  | timeUnset
  deriving DecidableEq, Repr

def Status.code : Status → Octet
  | .ok => 0
  | .clamped => 1
  | .busy => 2
  | .unknownRequest => 3
  | .badArgument => 4
  | .unknownTarget => 5
  | .wrongState => 6
  | .late => 7
  | .insufficient => 8
  | .noSpace => 9
  | .closing => 10
  | .isProtected => 11
  | .checkFailed => 12
  | .invalidTable => 13
  | .incomplete => 14
  | .noLoad => 15
  | .transitionBusy => 16
  | .timeUnset => 17

/-- The request codes of R215. -/
def knownRequests : List Octet :=
  [0x01, 0x02, 0x03, 0x04, 0x05, 0x06, 0x07, 0x08, 0x09, 0x0A, 0x0B, 0x10, 0x11, 0x18, 0x19, 0x1A, 0x1B, 0x20, 0x28, 0x29,
    0x2A, 0x2B, 0x30, 0x38, 0x39, 0x40, 0x41, 0x48, 0x50, 0x51, 0x52, 0x53]

/-- The request code of a request: its first payload octet, 00h for an empty payload (R198). -/
def Request.code (q : Request) : Octet := q.payload.getD 0 0

/-- The request has no code or an unknown one (R198). -/
def Request.unknown (q : Request) : Bool := q.payload.isEmpty || !knownRequests.contains q.code

/-- The number of argument octets the layout of a request requires; LOAD_DATA's follows from its count field
(R198, R215). -/
def requestLength (code : Octet) (args : List Octet) : Nat :=
  if code = 0x51 then 3 + (args.getD 2 0).toNat
  else if code = 0x0B ∨ code = 0x50 then 5
  else if code = 0x09 ∨ code = 0x10 ∨ code = 0x40 then 6
  else if code = 0x38 ∨ code = 0x39 then 9
  else if code = 0x2B then 2
  else if code = 0x01 ∨ code = 0x0A ∨ code = 0x18 ∨ code = 0x30 ∨ code = 0x48 ∨ code = 0x52 ∨ code = 0x53 then 0
  else 1

/-- The results after the head are cut into parts of at most 237 octets (R215); `fuel` bounds the number of parts. -/
def resultParts : Nat → List Octet → List (List Octet)
  | 0, r => [r]
  | fuel + 1, r => if r.length ≤ 237 then [r] else r.take 237 :: resultParts fuel (r.drop 237)

/-- Each part with its head: code echoed, status, part octet with bit 7 in the last part only (R215). -/
def headParts (code : Octet) (status : Status) : Nat → List (List Octet) → List (List Octet)
  | _, [] => []
  | n, [r] => [code :: status.code :: (BitVec.ofNat 8 n ||| 0x80) :: r]
  | n, r :: rest => (code :: status.code :: BitVec.ofNat 8 n :: r) :: headParts code status (n + 1) rest

/-- The response to a request (R14, R215). -/
def responseTo (q : Request) (status : Status) (result : List Octet) : Response where
  dst := q.src
  src := q.dst
  seq := q.seq
  parts := headParts q.code status 0 (resultParts result.length result)

end Sys2Proof.Machine
end

