-- ==== Sys2Proof/Machine/Link.lean ====
section
/-!
DEFINITION. The Link Interface (spec/01): own addresses as they act, the own-command queue, the response queue and the
two transmit arbiters, with the meanings of the rows that transmit and of ABORT_DELIMITER.
-/

namespace Sys2Proof.Machine

/-- What a step answers. -/
abbrev Answer := Host.Outcome State Fault Refusal

/-! ### Own addresses (R3) -/

/-- The own-address entries as stored, entry 0 treated as enabled when all four are disabled (R3). -/
def storedActing (l : LinkTable) : List OwnAddr :=
  if l.own.any (·.enabled) then l.own else l.own.modify 0 fun e => { e with enabled := true }

/-- The entry that keeps the part reachable when parity leaves no entry enabled (R3). -/
def fallbackAddr : OwnAddr := ⟨⟨0xFE, 0xFE⟩, false, true⟩

/-- The own-address entries as they act: one found bad is treated as disabled, and entry 0 acts as the fallback when
none is left enabled (R3). -/
def State.ownActing (s : State) : List OwnAddr :=
  let l := (storedActing s.tables.link).zipIdx.map fun p => if s.marked .link p.2 then { p.1 with enabled := false } else p.1
  if l.any (·.enabled) then l else l.set 0 fallbackAddr

/-- A frame's destination matches an own-address entry (R3). -/
def OwnAddr.accepts (e : OwnAddr) (dst : Addr) : Bool :=
  e.enabled && decide (e.addr.unit = dst.unit) && (decide (e.addr.seg = dst.seg) || e.ignoreSeg)

/-- How a frame stands to the own addresses (R3). -/
inductive Reach where
  | addressed
  | broadcast
  | passing
  deriving DecidableEq, Repr

def reachOf (own : List OwnAddr) (dst : Addr) : Reach :=
  if (own.take 3).any (·.accepts dst) then .addressed
  else if ((own.drop 3).take 1).any (·.accepts dst) then .broadcast
  else .passing

/-- The own-address table is checked for parity at each frame arrival (R3). -/
def checkOwnEntry (i : Nat) (s : State) : State := if s.foundBad .link i then markEntry .link i noSubject s else s

/-- The four own-address entries are checked at each frame arrival (R3). DESIGN CHOICE, unsafe (log entry 60): entry 4 of
the LINK table, the queue size and the alert destination, has an entry check (R208), but no rule names a use of it, so
it is never checked and never found bad. -/
def checkOwnTable (s : State) : State := checkOwnEntry 3 (checkOwnEntry 2 (checkOwnEntry 1 (checkOwnEntry 0 s)))

/-- The station address of originated frames: the lowest-numbered enabled entry among 0, 1 and 2, or entry 0 (R14). -/
def State.stationAddr (s : State) : Addr :=
  ((((s.ownActing).take 3).find? (·.enabled)).getD ((s.ownActing).getD 0 fallbackAddr)).addr

/-! ### The own-command queue (R12, R13) -/

/-- The entry is for this target and sort. -/
def OwnEntry.isFor (target : Nat) (sort : OwnSort) (e : OwnEntry) : Bool :=
  decide (e.target = target) && decide (e.sort = sort)

/-- An offer that is taken: it replaces the unsent entry of its target and sort in place, or joins the tail (R12). -/
def joinOwn (target : Nat) (c : Command) (q : List OwnEntry) : List OwnEntry :=
  if q.any (OwnEntry.isFor target c.sort) then
    q.map fun e => if e.isFor target c.sort then { e with command := c } else e
  else q ++ [⟨target, c.sort, c⟩]

/-- An offer to a target that is not PRESENT is not accepted (R13). -/
def State.accepts (s : State) (target : Nat) : Bool := s.present target

/-- A controller offers a command (R12, R13); what follows an offer that is not accepted is the controller's. -/
def offerOwn (target : Nat) (c : Command) (s : State) : State :=
  if s.accepts target then { s with own := joinOwn target c s.own } else s

/-- An owner withdraws its unsent entry for a target whose command satisfies `p` (R12). -/
def withdrawOwn (target : Nat) (p : Command → Bool) (s : State) : State :=
  { s with own := s.own.filter fun e => !(decide (e.target = target) && p e.command) }

/-- The queue holds an unsent entry for the target whose command satisfies `p`. -/
def State.unsent (s : State) (target : Nat) (p : Command → Bool) : Bool :=
  s.own.any fun e => decide (e.target = target) && p e.command

/-- Every unsent own command for a target leaves the queue (R13). -/
def withdrawAll (target : Nat) (s : State) : State := withdrawOwn target (fun _ => true) s

def isStart (c : Command) : Bool := decide (c = .start)

def isStop (c : Command) : Bool := decide (c = .stop)

def isSpeed : Command → Bool
  | .speed _ => true
  | _ => false

def isOpenBed : Command → Bool
  | .openBed _ => true
  | _ => false

def isCloseBed : Command → Bool
  | .closeBed _ => true
  | _ => false

def isLineup : Command → Bool
  | .lineup _ => true
  | _ => false

/-! ### Responses (R15, R197) -/

/-- The oldest waiting request enters service at once when none is in service (R196). -/
def enterService (s : State) : State :=
  match s.mgmt.service, s.mgmt.waiting with
  | none, q :: rest => { s with mgmt := { s.mgmt with service := some (.taken q), waiting := rest } }
  | _, _ => s

/-- The request in service leaves service, and the next one waiting enters it (R196, R197). -/
def leaveService (s : State) : State := enterService { s with mgmt := { s.mgmt with service := none } }

/-- The response queue holds up to two responses (R15). -/
def State.respRoom (s : State) : Bool := decide (s.resp.length < 2)

/-- The Management Engine offers a response: taken, and the request leaves service, or held in service while the
queue is full (R15, R197). -/
def offerResponse (r : Response) (s : State) : State :=
  if s.respRoom then leaveService { s with resp := s.resp ++ [r] }
  else { s with mgmt := { s.mgmt with service := some (.holding r) } }

/-- A response held in service is offered again when an entry leaves the response queue (R197). -/
def reoffer (s : State) : State :=
  match s.mgmt.service with
  | some (.holding r) => offerResponse r s
  | _ => s

/-- The answer to a request: offered, or dropped for a request marked to receive none (R15, R197). -/
def answerRequest (q : Request) (status : Status) (result : List Octet) (s : State) : State :=
  if q.noResponse then leaveService s
  else offerResponse (responseTo q status result) s

/-! ### Transmission (R16, R17, R191) -/

/-- The payload of an ALERT frame (R216). -/
def Alert.payload (a : Alert) : List Octet :=
  be 1 a.source ++ be 1 a.priority ++ be 1 a.count ++ [a.subject] ++ be 6 a.first ++ be 6 a.last ++ beFlag a.unset

/-- The head of the upstream queue is sent (R16). -/
def sendUpstream (s : State) : State :=
  match s.link.upQ with
  | [] => s
  | f :: rest => { s with link := { s.link with upQ := rest, txS := some f, ownRunS := 0 } }

/-- The oldest response's next part is sent; the response leaves the queue as its last part begins (R16, R215). -/
def sendResponse (r : Response) (rest : List Response) (s : State) : State :=
  let f : Frame := ⟨r.dst, r.src, kindResponse, r.seq, r.parts.headD []⟩
  let s := { s with link := { s.link with txS := some f, ownRunS := min 3 (s.link.ownRunS + 1) } }
  match r.parts.tail with
  | [] => reoffer { s with resp := rest }
  | ps => { s with resp := { r with parts := ps } :: rest }

/-- The head of the alert queue is sent as it stands, and its source is no longer queued (R191). -/
def sendAlert (a : Alert) (rest : List Alert) (s : State) : State :=
  let f : Frame := ⟨s.tables.link.alertDst, s.stationAddr, kindAlert, s.link.seqS, a.payload⟩
  { s with
    ev := { s.ev with alerts := rest }
    link := { s.link with txS := some f, seqS := s.link.seqS + 1, ownRunS := min 3 (s.link.ownRunS + 1) } }

/-- The Port S arbiter's selection (R16). -/
def selectPortS (s : State) : State :=
  if s.link.ownRunS = 3 ∧ s.link.upQ ≠ [] then sendUpstream s
  else
    match s.resp with
    | r :: rest => sendResponse r rest s
    | [] =>
      match s.ev.alerts with
      | a :: rest => sendAlert a rest s
      | [] => sendUpstream s

/-- The head of the downstream queue is sent (R17). -/
def sendDownstream (s : State) : State :=
  match s.link.downQ with
  | [] => s
  | f :: rest => { s with link := { s.link with downQ := rest, txF := some f, ownRunF := 0 } }

/-- The oldest own command is issued as its transmission begins (R13), with the header of R14. -/
def issueOwn (e : OwnEntry) (rest : List OwnEntry) (s : State) : State :=
  let f : Frame := ⟨(s.unitCfg e.target).addr, s.stationAddr, kindCommand, s.link.seqF, e.command.payload⟩
  { s with
    own := rest
    link := { s.link with txF := some f, seqF := s.link.seqF + 1, ownRunF := min 3 (s.link.ownRunF + 1) } }

/-- The Port F arbiter's selection (R17). -/
def selectPortF (s : State) : State :=
  if s.link.ownRunF = 3 ∧ s.link.downQ ≠ [] then sendDownstream s
  else
    match s.own with
    | e :: rest => issueOwn e rest s
    | [] => sendDownstream s

/-- PORT_S_SELECT (R16): acts while the transmitter is free. -/
def execPortSSelect (s : State) : Answer := .next (if s.link.txS.isNone then selectPortS s else s)

/-- PORT_S_TRANSMIT_END (R16): the end delimiter is sent and the transmitter is free. -/
def execPortSTransmitEnd (s : State) : Answer := .next { s with link := { s.link with txS := none } }

/-- PORT_F_SELECT (R17): acts while the transmitter is free. -/
def execPortFSelect (s : State) : Answer := .next (if s.link.txF.isNone then selectPortF s else s)

/-- PORT_F_TRANSMIT_END (R17). -/
def execPortFTransmitEnd (s : State) : Answer := .next { s with link := { s.link with txF := none } }

/-- What a port has collected is discarded without an event; behind the delimiter the path is between frames, and collects
what follows. -/
def dropCollected (p : Port) (behind : List LineSym) (l : LinkState) : LinkState :=
  match p with
  | .f => { l with rxF := collect none behind }
  | .s => { l with rxS := collect none behind }

/-- ABORT_DELIMITER (R1): the frame being collected ends unfinished, whatever its port has collected before this row and in the
symbols before the delimiter; between frames the delimiter has no effect. -/
def execAbortDelimiter (abort : LineAbort) (s : State) : Answer :=
  .next { s with link := dropCollected abort.port abort.run.behind s.link }

/-- The Port S arbiter has something to select: the transmitter is free and a source holds a frame (R16). -/
def State.portSReady (s : State) : Bool :=
  s.link.txS.isNone && (!s.resp.isEmpty || !s.ev.alerts.isEmpty || !s.link.upQ.isEmpty)

/-- The Port F arbiter has something to select (R17). -/
def State.portFReady (s : State) : Bool := s.link.txF.isNone && (!s.own.isEmpty || !s.link.downQ.isEmpty)

end Sys2Proof.Machine
end

