-- ==== Sys2Proof/Machine/Requests.lean ====
section
/-!
DEFINITION. Carrying out a management request and answering it (spec/10 R196 to R198). A request's row acts on the
request in service, when it has not been carried out yet and its code is the row's (log entry 1).
-/

namespace Sys2Proof.Machine

/-- What carrying out a request answers, and the state it leaves (R197). -/
structure Reply where
  status : Status
  result : List Octet
  state : State

/-- A refusal without result fields (R197). -/
def refuse (status : Status) (s : State) : Reply := ⟨status, [], s⟩

/-- The request's arguments. -/
def Request.args (q : Request) : List Octet := q.payload.drop 1

/-- The payload has the length the layout of its request requires (R198). -/
def Request.wellSized (q : Request) : Bool := decide (q.args.length = requestLength q.code q.args)

/-- The request in service that is still to be carried out (R196). -/
def State.inService (s : State) : Option Request :=
  match s.mgmt.service with
  | some (.taken q) => some q
  | some (.committing _) => none
  | some (.holding _) => none
  | none => none

/-- The request in service that a row of request code `code` carries out. -/
def State.requestFor (s : State) (code : Octet) : Option Request :=
  s.inService.filter fun q => !q.unknown && decide (q.code = code)

/-- The request in service, if it is one of code `code`, is checked for form, is carried out by `handler` and is answered
(R196 to R198). -/
def serve (code : Octet) (handler : List Octet → State → Reply) (s : State) : Answer :=
  match s.requestFor code with
  | none => .next s
  | some q =>
    if q.wellSized then
      let r := handler q.args s
      .next (answerRequest q r.status r.result r.state)
    else .next (answerRequest q .badArgument [] s)

/-- A request of unknown code or of none is answered UNKNOWN_REQUEST (R198). -/
def execUnknownRequest (s : State) : Answer :=
  match s.inService with
  | none => .next s
  | some q => .next (if q.unknown then answerRequest q .unknownRequest [] s else s)

end Sys2Proof.Machine
end

