-- ==== Sys2Proof/Machine/Events.lean ====
section
/-!
DEFINITION. The Event Unit's requests and resets (spec/09 R192 to R195).
-/

namespace Sys2Proof.Machine

/-- Membership of source `n` in a CLEAR_EVENTS set: bit n mod 8 of octet floor(n / 8) (R215). -/
def inSet (set : List Octet) (n : Nat) : Bool := (set.getD (n / 8) 0).getLsbD (n % 8)

/-- The latch of every source, as yes-or-no octets. -/
def State.latches (s : State) : List Octet := (s.ev.recs.map fun r => beFlag r.latch).flatten

def clearEvents (args : List Octet) (s : State) : Reply :=
  let t := { s with ev := { s.ev with recs := s.ev.recs.mapIdx fun n r => if inSet args n then .initial else r } }
  ⟨.ok, t.latches, t⟩

/-- CLEAR_EVENTS (R192). -/
def execClearEvents (s : State) : Answer := serve 0x40 clearEvents s

def forceEvent (args : List Octet) (s : State) : Reply :=
  let n := fieldAt args 0 1
  if 47 < n then refuse .badArgument s
  else
    let t := occur n noSubject s
    ⟨.ok, beFlag (t.source n).latch ++ be 1 (t.source n).count ++ beFlag (queued t.ev.alerts n), t⟩

/-- FORCE_EVENT (R193). -/
def execForceEvent (s : State) : Answer := serve 0x41 forceEvent s

/-- One source as READ_EVENTS shows it (R194): latch, count, subject, mask, priority, queued, parity mark. DESIGN CHOICE,
unsafe (log entry 77): mask and priority are the table's own, also while the entry carries a mark (R187). -/
def State.sourceResult (s : State) (n : Nat) : List Octet :=
  let r := s.source n
  let c := s.tables.events.getD n .initial
  beFlag r.latch ++ be 1 r.count ++ [r.subject] ++ be 1 (bit (!c.alertEnabled)) ++ be 1 c.priority ++
    beFlag (queued s.ev.alerts n) ++ beFlag (s.marked .events n)

def State.eventsResult (s : State) : List Octet :=
  ((List.range 48).map s.sourceResult).flatten ++ be 1 s.ev.alerts.length

/-- Every EVENTS entry is checked (R194). DESIGN CHOICE, unsafe (log entry 11): the sources by ascending number, which decides
the subject that TABLE_PARITY keeps when several are bad. -/
def checkEvents (s : State) : State := (List.range 48).foldl (fun s n => checkEventEntry n s) s

def readEvents (_ : List Octet) (s : State) : Reply :=
  let t := checkEvents s
  ⟨.ok, t.eventsResult, t⟩

/-- READ_EVENTS (R194). -/
def execReadEvents (s : State) : Answer := serve 0x0A readEvents s

/-- Latches, counts, subjects and alert queue after either reset (R195). -/
def eventsReset (s : State) : State := { s with ev := ⟨List.replicate 48 .initial, []⟩ }

end Sys2Proof.Machine
end

