-- ==== Sys2Proof/Machine/Channels.lean ====
section
/-!
DEFINITION. What every reader of a sample channel shares: the entry check at a use with what a finding does (spec/02
R37), and the channel as its consumers read it (R31, R33).
-/

namespace Sys2Proof.Machine

/-- The sweep counts the channel as done; it completes when its remaining set becomes empty (R46). -/
def sweepCounts (ch : Nat) (s : State) : State :=
  if s.engine.remaining.contains ch then
    let rest := s.engine.remaining.filter fun c => decide (c ≠ ch)
    occurIf rest.isEmpty Src.sweepDone noSubject { s with engine := { s.engine with remaining := rest } }
  else s

/-- A waiting engine request is withdrawn (R36, R37, R46). -/
def withdrawRequest (ch : Nat) (s : State) : State :=
  if (s.chan ch).request = .waiting then sweepCounts ch (s.onChan ch fun c => { c with request := .none }) else s

/-- The pending item is dropped (R41). -/
def dropPending (ch : Nat) (s : State) : State := s.onChan ch fun c => { c with pendingItem := none }

/-- Quality BAD with the values held (R37). -/
def setBad (ch : Nat) (s : State) : State := s.onChan ch fun c => { c with quality := .bad }

/-- A use of the channel's entry checks it: an arrival, the beginning of a conditioning, a listing by a sweep, and a read
of its parameters by a consumer or a request. An entry found bad makes the quality BAD with the values held (R37 and the
table under R209, log entry 36). -/
def useChannel (ch : Nat) (s : State) : State :=
  if s.foundBad .channels ch then setBad ch (withdrawRequest ch (dropPending ch (markEntry .channels ch ch s))) else s

/-- Consumers read channels one after the other, the entry of each checked at its read (R37). -/
def useChannels (chs : List Nat) (s : State) : State := chs.foldl (fun s ch => useChannel ch s) s

/-- A channel as a consumer reads it: quality, and the filtered value when it may be taken (R31, R33). -/
def State.readChannel (s : State) (ch : Nat) : Quality × Option Int :=
  if (s.chCfg ch).inUse then
    match (s.chan ch).quality with
    | .stale => (.stale, none)
    | q => (q, (s.chan ch).filtered)
  else (.stale, none)

/-- The filtered value of a channel whose quality is GOOD or SUSPECT. -/
def State.trusted (s : State) (ch : Nat) : Option Int :=
  match s.readChannel ch with
  | (.good, v) => v
  | (.suspect, v) => v
  | (.bad, _) => none
  | (.stale, _) => none

end Sys2Proof.Machine
end

