-- ==== Sys2Proof/Machine/Duty.lean ====
section
/-!
DEFINITION. The Compressor Duty Controller's operations on its records (spec/06): starts and stops, the duty order
list, demand, eligibility, the desired set, the load share and the capacity to publish. The evaluation that is
coupled to the accounts is in Confirm.lean.
-/

namespace Sys2Proof.Machine

/-! ### Records (R102, R103) -/

/-- The record is in use. -/
def State.compInUse (s : State) (k : Nat) : Bool := (s.compCfg k).inUse

/-- The target of the record's own commands (R103). -/
def State.compEntry (s : State) (k : Nat) : Nat := (s.compRec k).entry

/-- The record in use whose unit entry in force is directory entry `e` (R105, R124). -/
def State.compOf (s : State) (e : Nat) : Option Nat :=
  (List.range 6).find? fun k => s.compInUse k && decide (s.compEntry k = e)

/-- All four timers stop. -/
def CompRec.stopTimers (r : CompRec) : CompRec := { r with tStart := none, tStop := none, tMinRun := none, tCool := none }

/-- The list holds B or more marks (R108). -/
def State.exhausted (s : State) (k : Nat) : Bool := decide ((s.compCfg k).budget ≤ (s.compRec k).marks.length)

/-- A mark is appended; of a list of 8 the oldest is dropped (R107). -/
def appendMark (now : Nat) (marks : List Nat) : List Nat := (marks ++ [now]).drop (marks.length - 7)

/-- The marks whose age has not reached the window (R108). -/
def youngMarks (now window : Nat) (marks : List Nat) : List Nat :=
  marks.filter fun m => decide (now < m + window * Config.second)

/-- Entry to COOLDOWN; a cooldown time of 0 passes to STOPPED at once (R113). -/
def CompRec.enterCooldown (now cooldown : Nat) (r : CompRec) : CompRec :=
  if cooldown = 0 then { r with state := .stopped, tCool := none }
  else { r with state := .cooldown, tCool := startTimer now (cooldown * Config.second) }

/-! ### Parity (R128) -/

/-- The unit is treated as LOCKED_OUT when its entry is found bad (R128). DESIGN CHOICE, unsafe (log entry 82): also where the
record's unit entry is no longer an in-use COMPRESSOR entry, which R102 keeps UNAVAILABLE. -/
def lockByParity (k : Nat) (s : State) : State :=
  withdrawAll (s.compEntry k)
    (s.onComp k fun r => { r.stopTimers with state := .lockedOut, stopPending := false })

/-- A use of the record's entry checks it (R128); a record not in use has no unit to lock out. -/
def checkComp (k : Nat) (s : State) : State :=
  if s.foundBad .compressors k then
    if s.compInUse k then lockByParity k (markEntry .compressors k k s) else markEntry .compressors k k s
  else s

/-! ### Starts and stops (R109, R111, R114) -/

/-- What every start does together (R109). -/
def CompRec.start (now confirm : Nat) (r : CompRec) : CompRec :=
  { r with
    state := .starting
    marks := appendMark now r.marks
    tStart := startTimer now (confirm * Config.second)
    stopPending := false
    lastSpeed := none }

def beginStart (k : Nat) (s : State) : State := s.onComp k (CompRec.start s.now (s.compCfg k).startConfirm)

/-- The start's mark is removed and the unit is STOPPED (R109, R114). -/
def CompRec.cancel (r : CompRec) : CompRec := { r with state := .stopped, marks := r.marks.dropLast, tStart := none }

/-- An own start of a STOPPED unit (R109); one whose offer is not accepted is undone. -/
def ownStart (k : Nat) (s : State) : State :=
  if s.comp.heldEsd || s.exhausted k then s
  else if s.accepts (s.compEntry k) then offerOwn (s.compEntry k) .start (beginStart k s)
  else (beginStart k s).onComp k CompRec.cancel

/-- The record's part of taking a stop (R111). -/
def CompRec.unload (now confirm : Nat) (r : CompRec) : CompRec :=
  { r with state := .unloading, tStop := startTimer now (confirm * Config.second), stopPending := false }

/-- Taking a stop (R111); the unit stays RUNNING when the offer is not accepted. -/
def takeStop (k : Nat) (s : State) : State :=
  if s.accepts (s.compEntry k) then
    (withdrawOwn (s.compEntry k) isSpeed (offerOwn (s.compEntry k) .stop s)).onComp k
      (CompRec.unload s.now (s.compCfg k).stopConfirm)
  else s

/-- An own START for the unit is still unsent. -/
def State.startUnsent (s : State) (k : Nat) : Bool := s.unsent (s.compEntry k) isStart

/-- A start is cancelled before its START was issued (R114, first row). -/
def cancelStart (k : Nat) (s : State) : State := (withdrawOwn (s.compEntry k) isStart s).onComp k CompRec.cancel

/-- An immediate stop (R114). -/
def immediateStop (k : Nat) (s : State) : State :=
  match (s.compRec k).state with
  | .starting =>
    if s.startUnsent k then cancelStart k s
    else
      (offerOwn (s.compEntry k) .stop s).onComp k fun r =>
        { CompRec.unload s.now (s.compCfg k).stopConfirm r with tStart := none }
  | .running => (takeStop k s).onComp k fun r => { r with tMinRun := none }
  | _ => s

/-- Every unit in use is given an immediate stop (R114). DESIGN CHOICE, unsafe (log entry 72): by ascending compressor number,
which is also the order of their STOPs in the own-command queue. -/
def immediateStops (s : State) : State :=
  (List.range 6).foldl (fun s k => if s.compInUse k then immediateStop k s else s) s

/-- On ESD active every start whose START is unsent is cancelled (R115). -/
def cancelUnsentStarts (s : State) : State :=
  (List.range 6).foldl
    (fun s k => if decide ((s.compRec k).state = .starting) && s.startUnsent k then cancelStart k s else s) s

/-! ### The duty order list (R119) -/

/-- Earlier in the order: fewer run seconds, or equal and the lower number. -/
def State.runsBefore (s : State) (j k : Nat) : Bool :=
  decide ((s.compRec j).runSec < (s.compRec k).runSec) ||
    (decide ((s.compRec j).runSec = (s.compRec k).runSec) && decide (j < k))

def State.insertOrder (s : State) (k : Nat) : List Nat → List Nat
  | [] => [k]
  | j :: rest => if s.runsBefore j k then j :: s.insertOrder k rest else k :: j :: rest

/-- The list in ascending run seconds, ties to the lower number. -/
def State.sortOrder (s : State) (l : List Nat) : List Nat := l.foldr s.insertOrder []

/-- A re-sort at entry to SHUT_IN or ROTATE (R119). -/
def resort (s : State) : State := { s with comp := { s.comp with order := s.sortOrder s.comp.order } }

/-- The list as built at a reset, from the AUTO records in use (R131). -/
def buildOrder (s : State) : State :=
  { s with
    comp := { s.comp with
      order := s.sortOrder ((List.range 6).filter fun k => s.compInUse k && decide ((s.compRec k).mode = .auto)) } }

/-! ### Demand, desired set, speeds and capacity (R120 to R123) -/

/-- The demand D in kWh/h (R120). -/
def State.demand (s : State) : Nat :=
  match s.comp.heldMode with
  | .inject => s.comp.injTotal * 60 / s.lMin
  | .withdraw => if s.comp.heldFlag then s.comp.wdTotal * 60 / s.lMin else 0
  | .shutIn => 0
  | .transition _ _ => 0

/-- A listed unit that duty may count on (R121). -/
def State.eligible (s : State) (k : Nat) : Bool :=
  !s.marked .compressors k &&
    match (s.compRec k).state with
    | .unavailable => false
    | .lockedOut => false
    | .starting => true
    | .running => true
    | .stopped => !s.exhausted k
    | .unloading => !s.exhausted k
    | .cooldown => !s.exhausted k

/-- The shortest run from the front whose capacities sum to the demand, or all (R121). -/
def shortestRun (capacity : Nat → Nat) : Nat → List Nat → List Nat
  | 0, _ => []
  | _, [] => []
  | d + 1, k :: rest => k :: shortestRun capacity (d + 1 - capacity k) rest

/-- The desired set (R121). -/
def State.desired (s : State) : List Nat :=
  shortestRun (fun k => (s.compCfg k).capacity) s.demand (s.comp.order.filter s.eligible)

/-- What an evaluation does to one AUTO unit (R121). -/
def actOn (wanted : List Nat) (k : Nat) (s : State) : State :=
  match (s.compRec k).state with
  | .stopped => if wanted.contains k then ownStart k s else s
  | .running =>
    if wanted.contains k then s.onComp k fun r => { r with stopPending := false }
    else if (s.compRec k).tMinRun.isSome then s.onComp k fun r => { r with stopPending := true }
    else takeStop k s
  | _ => s

/-- The sum of the capacities of the AUTO units that are RUNNING (R122). -/
def State.runningCapacity (s : State) : Nat :=
  ((s.comp.order.filter fun k => decide ((s.compRec k).state = .running)).map fun k => (s.compCfg k).capacity).sum

/-- The speed of a unit's load share (R122). -/
def shareSpeed (c : CompCfg) (demand running : Nat) : Nat :=
  let p := min 1000 (max c.pMin (1000 * demand / running))
  c.sMin + ((c.sMax - c.sMin) * p + 500) / 1000

/-- A speed is offered when none was sent, or when it differs from the last one by the deadband or more (R122; an equal
speed does not differ, log entry 34). -/
def speedDue (deadband speed : Nat) : Option Nat → Bool
  | none => true
  | some last => decide (speed ≠ last) && decide (deadband ≤ max speed last - min speed last)

/-- The load share of one listed unit (R122). -/
def offerSpeed (demand running k : Nat) (s : State) : State :=
  let speed := shareSpeed (s.compCfg k) demand running
  if decide ((s.compRec k).state = .running) && speedDue (s.compCfg k).deadband speed (s.compRec k).lastSpeed &&
      s.accepts (s.compEntry k) then
    (offerOwn (s.compEntry k) (.speed speed) s).onComp k fun r => { r with lastSpeed := some speed }
  else s

/-- The load share of all RUNNING AUTO units (R122). -/
def offerSpeeds (s : State) : State :=
  if s.runningCapacity = 0 then s
  else s.comp.order.foldl (fun t k => offerSpeed s.demand s.runningCapacity k t) s

/-- The capacity to publish (R123). -/
def State.compCapacity (s : State) : Nat :=
  ((s.comp.order.filter fun k =>
    !s.marked .compressors k && decide ((s.compRec k).state ≠ .lockedOut) &&
      decide ((s.compRec k).state ≠ .unavailable)).map fun k => (s.compCfg k).capacity).sum

/-- The entries an evaluation considers are checked (R128). DESIGN CHOICE, unsafe (log entry 90): they are those of the records
in the duty order list, in any duty state; no MANUAL record's. -/
def checkOrder (s : State) : State := s.comp.order.foldl (fun s k => checkComp k s) s

/-- One duty evaluation, but for the publication of the capacity (R121, R122). DESIGN CHOICE, unsafe (log entry 89): the AUTO
units are acted on, and their speeds offered, in the order of the duty order list. -/
def evalCore (s : State) : State := offerSpeeds (s.comp.order.foldl (fun t k => actOn s.desired k t) s)

end Sys2Proof.Machine
end

