-- ==== Sys2Proof/Machine/Confirm.lean ====
section
/-!
DEFINITION. Capacity by direction, clamping, curtailment and parity of the account slots (spec/08 R158 to R164, R181),
and their coupling with the duty evaluation through demand and published capacity (R120, R123, R165).
-/

namespace Sys2Proof.Machine

/-! ### Capacity by direction (R158) -/

/-- A rate as an amount of one interval, rounded by floor (spec/08, introduction). -/
def State.perInterval (s : State) (rate : Nat) : Nat := rate * s.lMin / 60

def State.capInj (s : State) : Nat := s.perInterval s.acct.compCap

def State.capWd (s : State) : Nat :=
  if s.acct.flag then min (s.perInterval s.acct.dryCap) (s.perInterval s.acct.compCap) else s.perInterval s.acct.dryCap

def State.capOf (s : State) : Dir → Nat
  | .inject => s.capInj
  | .withdraw => s.capWd

/-! ### Slots -/

/-- The slot is used (R156). -/
def State.slotUsed (s : State) (i : Nat) : Bool := decide ((s.shipper i).code ≠ 0)

/-- The used slot that holds a code. -/
def State.slotOf (s : State) (code : Nat) : Option Nat :=
  (List.range 32).find? fun i => decide (code ≠ 0) && decide ((s.shipper i).code = code)

/-- The current confirmed amount in a direction, 0 when the nomination is in the other (R160). -/
def AccSlot.confirmedIn (d : Dir) (a : AccSlot) : Nat := if a.dir = d then a.conf else 0

/-- The inventory, or the projected inventory while CLOSING (R160). -/
def State.baseInventory (s : State) (i : Nat) : Nat :=
  match s.acct.closing with
  | some op => op.projected.getD i 0
  | none => s.inventory i

/-- The sum of current confirmed amounts in a direction (R165). -/
def State.confirmedSum (s : State) (d : Dir) : Nat := (s.acct.slots.map (AccSlot.confirmedIn d)).sum

/-! ### Clamping (R160, R161) -/

/-- A CURRENT nomination's amount after clamping (R160). -/
def State.clampCurrent (s : State) (i : Nat) (d : Dir) (amount : Nat) : Nat :=
  match d with
  | .inject => min (min amount (s.perInterval (s.shipper i).injRight)) ((s.shipper i).space - s.baseInventory i)
  | .withdraw => min (min amount (s.perInterval (s.shipper i).wdRight)) (s.baseInventory i)

/-- A NEXT nomination's amount after clamping (R160). -/
def State.clampNext (s : State) (i : Nat) (d : Dir) (amount : Nat) : Nat :=
  match d with
  | .inject =>
    min (min amount (s.perInterval (s.shipper i).injRight))
      ((s.shipper i).space - s.baseInventory i - (s.slot i).confirmedIn .inject)
  | .withdraw =>
    min (min amount (s.perInterval (s.shipper i).wdRight)) (s.baseInventory i - (s.slot i).confirmedIn .withdraw)

/-- A current nomination is clamped again (R161). -/
def reclamp (i : Nat) (s : State) : State := s.onSlot i fun a => { a with req := s.clampCurrent i a.dir a.req }

def reclampAll (s : State) : State := (List.range 32).foldl (fun s i => reclamp i s) s

/-! ### Curtailment (R163, R164) -/

/-- What a slot asks for in a direction: nothing in the other direction or under a parity mark (R163). -/
def State.asked (s : State) (d : Dir) (i : Nat) : Nat :=
  if !s.marked .shippers i && decide ((s.slot i).dir = d) then (s.slot i).req else 0

/-- Served before slot `i` among the INTERRUPTIBLE slots: lower rank, or equal rank and lower index (R163). -/
def State.servedBefore (s : State) (j i : Nat) : Bool :=
  !(s.shipper j).firm &&
    (decide ((s.shipper j).rank < (s.shipper i).rank) ||
      (decide ((s.shipper j).rank = (s.shipper i).rank) && decide (j < i)))

def State.askedFirm (s : State) (d : Dir) (i : Nat) : Nat := if (s.shipper i).firm then s.asked d i else 0

/-- The confirmed amount of a slot where FIRM requests fit and the whole does not (R163, second case). -/
def State.served (s : State) (d : Dir) (left i : Nat) : Nat :=
  if (s.shipper i).firm then s.asked d i
  else min (s.asked d i) (left - (((List.range 32).filter fun j => s.servedBefore j i).map (s.asked d)).sum)

/-- The confirmed amounts in one direction (R163). -/
def State.confirmations (s : State) (d : Dir) : List Nat :=
  let cap := s.capOf d
  let total := ((List.range 32).map (s.asked d)).sum
  let firm := ((List.range 32).map (s.askedFirm d)).sum
  if total ≤ cap then (List.range 32).map (s.asked d)
  else if firm ≤ cap then (List.range 32).map (s.served d (cap - firm))
  else divideShares cap ((List.range 32).map (s.askedFirm d))

/-- The lowest slot confirmed below its request (R164). -/
def State.firstCut (s : State) : Option Nat :=
  (List.range 32).find? fun i => decide ((s.slot i).conf < (s.slot i).req)

/-- The slots with the confirmed amounts of one computation over both directions (R163). -/
def confirmAll (s : State) : State :=
  let inj := s.confirmations .inject
  let wd := s.confirmations .withdraw
  { s with
    acct := { s.acct with
      slots := s.acct.slots.mapIdx fun i a =>
        { a with conf := match a.dir with
          | .inject => inj.getD i 0
          | .withdraw => wd.getD i 0 } } }

/-- CURTAILED is to be latched: some slot is below its request and below its former amount, or is the one whose
nomination was just accepted (R164). -/
def curtailedNow (just : Option Nat) (before after : State) : Bool :=
  (List.range 32).any fun i =>
    decide ((after.slot i).conf < (after.slot i).req) &&
      (decide ((after.slot i).conf < (before.slot i).conf) || decide (just = some i))

/-- A curtailment computation, but for telling the sums (R163, R164). -/
def curtailCore (just : Option Nat) (s : State) : State :=
  let t := confirmAll s
  match t.firstCut with
  | none => t
  | some i =>
    occurIf (curtailedNow just s t) Src.curtailed i { t with acct := { t.acct with curtailed := true } }

/-! ### Coupling with the duty controller (R120, R121, R123, R165) -/

/-- The confirmed totals differ from those last told (R165). -/
def State.sumsChanged (s : State) : Bool :=
  decide (s.confirmedSum .inject ≠ s.acct.toldInj) || decide (s.confirmedSum .withdraw ≠ s.acct.toldWd)

/-- The duty controller is told both sums (R165, R120). -/
def tellSums (s : State) : State :=
  { s with
    acct := { s.acct with toldInj := s.confirmedSum .inject, toldWd := s.confirmedSum .withdraw }
    comp := { s.comp with injTotal := s.confirmedSum .inject, wdTotal := s.confirmedSum .withdraw } }

/-- A changed capacity is told to the Account Engine, with the curtailment that it causes and the demand notice that
may come back (R123, R158, R165). -/
def publish (s : State) : State :=
  if s.compCapacity = s.comp.published then s
  else
    let t := curtailCore none
      { s with
        comp := { s.comp with published := s.compCapacity }
        acct := { s.acct with compCap := s.compCapacity } }
    if t.sumsChanged then evalCore (tellSums t) else t

/-- A duty evaluation with the entry checks it makes, and the recomputation of the published capacity (R121, R123,
R128). DESIGN CHOICE, unsafe (log entry 97): after a change of a duty state, a mode or a parity mark the evaluation, with the
demand then in force, comes before the recomputed capacity and its curtailment; sums that the curtailment changes bring a
second evaluation. -/
def dutyEvaluation (s : State) : State := publish (evalCore (checkOrder s))

/-- A curtailment computation with the demand notice that follows a change of the sums (R164, R165). -/
def curtail (just : Option Nat) (s : State) : State :=
  let t := curtailCore just s
  if t.sumsChanged then dutyEvaluation (tellSums t) else t

/-- A slot found bad has its nominations emptied and a curtailment computation follows (R181). DESIGN CHOICE, unsafe (log entry
94): its current nomination of 0 keeps the direction it had. -/
def checkShipper (i : Nat) (s : State) : State :=
  if s.foundBad .shippers i then
    curtail none ((markEntry .shippers i i s).onSlot i fun a => { a with req := 0, next := none })
  else s

end Sys2Proof.Machine
end

