-- ==== Sys2Proof/Machine/Compressors.lean ====
section
/-!
DEFINITION. The Compressor Duty Controller's events (spec/06): reports, timers, notices of mode, ESD, compression flag
and departure, supervisor commands, its requests, its commit and its resets.
-/

namespace Sys2Proof.Machine

/-! ### Reports (R105 to R107, R110) -/

/-- LOCKED_OUT by a TRIPPED report: every timer stops and every unsent own command is withdrawn (R107). -/
def tripLock (k : Nat) (s : State) : State :=
  withdrawAll (s.compEntry k) (s.onComp k fun r => { r.stopTimers with state := .lockedOut, stopPending := false })

/-- A first report settles the state (R106). -/
def settleFirst (k : Nat) (state : DutyState) (s : State) : State :=
  s.onComp k fun r => { r with state := state, lostOp := false, lockHeld := false }

/-- A first report in UNAVAILABLE (R106). -/
def firstReport (k : Nat) (c : Condition) (s : State) : State :=
  match c with
  | .transient => s
  | .tripped => dutyEvaluation (settleFirst k .lockedOut s)
  | .stopped => dutyEvaluation (settleFirst k (if (s.compRec k).lockHeld then .lockedOut else .stopped) s)
  | .running =>
    if (s.compRec k).lockHeld then dutyEvaluation (settleFirst k .lockedOut s)
    else
      dutyEvaluation
        ((settleFirst k .running s).onComp k fun r =>
          { r with tMinRun := startTimer s.now ((s.compCfg k).minRun * Config.second), lastSpeed := none })

/-- A local start (R107). -/
def localStart (k : Nat) (s : State) : State :=
  occur Src.localStart k
    ((withdrawOwn (s.compEntry k) isStop s).onComp k fun r =>
      { r with
        state := .running
        marks := appendMark s.now r.marks
        tMinRun := startTimer s.now ((s.compCfg k).minRun * Config.second)
        tCool := none
        lastSpeed := none })

/-- A STOPPED report in RUNNING or UNLOADING (R107). -/
def stoppedReport (k : Nat) (s : State) : State :=
  (withdrawOwn (s.compEntry k) isSpeed s).onComp k fun r =>
    CompRec.enterCooldown s.now (s.compCfg k).cooldown { r with tMinRun := none, tStop := none, stopPending := false }

/-- A start is confirmed (R110). -/
def confirmStart (k : Nat) (s : State) : State :=
  (withdrawOwn (s.compEntry k) isStart s).onComp k fun r =>
    { r with
      state := .running
      tStart := none
      failures := 0
      tMinRun := startTimer s.now ((s.compCfg k).minRun * Config.second) }

/-- A report acts on the duty state (R106, R107). DESIGN CHOICE, unsafe (log entry 96): a TRIPPED report in LOCKED_OUT is
recorded only, as the table has it; an own STOP that still waits then is not withdrawn, though the paragraph on TRIPPED
withdraws every unsent own command from every state. -/
def actReport (k : Nat) (c : Condition) (s : State) : State :=
  match (s.compRec k).state, c with
  | .unavailable, _ => firstReport k c s
  | .lockedOut, _ => s
  | _, .tripped => dutyEvaluation (tripLock k s)
  | .stopped, .running => dutyEvaluation (localStart k s)
  | .cooldown, .running => dutyEvaluation (localStart k s)
  | .starting, .running => dutyEvaluation (confirmStart k s)
  | .running, .stopped => dutyEvaluation (stoppedReport k s)
  | .unloading, .stopped => dutyEvaluation (stoppedReport k s)
  | .stopped, _ => s
  | .starting, _ => s
  | .running, _ => s
  | .unloading, _ => s
  | .cooldown, _ => s

/-- A use of the record outside an evaluation checks it; a new mark is followed by an evaluation (R128, R121). -/
def useComp (k : Nat) (s : State) : State :=
  if s.foundBad .compressors k then dutyEvaluation (checkComp k s) else s

/-- A report is matched to record `k` (R105, R128). -/
def reportTo (k : Nat) (c : Condition) (s : State) : State :=
  let s := useComp k s
  let fresh := !s.marked .compressors k && decide (c = .tripped) && decide ((s.compRec k).lastReport ≠ some .tripped)
  let s := occurIf fresh Src.unitTripped k (s.onComp k fun r => { r with lastReport := some c })
  if s.marked .compressors k then s else actReport k c s

/-- A STATE payload from directory entry `e` of class COMPRESSOR (R105, R214). -/
def compressorReport (e : Nat) (payload : List Octet) (s : State) : State :=
  match payload, s.compOf e with
  | b :: _, some k => reportTo k (conditionOf b) s
  | _, _ => s

/-! ### Notices from other blocks -/

/-- The unit's entry has left PRESENT (R116). -/
def compDeparted (e : Nat) (s : State) : State :=
  match s.compOf e with
  | none => s
  | some k =>
    let lost := decide ((s.compRec k).state = .starting) || decide ((s.compRec k).state = .running) ||
      decide ((s.compRec k).state = .unloading)
    let t := s.onComp k fun r =>
      { r.stopTimers with
        state := .unavailable
        stopPending := false
        lastSpeed := none
        lostOp := r.lostOp || lost
        lockHeld := r.lockHeld || decide (r.state = .lockedOut) }
    dutyEvaluation (occurIf lost Src.operationLost k t)

/-- A notice of the station mode (R120); each entry to SHUT_IN re-sorts the list and gives immediate stops (R94, R114,
R119). -/
def dutyMode (m : Mode) (s : State) : State :=
  let s := { s with comp := { s.comp with heldMode := m } }
  dutyEvaluation (if m = .shutIn then immediateStops (resort s) else s)

/-- A change of the ESD state (R115). -/
def dutyEsd (active : Bool) (s : State) : State :=
  let s := { s with comp := { s.comp with heldEsd := active } }
  dutyEvaluation (if active then cancelUnsentStarts s else s)

/-- A change of the compression flag (R120). -/
def dutyFlag (flag : Bool) (s : State) : State := dutyEvaluation { s with comp := { s.comp with heldFlag := flag } }

/-- The run seconds of all six records are written to the retained store (R130). -/
def writeRunSeconds (s : State) : State :=
  { s with ret := { s.ret with runSeconds := s.comp.recs.map (·.runSec) } }

/-! ### Supervisor commands (R124 to R127) -/

/-- A governing controller's verdict on a supervisor command (R10). -/
inductive Verdict where
  | pass
  | alter (payload : List Octet)
  | refuse
  deriving DecidableEq, Repr

/-- An AUTO unit becomes MANUAL (R118). -/
def becomeManual (k : Nat) (s : State) : State :=
  if (s.compRec k).mode = .manual then s
  else
    let t := withdrawOwn (s.compEntry k) isSpeed
      (s.onComp k fun r => { r with mode := .manual, stopPending := false })
    { t with comp := { t.comp with order := t.comp.order.filter fun j => decide (j ≠ k) } }

/-- A MANUAL unit becomes AUTO and joins the tail of the list (R118). -/
def becomeAuto (k : Nat) (s : State) : State :=
  if (s.compRec k).mode = .auto then s
  else
    let t := s.onComp k fun r => { r with mode := .auto }
    { t with comp := { t.comp with order := t.comp.order ++ [k] } }

/-- A supervisor STOP (R125). -/
def supervisorStop (k : Nat) (s : State) : State × Verdict :=
  (dutyEvaluation (becomeManual k (immediateStop k s)), .pass)

/-- A supervisor START (R126, R109). -/
def supervisorStart (k : Nat) (s : State) : State × Verdict :=
  if s.marked .compressors k || decide ((s.compRec k).state ≠ .stopped) || s.comp.heldEsd || s.exhausted k then (s, .refuse)
  else (dutyEvaluation (beginStart k s), .pass)

/-- A supervisor SPEED (R127). -/
def supervisorSpeed (k : Nat) (payload : List Octet) (s : State) : State × Verdict :=
  let c := s.compCfg k
  let rpm := fieldAt payload 1 2
  let sent := max c.sMin (min rpm c.sMax)
  if s.marked .compressors k || decide ((s.compRec k).mode = .auto) || commandTooShort payload then (s, .refuse)
  else
    let t := s.onComp k fun r => { r with lastSpeed := some sent }
    if sent = rpm then (t, .pass)
    else (occur Src.speedClamped k t, .alter (payload.take 1 ++ be 2 sent ++ payload.drop 3))

/-- The verdict on a command to the unit of record `k` (R124, R128). -/
def judgeComp (k : Nat) (payload : List Octet) (s : State) : State × Verdict :=
  let s := useComp k s
  match payload with
  | [] => (s, .refuse)
  | a :: _ =>
    if a = 2 then supervisorStop k s
    else if a = 1 then supervisorStart k s
    else if a = 3 then supervisorSpeed k payload s
    else (s, .refuse)

/-- A supervisor COMMAND to directory entry `e` of class COMPRESSOR (R124). -/
def compressorCommand (e : Nat) (payload : List Octet) (s : State) : State × Verdict :=
  match s.compOf e with
  | none => (s, .pass)
  | some k => judgeComp k payload s

/-! ### Timers (R108, R110 to R113) -/

/-- The start has failed (R110). -/
def failStart (k : Nat) (s : State) : State :=
  let t := occur Src.startFailed k
    ((offerOwn (s.compEntry k) .stop s).onComp k fun r => { r with tStart := none, failures := min 2 (r.failures + 1) })
  if 2 ≤ (t.compRec k).failures then
    dutyEvaluation (occur Src.unitLockedOut k (t.onComp k fun r => { r with state := .lockedOut }))
  else dutyEvaluation (t.onComp k (CompRec.enterCooldown t.now (t.compCfg k).cooldown))

/-- START_CONFIRM_EXPIRY (R110). -/
def execStartConfirmExpiry (k : Nat) (s : State) : Answer :=
  if 6 ≤ k then .refused .noSuchTarget
  else .next
    (if decide ((s.compRec k).state = .starting) && fires s.now (s.compRec k).tStart then failStart k s else s)

/-- The stop that waited for the minimum run is taken (R111). -/
def minimumRunOver (k : Nat) (s : State) : State :=
  let t := s.onComp k fun r => { r with tMinRun := none }
  if (s.compRec k).stopPending && decide ((s.compRec k).state = .running) then dutyEvaluation (takeStop k t) else t

/-- MINIMUM_RUN_EXPIRY (R111). -/
def execMinimumRunExpiry (k : Nat) (s : State) : Answer :=
  if 6 ≤ k then .refused .noSuchTarget
  else .next (if fires s.now (s.compRec k).tMinRun then minimumRunOver k s else s)

/-- The unit has not confirmed that it has stopped (R112). -/
def stopTimedOut (k : Nat) (s : State) : State :=
  dutyEvaluation
    (occur Src.stopTimeout k (s.onComp k fun r => { r with state := .lockedOut, tStop := none }))

/-- STOP_CONFIRM_EXPIRY (R112). -/
def execStopConfirmExpiry (k : Nat) (s : State) : Answer :=
  if 6 ≤ k then .refused .noSuchTarget
  else .next
    (if decide ((s.compRec k).state = .unloading) && fires s.now (s.compRec k).tStop then stopTimedOut k s else s)

/-- The cooldown is over (R113). -/
def cooledDown (k : Nat) (s : State) : State :=
  dutyEvaluation (s.onComp k fun r => { r with state := .stopped, tCool := none })

/-- COOLDOWN_EXPIRY (R113). -/
def execCooldownExpiry (k : Nat) (s : State) : Answer :=
  if 6 ≤ k then .refused .noSuchTarget
  else .next
    (if decide ((s.compRec k).state = .cooldown) && fires s.now (s.compRec k).tCool then cooledDown k s else s)

/-- The record holds a mark whose age has reached the window (R108). -/
def State.markDue (s : State) (k : Nat) : Bool :=
  (s.compRec k).marks.any fun m => decide (m + (s.compCfg k).window * Config.second ≤ s.now)

/-- START_MARK_AGEOUT (R108). -/
def execStartMarkAgeout (k : Nat) (s : State) : Answer :=
  if 6 ≤ k then .refused .noSuchTarget
  else .next
    (if s.markDue k then
      dutyEvaluation (s.onComp k fun r => { r with marks := youngMarks s.now (s.compCfg k).window r.marks })
    else s)

/-! ### Requests (R117 to R119, R129) -/

/-- Codes of duty states, in the order of R103 (R202). -/
def DutyState.code : DutyState → Nat
  | .unavailable => 0
  | .stopped => 1
  | .starting => 2
  | .running => 3
  | .unloading => 4
  | .cooldown => 5
  | .lockedOut => 6

/-- Codes of reports, in the order of R103 after 'absent' (R202, R214). -/
def Condition.code : Condition → Nat
  | .stopped => 0
  | .transient => 1
  | .running => 2
  | .tripped => 3

/-- The checks that a request naming a compressor begins with (R117, R118). -/
def withComp (args : List Octet) (s : State) (f : Nat → Reply) : Reply :=
  let k := fieldAt args 0 1
  if 5 < k then refuse .badArgument s
  else if !s.compInUse k then refuse .unknownTarget s
  else f k

/-- The duty state as reports show it: UNAVAILABLE for a record not in use (R129). -/
def State.shownDuty (s : State) (k : Nat) : DutyState :=
  if s.compInUse k then (s.compRec k).state else .unavailable

/-- What RESET_UNIT answers (R117). -/
def State.resetUnitResult (s : State) (k : Nat) : List Octet :=
  be 1 (s.shownDuty k).code ++ beOpt 1 ((s.compRec k).lastReport.map Condition.code) ++ be 1 (s.compRec k).failures

def resetUnit (args : List Octet) (s : State) : Reply :=
  withComp args s fun k =>
    if decide ((s.compRec k).state ≠ .lockedOut) || decide ((s.compRec k).lastReport ≠ some .stopped) ||
        s.marked .compressors k then refuse .wrongState s
    else
      let t := dutyEvaluation (s.onComp k fun r => { r with state := .stopped, failures := 0 })
      ⟨.ok, t.resetUnitResult k, t⟩

/-- RESET_UNIT (R117). -/
def execResetUnit (s : State) : Answer := serve 0x19 resetUnit s

/-- A setting of the mode (R118); one that leaves the mode unchanged changes nothing. -/
def setUnitMode (m : UnitMode) (args : List Octet) (s : State) : Reply :=
  withComp args s fun k =>
    if s.marked .compressors k then refuse .wrongState s
    else if (s.compRec k).mode = m then ⟨.ok, [], s⟩
    else ⟨.ok, [], dutyEvaluation (match m with
      | .auto => becomeAuto k s
      | .manual => becomeManual k s)⟩

/-- SET_UNIT_AUTO (R118). -/
def execSetUnitAuto (s : State) : Answer := serve 0x1B (setUnitMode .auto) s

/-- SET_UNIT_MANUAL (R118). -/
def execSetUnitManual (s : State) : Answer := serve 0x1A (setUnitMode .manual) s

/-- The duty order list as a result carries it. -/
def orderResult (order : List Nat) : List Octet := beList (order.map fun k => be 1 k)

def rotate (_ : List Octet) (s : State) : Reply :=
  let t := resort s
  ⟨.ok, orderResult t.comp.order, dutyEvaluation t⟩

/-- ROTATE (R119). -/
def execRotate (s : State) : Answer := serve 0x18 rotate s

/-- What READ_COMPRESSOR answers (R129). DESIGN CHOICE, unsafe (log entries 68, 69 and 75): the remaining time on a timer is
in ms, the age of a start mark in whole seconds, rounded down, and the in-use flag is an octet of its own behind the
entry, which holds it too. -/
def State.compressorResult (s : State) (k : Nat) : List Octet :=
  let r := s.compRec k
  s.entryImage .compressors k ++ beFlag (s.compCfg k).inUse ++ beFlag (s.marked .compressors k) ++
    be 1 (s.shownDuty k).code ++ be 1 r.mode.code ++ beOpt 1 (r.lastReport.map Condition.code) ++ be 1 r.failures ++
    beList (r.marks.map fun m => be 2 ((s.now - m) / Config.second)) ++ be 4 r.runSec ++ beOpt 2 r.lastSpeed ++
    beFlag r.stopPending ++ beFlag r.lostOp ++ beFlag r.lockHeld ++ beOpt 4 (remainingMs s.now r.tStart) ++
    beOpt 4 (remainingMs s.now r.tStop) ++ beOpt 4 (remainingMs s.now r.tMinRun) ++
    beOpt 4 (remainingMs s.now r.tCool) ++ be 6 s.demand ++ be 3 s.comp.published ++ be 6 s.comp.injTotal ++
    be 6 s.comp.wdTotal ++ orderResult s.comp.order

def readCompressor (args : List Octet) (s : State) : Reply :=
  let k := fieldAt args 0 1
  if 5 < k then refuse .badArgument s
  else
    let t := useComp k s
    ⟨.ok, t.compressorResult k, t⟩

/-- READ_COMPRESSOR (R129). -/
def execReadCompressor (s : State) : Answer := serve 0x06 readCompressor s

/-! ### Commit and resets (R104, R131) -/

/-- The record stays in use with the same unit entry (R104). -/
def keepsRecord (old new : CompCfg) : Bool := old.inUse && new.inUse && decide (old.unit = new.unit)

/-- A record after a COMPRESSORS image took effect (R104). -/
def recordAfter (now : Nat) (old new : CompCfg) (r : CompRec) : CompRec :=
  if keepsRecord old new then
    if old.window = new.window then r else { r with marks := youngMarks now new.window r.marks }
  else CompRec.initial new.unit new.initial 0 0

/-- Unsent own commands for the former targets of records that changed are withdrawn (R104). -/
def withdrawFormer (old : List CompCfg) (s : State) : State :=
  (List.range 6).foldl
    (fun t k =>
      if (old.getD k .blank).inUse && !keepsRecord (old.getD k .blank) (s.compCfg k) then
        withdrawAll (old.getD k .blank).unit t
      else t) s

/-- A COMPRESSORS image has taken the place of table `old` (R104). -/
def compressorsTakeEffect (old : List CompCfg) (s : State) : State :=
  let kept (k : Nat) : Bool := keepsRecord (old.getD k .blank) (s.compCfg k)
  let joins := (List.range 6).filter fun k => !kept k && s.compInUse k && decide ((s.compCfg k).initial = .auto)
  let t := withdrawFormer old s
  let t := { t with
    comp := { t.comp with
      recs := t.comp.recs.mapIdx fun k r => recordAfter s.now (old.getD k .blank) (s.compCfg k) r
      order := t.comp.order.filter kept ++ joins } }
  dutyEvaluation (occur Src.tableCommitted noSubject t)

/-- A record after a reset with its run seconds (R131). -/
def recordAfterReset (c : CompCfg) (marked : Bool) (runSec runMs : Nat) : CompRec :=
  { CompRec.initial c.unit c.initial runSec runMs with state := if marked then .lockedOut else .unavailable }

/-- The controller after a power-on reset, its tables loaded (R131). -/
def compPowerOn (s : State) : State :=
  buildOrder { s with
    comp := {
      recs := (List.range 6).map fun k =>
        recordAfterReset (s.compCfg k) (s.marked .compressors k) (s.ret.runSeconds.getD k 0) 0
      order := []
      injTotal := 0
      wdTotal := 0
      published := 0
      heldMode := .shutIn
      heldEsd := false
      heldFlag := false } }

/-- The controller after a field restart (R131); the notice of the capacity 0 is the account engine's. -/
def compRestart (s : State) : State :=
  buildOrder { s with
    comp := { s.comp with
      recs := s.comp.recs.mapIdx fun k r => recordAfterReset (s.compCfg k) (s.marked .compressors k) r.runSec r.runMs
      published := 0
      heldMode := .shutIn
      heldEsd := false
      heldFlag := s.mode.flag } }

end Sys2Proof.Machine
end

