-- ==== Sys2Proof/Machine/StationTable.lean ====
section
/-!
DEFINITION. Reading the STATION table with its parity fallback (spec/10 R209) and the interval position (spec/05 R85).
-/

namespace Sys2Proof.Machine

/-- A read of a STATION field by a consumer checks the record; a mark stops the sweep period timer, whose period then
reads 0 (R209). -/
def checkStation (s : State) : State :=
  if s.foundBad .station 0 then
    let t := markEntry .station 0 0 s
    { t with engine := { t.engine with sweepDue := none } }
  else s

/-- The STATION fields as their consumers read them: defaults with the interval length kept while the record carries a
mark (R209). -/
def State.stationRead (s : State) : StationCfg :=
  if s.marked .station 0 then { StationCfg.initial with lMin := s.lMin } else s.tables.station

/-- The interval length in ms. -/
def State.intervalMs (s : State) : Nat := s.lMin * 60000

/-- The interval position, absent while station time is unset (R85). -/
def State.position (s : State) : Option Nat := s.time.next.map fun next => s.time.count + s.intervalMs - next

end Sys2Proof.Machine
end

