-- ==== Sys2Proof/Machine/Shippers.lean ====
section
/-!
DEFINITION. The Account Engine's close, allocation and requests (spec/08): snapshot and roll (R166, R168), handover
groups (R167), allocation (R169 to R173), completion (R174, R177, R180), NOMINATE, TRANSFER, READ_SHIPPER and
READ_CLOSE.
-/

namespace Sys2Proof.Machine

/-! ### Handover groups (R167) -/

def Group.opened (num : Nat) : Group := ⟨num, 0, 0, 0, 0, 0, 0, false, false⟩

/-- The group of a boundary number opens at its first handover or notice (R167). -/
def openGroup (num : Nat) (s : State) : State :=
  if s.acct.groups.any fun g => decide (g.num = num) then s
  else { s with acct := { s.acct with groups := s.acct.groups ++ [Group.opened num] } }

def onGroup (num : Nat) (f : Group → Group) (s : State) : State :=
  { s with acct := { s.acct with groups := s.acct.groups.map fun g => if g.num = num then f g else g } }

/-! ### Allocation (R169 to R173) -/

/-- The amounts of an allocation, slot by slot, before and after caps. -/
structure Shares where
  injAsked : List Nat
  inj : List Nat
  wdAsked : List Nat
  wd : List Nat
  fuelAsked : List Nat
  fuel : List Nat
  dryAsked : List Nat
  dry : List Nat
  after : List Nat
  deriving DecidableEq, Repr

/-- Slot-wise combinations of amounts. -/
def minus (a b : List Nat) : List Nat := List.zipWith (· - ·) a b

def plus (a b : List Nat) : List Nat := List.zipWith (· + ·) a b

def least (a b : List Nat) : List Nat := List.zipWith min a b

/-- The snapshot confirmations of one direction, the weights of step 1 (R169). -/
def snapWeights (d : Dir) (slots : List SnapSlot) : List Nat := slots.map fun x => if x.dir = d then x.conf else 0

/-- Steps 1 to 5: shares, their caps, charges and their caps, in the order injection, withdrawal, fuel, drying (R169 to
R172). -/
def sharesOf (slots : List SnapSlot) (g : Group) : Shares :=
  let held := slots.map (·.inventory)
  let injAsked := divideShares g.mInj (snapWeights .inject slots)
  let inj := least injAsked (slots.map fun x => x.space - x.inventory)
  let afterInj := plus held inj
  let wdAsked := divideShares g.mWd (snapWeights .withdraw slots)
  let wd := least wdAsked afterInj
  let afterWd := minus afterInj wd
  let fuelAsked := divideShares g.fuel (plus inj wd)
  let fuel := least fuelAsked afterWd
  let afterFuel := minus afterWd fuel
  let dryAsked := divideShares g.regen wd
  let dry := least dryAsked afterFuel
  ⟨injAsked, inj, wdAsked, wd, fuelAsked, fuel, dryAsked, dry, minus afterFuel dry⟩

/-- What a step sends to the OBA: the whole when its weights sum to 0, and the parts cut off otherwise (R169 to
R172). -/
def unplaced (total : Nat) (weights asked applied : List Nat) : Nat :=
  (if weights.sum = 0 then total else 0) + (minus asked applied).sum

/-- The OBA's change over steps 1 to 6 (R169 to R173). -/
def obaChange (slots : List SnapSlot) (g : Group) (x : Shares) : Int :=
  (unplaced g.mInj (snapWeights .inject slots) x.injAsked x.inj : Int) -
    unplaced g.mWd (snapWeights .withdraw slots) x.wdAsked x.wd - unplaced g.fuel (plus x.inj x.wd) x.fuelAsked x.fuel -
    unplaced g.regen x.wd x.dryAsked x.dry + g.tIn - g.tOut

/-- The lowest slot cut in step 2 or left uncovered in step 5 (R170, R172). -/
def Shares.firstCapped (x : Shares) : Option Nat :=
  (List.range x.after.length).find? fun i =>
    decide (x.inj.getD i 0 < x.injAsked.getD i 0) || decide (x.wd.getD i 0 < x.wdAsked.getD i 0) ||
      decide (x.fuel.getD i 0 < x.fuelAsked.getD i 0) || decide (x.dry.getD i 0 < x.dryAsked.getD i 0)

/-- The shipper lines: slots with a share or charge before caps above 0, in order of slot index (R176). -/
def Shares.lines (x : Shares) : List CloseLine :=
  ((List.range x.after.length).filter fun i =>
      decide (0 < x.injAsked.getD i 0) || decide (0 < x.wdAsked.getD i 0) || decide (0 < x.fuelAsked.getD i 0) ||
        decide (0 < x.dryAsked.getD i 0)).map
    fun i => ⟨i, x.inj.getD i 0, x.wd.getD i 0, x.fuel.getD i 0, x.dry.getD i 0, x.after.getD i 0⟩

/-- The allocation of a close (R169 to R173). -/
def allocate (free : Nat) (op : CloseOp) (g : Group) : AllocResult :=
  let x := sharesOf op.slots g
  let oba := obaAfter free (op.oba + obaChange op.slots g x)
  ⟨x.after, oba, oba - op.oba, x.lines, x.firstCapped, g⟩

/-- The allocation is taken when the close has begun and its group is complete; the group is then used and discarded
(R167). -/
def tryAllocate (s : State) : State :=
  match s.acct.closing with
  | none => s
  | some op =>
    if op.alloc.isSome then s
    else
      match s.acct.groups.find? fun g => decide (g.num = op.notice.num) && g.complete with
      | none => s
      | some g =>
        { s with
          acct := { s.acct with
            closing := some { op with alloc := some (allocate s.free op g) }
            groups := s.acct.groups.filter fun h => decide (h.num ≠ g.num) }
          free := s.free + 1 }

/-- The group of a boundary number is complete (R167). -/
def completeGroup (num : Nat) (s : State) : State :=
  tryAllocate (onGroup num (fun g => { g with complete := true }) (openGroup num s))

/-! ### The beginning of a close (R166, R168, R181) -/

def checkShippers (s : State) : State := (List.range 32).foldl (fun s i => checkShipper i s) s

/-- A slot of the snapshot; one with a parity mark enters with confirmed amount 0 (R166). -/
def State.snapSlot (s : State) (i : Nat) : SnapSlot :=
  ⟨(s.slot i).dir, if s.marked .shippers i then 0 else (s.slot i).conf, s.inventory i, (s.shipper i).space⟩

/-- The projected inventory: the snapshot inventory less the snapshot confirmed WD, at least 0 (R168). -/
def SnapSlot.projected (x : SnapSlot) : Nat := x.inventory - (if x.dir = .withdraw then x.conf else 0)

/-- The snapshot of a close (R166). -/
def State.snapshot (s : State) (n : Notice) : CloseOp :=
  let slots := (List.range 32).map s.snapSlot
  ⟨n, slots, s.ret.oba, s.acct.curtailed, slots.map SnapSlot.projected, none⟩

/-- A used slot moves into the new interval (R168). -/
def AccSlot.roll (a : AccSlot) : AccSlot :=
  match a.next with
  | some (d, amount) => { a with dir := d, req := amount, next := none }
  | none => { a with req := 0 }

/-- The roll (R168). -/
def rollSlots (s : State) : State :=
  { s with acct := { s.acct with slots := s.acct.slots.mapIdx fun i a => if s.slotUsed i then a.roll else a } }

/-- A close begins: snapshot, roll, provisional confirmation (R166, R168). DESIGN CHOICE, unsafe (log entry 76): every finding of
a bad entry, with the curtailment that follows it, comes before the first amount and the curtailed flag are snapshot
(R181). -/
def beginClose (n : Notice) (s : State) : State :=
  let s := checkShippers s
  let s := rollSlots { s with acct := { s.acct with closing := some (s.snapshot n) } }
  let s := reclampAll s
  tryAllocate (curtail none { s with acct := { s.acct with curtailed := false, provisional := true } })

/-- A boundary notice (R166). -/
def acctBoundary (n : Notice) (s : State) : State :=
  let s := openGroup n.num s
  match s.acct.closing with
  | none => beginClose n s
  | some _ => { s with acct := { s.acct with deferred := s.acct.deferred ++ [n] } }

/-- A change of L at a boundary (R158, R161). -/
def acctIntervalLength (s : State) : State := curtail none (reclampAll s)

/-- A new drying capacity (R158). -/
def acctDrying (cap : Nat) (s : State) : State := curtail none { s with acct := { s.acct with dryCap := cap } }

/-- A new compressor capacity of 0 at a field restart (R131, R183). -/
def acctCompressor (cap : Nat) (s : State) : State := curtail none { s with acct := { s.acct with compCap := cap } }

/-- A new value of the compression flag (R158). -/
def acctFlag (flag : Bool) (s : State) : State := curtail none { s with acct := { s.acct with flag := flag } }

/-! ### The completion of a close (R174, R177, R180) -/

/-- The close record (R176). -/
def closeRecord (num : Nat) (op : CloseOp) (r : AllocResult) : CloseRecord where
  num := num
  start := op.notice.start
  stop := op.notice.stop
  estimated := r.group.estimated
  timeStep := op.notice.stepFlag
  first := op.notice.firstFlag
  curtailed := op.curtailed
  mInj := r.group.mInj
  mWd := r.group.mWd
  tIn := r.group.tIn
  tOut := r.group.tOut
  fuel := r.group.fuel
  regen := r.group.regen
  obaDelta := r.obaDelta
  lines := r.lines
  pending := true

/-- A record joins the history of eight; an oldest record removed with its pending flag set latches CLOSE_OVERWRITTEN
(R177). -/
def joinHistory (r : CloseRecord) (s : State) : State :=
  match s.ret.history with
  | [] => { s with ret := { s.ret with history := [r] } }
  | oldest :: rest =>
    if s.ret.history.length < 8 then { s with ret := { s.ret with history := s.ret.history ++ [r] } }
    else
      occurIf oldest.pending Src.closeOverwritten noSubject { s with ret := { s.ret with history := rest ++ [r] } }

/-- The retained write of a completion and the joining of its record (R174). -/
def writeClose (op : CloseOp) (r : AllocResult) (s : State) : State :=
  let num := intervalAfter s.free s.ret.lastInterval
  joinHistory (closeRecord num op r)
    { s with
      ret := { s.ret with inventories := r.inventories, oba := r.oba, lastInterval := num }
      free := s.free + 1 }

/-- What becomes of a slot as a SHIPPERS image takes effect (R180). -/
def slotAfter (old new : ShipperCfg) (a : AccSlot) : AccSlot :=
  if old.code = new.code then a else { a with req := 0, conf := 0, next := none }

/-- A slot newly used begins with inventory 0; every other keeps what the retained store holds for it, an unused slot that
stays unused included (R180). -/
def inventoryAfter (old new : ShipperCfg) (v : Nat) : Nat := if old.code = 0 ∧ new.code ≠ 0 then 0 else v

/-- A SHIPPERS image takes effect (R180). -/
def shippersTakeEffect (img : StoredImage) (s : State) : State :=
  let old := s.tables.shippers
  let t := (s.putCommitted .shippers img).clearMarks .shippers
  let t := { t with
    tables := t.tables.load .shippers img.octets
    ret := { t.ret with pendShippers := none } }
  let t := { t with
    acct := { t.acct with
      slots := t.acct.slots.mapIdx fun i a => slotAfter (old.getD i .blank) (t.shipper i) a }
    ret := { t.ret with
      inventories := t.ret.inventories.mapIdx fun i v => inventoryAfter (old.getD i .blank) (t.shipper i) v } }
  occur Src.tableCommitted noSubject t

/-- A pending SHIPPERS image is applied if no slot it frees or recodes holds inventory (R180). -/
def applyShippers (s : State) : State :=
  match s.ret.pendShippers with
  | none => s
  | some img =>
    if (List.range 32).any (slotHeld s (decodeEntries .shippers decodeShipper img.octets)) then s
    else shippersTakeEffect img s

/-- The engine becomes IDLE, or begins the close of the oldest deferred boundary (R174, R166). -/
def nextClose (s : State) : State :=
  match s.acct.deferred with
  | [] => s
  | n :: rest => beginClose n { s with acct := { s.acct with deferred := rest } }

/-- The completion of a close, in the order of R174. -/
def completeClose (op : CloseOp) (r : AllocResult) (s : State) : State :=
  let s := writeClose op r { s with acct := { s.acct with closing := none } }
  let s := curtail none (reclampAll (applyShippers s))
  let s := occur Src.intervalClosed noSubject { s with acct := { s.acct with provisional := false } }
  let s := match r.capped with
    | some i => occur Src.allocationCapped i s
    | none => s
  nextClose s

/-- CLOSE_COMPLETE (R174): acts when the allocation of the close in flight has been taken. -/
def execCloseComplete (s : State) : Answer :=
  .next
    (match s.acct.closing with
      | none => s
      | some op =>
        match op.alloc with
        | none => s
        | some r => completeClose op r s)

/-! ### NOMINATE (R159) -/

def dirOf (n : Nat) : Option Dir := if n = 0 then some .inject else if n = 1 then some .withdraw else none

def Dir.code : Dir → Nat
  | .inject => 0
  | .withdraw => 1

/-- The interval position is at or past the renomination cutoff; a cutoff of 100 percent refuses none (R159). -/
def State.pastCutoff (s : State) : Bool :=
  match s.position with
  | none => false
  | some p => decide (s.stationRead.cutoff < 100) && decide (s.stationRead.cutoff * s.lMin * 600 ≤ p)

/-- OK, or CLAMPED when a clamp reduced the amount (R159). -/
def clampStatus (asked got : Nat) : Status := if got < asked then .clamped else .ok

/-- A CURRENT nomination that passed the checks before its cutoff (R159, R160). DESIGN CHOICE, unsafe (log entry 99): the
confirmed amount, which only this answer carries, has no presence octet. -/
def nominateCurrent (i : Nat) (d : Dir) (amount : Nat) (s : State) : Reply :=
  let s := checkStation s
  if s.pastCutoff then refuse .late s
  else
    let got := s.clampCurrent i d amount
    let t := curtail (some i) (s.onSlot i fun a => { a with dir := d, req := got })
    ⟨clampStatus amount got, be 5 got ++ be 5 (t.slot i).conf ++ beFlag t.acct.provisional, t⟩

/-- A NEXT nomination (R159, R160). DESIGN CHOICE, unsafe (log entry 99): its answer has no octet for the confirmed amount. -/
def nominateNext (i : Nat) (d : Dir) (amount : Nat) (s : State) : Reply :=
  let got := s.clampNext i d amount
  let t := s.onSlot i fun a => { a with next := some (d, got) }
  ⟨clampStatus amount got, be 5 got ++ beFlag t.acct.provisional, t⟩

/-- The checks of R159 in their order, with the parity check of R181. DESIGN CHOICE, unsafe (log entry 100): the entry is
checked in the row that names its check, so not at all where an earlier row refuses. -/
def nominate (args : List Octet) (s : State) : Reply :=
  let code := fieldAt args 0 2
  let period := fieldAt args 2 1
  let amount := fieldAt args 4 5
  match dirOf (fieldAt args 3 1) with
  | none => refuse .badArgument s
  | some d =>
    if code = 0 ∨ 1 < period then refuse .badArgument s
    else if s.time.unset then refuse .timeUnset s
    else
      match s.slotOf code with
      | none => refuse .unknownTarget s
      | some i =>
        let s := checkShipper i s
        if s.marked .shippers i then refuse .wrongState s
        else if period = 0 then nominateCurrent i d amount s
        else nominateNext i d amount s

/-- NOMINATE (R159). -/
def execNominate (s : State) : Answer := serve 0x38 nominate s

/-! ### TRANSFER (R179) -/

/-- The inventories after a transfer, in the retained store. -/
def moveInventory (source receiver amount : Nat) (s : State) : State :=
  { s with
    ret := { s.ret with
      inventories := (s.ret.inventories.modify source (· - amount)).modify receiver (· + amount) } }

/-- A transfer that passed its checks (R179); one of 0 changes nothing. -/
def carryTransfer (source receiver amount : Nat) (s : State) : State :=
  if amount = 0 then s
  else curtail none (reclamp receiver (reclamp source (moveInventory source receiver amount s)))

/-- The checks of R179 in their order, with the parity checks of R181. DESIGN CHOICE, unsafe (log entry 100): the entries are
checked once the rows before have passed, so none where the engine is CLOSING or one of the codes is unknown. -/
def transfer (args : List Octet) (s : State) : Reply :=
  let from_ := fieldAt args 0 2
  let to_ := fieldAt args 2 2
  let amount := fieldAt args 4 5
  if from_ = 0 ∨ to_ = 0 ∨ from_ = to_ then refuse .badArgument s
  else if s.acct.closing.isSome then refuse .closing s
  else
    match s.slotOf from_, s.slotOf to_ with
    | some i, some j =>
      let s := checkShipper j (checkShipper i s)
      if s.marked .shippers i || s.marked .shippers j then refuse .wrongState s
      else if s.inventory i < amount then refuse .insufficient s
      else if (s.shipper j).space < s.inventory j + amount then refuse .noSpace s
      else
        let t := carryTransfer i j amount s
        ⟨.ok, be 5 (t.inventory i) ++ be 5 (t.inventory j), t⟩
    | _, _ => refuse .unknownTarget s

/-- TRANSFER (R179). -/
def execTransfer (s : State) : Answer := serve 0x39 transfer s

/-! ### READ_SHIPPER (R182) -/

/-- A next nomination: presence, direction, amount. -/
def nextResult : Option (Dir × Nat) → List Octet
  | none => 0 :: be 6 0
  | some (d, amount) => 1 :: be 1 d.code ++ be 5 amount

/-- The number of pending close records. -/
def State.pendingCloses (s : State) : Nat := s.ret.history.countP (·.pending)

/-- IDLE 0, CLOSING 1. -/
def State.engineCode (s : State) : Nat := if s.acct.closing.isSome then 1 else 0

/-- The octets of READ_SHIPPER (R182, R202). DESIGN CHOICE, unsafe (log entry 99): the projected inventory has a presence octet
and its full size, also while IDLE. -/
def State.shipperResult (s : State) (i : Nat) : List Octet :=
  let a := s.slot i
  s.entryImage .shippers i ++ beFlag (s.marked .shippers i) ++ be 5 (s.inventory i) ++ be 1 a.dir.code ++ be 5 a.req ++
    be 5 a.conf ++ nextResult a.next ++ beOpt 5 (s.acct.closing.map fun op => op.projected.getD i 0) ++
    be 1 s.engineCode ++ beFlag s.acct.provisional ++ beInt 6 s.ret.oba ++ be 3 s.capInj ++ be 3 s.capWd ++
    be 6 (s.confirmedSum .inject) ++ be 6 (s.confirmedSum .withdraw) ++ be 4 s.ret.lastInterval ++
    be 1 s.pendingCloses ++ beFlag s.ret.pendShippers.isSome

def readShipper (args : List Octet) (s : State) : Reply :=
  let i := fieldAt args 0 1
  if 31 < i then refuse .badArgument s
  else
    let t := checkShipper i s
    ⟨.ok, t.shipperResult i, t⟩

/-- READ_SHIPPER (R182). -/
def execReadShipper (s : State) : Answer := serve 0x08 readShipper s

/-! ### READ_CLOSE (R178) -/

/-- A shipper line of 26 octets (R216). -/
def CloseLine.octets (l : CloseLine) : List Octet :=
  be 1 l.slot ++ be 5 l.inj ++ be 5 l.wd ++ be 5 l.fuel ++ be 5 l.drying ++ be 5 l.after

/-- The flags of a close head (R216). -/
def CloseRecord.flags (r : CloseRecord) : Nat :=
  bit r.estimated + 2 * bit r.timeStep + 4 * bit r.first + 8 * bit r.curtailed + 16 * bit r.pending

/-- The head of 60 octets (R216). -/
def CloseRecord.head (r : CloseRecord) : List Octet :=
  be 4 r.num ++ be 6 r.start ++ be 6 r.stop ++ be 1 r.flags ++ be 6 r.mInj ++ be 6 r.mWd ++ be 6 r.tIn ++ be 6 r.tOut ++
    be 6 r.fuel ++ be 6 r.regen ++ beInt 6 r.obaDelta ++ be 1 r.lines.length

/-- The head and up to eight lines from a first line (R178, R216). -/
def CloseRecord.result (r : CloseRecord) (first : Nat) : List Octet :=
  r.head ++ beList (((r.lines.drop first).take 8).map CloseLine.octets)

/-- The place in the history that a selector names (R178). -/
def State.selectClose (s : State) (oldestPending : Bool) (num : Nat) : Option Nat :=
  (List.range s.ret.history.length).find? fun i =>
    match s.ret.history[i]? with
    | none => false
    | some r => if oldestPending then r.pending else decide (r.num = num)

/-- The pending flag of a record is cleared in the retained store (R178). -/
def clearPending (i : Nat) (s : State) : State :=
  { s with ret := { s.ret with history := s.ret.history.modify i fun r => { r with pending := false } } }

def readClose (args : List Octet) (s : State) : Reply :=
  let kind := fieldAt args 0 1
  let first := fieldAt args 5 1
  if 1 < kind ∨ 31 < first then refuse .badArgument s
  else
    match s.selectClose (decide (kind = 1)) (fieldAt args 1 4) with
    | none => refuse .unknownTarget s
    | some i =>
      match s.ret.history[i]? with
      | none => refuse .unknownTarget s
      | some r =>
        if r.lines.length < first ∨ (first = r.lines.length ∧ 0 < r.lines.length) then refuse .badArgument s
        else ⟨.ok, r.result first, if first = 0 then clearPending i s else s⟩

/-- READ_CLOSE (R178). -/
def execReadClose (s : State) : Answer := serve 0x09 readClose s

end Sys2Proof.Machine
end

