-- ==== Sys2Proof/Machine/Drying.lean ====
section
/-!
DEFINITION. The Drying Controller (spec/07): train state and capacity, water loading, triggers and switches, valve-set
reports, regeneration, its requests, its commit and its resets.
-/

namespace Sys2Proof.Machine

/-! ### Trains and beds (R132, R134) -/

def State.trainInUse (s : State) (i : Nat) : Bool := (s.dryerCfg i).inUse

/-- The train in use whose valve-set unit is directory entry `e` (R136). -/
def State.trainOf (s : State) (e : Nat) : Option Nat :=
  (List.range 2).find? fun i => s.trainInUse i && decide ((s.dryerCfg i).unit = e)

/-- The ADSORBING bed (R134: at most one). -/
def Train.adsorbing (t : Train) : Option BedId := allBeds.find? fun bd => decide ((t.bed bd).state = .adsorbing)

/-- The STANDBY bed of lowest letter (R140). -/
def Train.standby (t : Train) : Option BedId := allBeds.find? fun bd => decide ((t.bed bd).state = .standby)

/-- A bed is usable when it is neither UNSYNCED nor OUT_OF_SERVICE (R134). -/
def Bed.usable (bd : Bed) : Bool := decide (bd.state ≠ .unsynced) && decide (bd.state ≠ .outOfService)

/-- A switch is pending (R134). -/
def Train.switchPending (t : Train) : Bool := t.request && t.switch.isNone

/-- The switch in flight is in its OPENING phase. -/
def Train.opening (t : Train) : Bool :=
  match t.switch with
  | some op => decide (op.phase = .opening)
  | none => false

def DryerCfg.switchThreshold (c : DryerCfg) : Nat := c.bedCapacity * 10 * c.switchPercent

def DryerCfg.overloadLimit (c : DryerCfg) : Nat := c.bedCapacity * 1000

/-- The loading of the ADSORBING bed, 0 without one. -/
def Train.adsorbingLoading (t : Train) : Nat :=
  match t.adsorbing with
  | some bd => (t.bed bd).loading
  | none => 0

/-! ### Train state and drying capacity (R151) -/

def State.trainStateNow (s : State) (i : Nat) : TrainState :=
  let t := s.train i
  if !s.trainInUse i || !s.present (s.dryerCfg i).unit || s.marked .dryers i || !allBeds.any fun bd => (t.bed bd).usable then
    .outOfService
  else if t.switchPending || decide ((s.dryerCfg i).overloadLimit < t.adsorbingLoading) then .degraded
  else .inService

/-- The capacity a train publishes in a state (R151). -/
def DryerCfg.publishedIn (c : DryerCfg) : TrainState → Nat
  | .outOfService => 0
  | .degraded => c.capacity * (100 - c.derate) / 100
  | .inService => c.capacity

/-- The drying capacity: the sum over both trains (R151). -/
def State.dryingSum (s : State) : Nat := (s.dry.trains.map (·.published)).sum

/-- A changed drying capacity is told to the Account Engine (R151). -/
def tellDrying (s : State) : State :=
  if s.dryingSum = s.dry.total then s
  else acctDrying s.dryingSum { s with dry := { s.dry with total := s.dryingSum } }

/-- The evaluation of a train's state (R151). -/
def evalTrain (i : Nat) (s : State) : State :=
  let now := s.trainStateNow i
  let was := (s.train i).state
  let t := s.onTrain i fun t => { t with state := now, published := (s.dryerCfg i).publishedIn now }
  tellDrying (occurIf (decide (now = .degraded) && decide (was ≠ .degraded)) Src.trainDegraded i t)

/-! ### Starting and ending switches (R139 to R142) -/

/-- The start test (R140). -/
def startTest (i : Nat) (s : State) : State :=
  let t := s.train i
  let c := s.dryerCfg i
  match t.standby with
  | none => s
  | some bd =>
    if t.request && t.switch.isNone && !t.held && t.synced && !s.marked .dryers i && s.accepts c.unit then
      (offerOwn c.unit (.openBed bd) s).onTrain i fun t =>
        { t with
          request := false
          switch := some ⟨.opening, bd, t.adsorbing, s.now + c.valveConfirm * Config.second⟩ }
    else s

/-- The switch request is raised and the start test is taken (R139, R140). -/
def raiseRequest (i : Nat) (s : State) : State := startTest i (s.onTrain i fun t => { t with request := true })

/-- The station mode as the controller holds it is WITHDRAW (R139). -/
def State.withdrawing (s : State) : Bool := decide (s.dry.heldMode = .withdraw)

/-- A trigger that concerns the ADSORBING bed: not taken outside WITHDRAW, without such a bed, or in OPENING (R139). -/
def bedTrigger (i : Nat) (s : State) : State :=
  if s.withdrawing && (s.train i).adsorbing.isSome && !(s.train i).opening then raiseRequest i s else s

/-- The loading trigger (R139). -/
def loadingTrigger (i : Nat) (s : State) : State :=
  if (s.dryerCfg i).switchThreshold ≤ (s.train i).adsorbingLoading then bedTrigger i s else s

/-- The no-bed trigger (R139). -/
def noBedTrigger (i : Nat) (s : State) : State :=
  let t := s.train i
  if s.withdrawing && t.synced && !s.marked .dryers i && t.adsorbing.isNone && t.switch.isNone then raiseRequest i s else s

/-- The end of every switch (R142). -/
def endSwitch (i : Nat) (s : State) : State :=
  startTest i (noBedTrigger i (s.onTrain i fun t => { t with switch := none }))

/-- A bed goes OUT_OF_SERVICE and BED_OUT is latched. -/
def bedOut (i : Nat) (bd : BedId) (s : State) : State :=
  occur Src.bedOut i (s.onTrain i fun t => t.onBed bd fun x => { x with state := .outOfService })

/-- A bed becomes ADSORBING with its adsorb timer at zero (R139, R141). -/
def Bed.beginAdsorbing (x : Bed) : Bed := { x with state := .adsorbing, adsorbMs := 0, adsorbDone := false }

/-- A bed enters HEATING with its heat timer at zero (R142, R149). -/
def Bed.beginHeating (x : Bed) : Bed := { x with state := .heating, heatMs := 0, heatDone := false }

/-- The end of heating, complete or short (R146). -/
def Bed.beginCooling (x : Bed) : Bed := { x with state := .cooling, loading := 0, coolMs := 0 }

/-- The opening is confirmed (R141). -/
def confirmOpening (i : Nat) (op : SwitchOp) (s : State) : State :=
  let c := s.dryerCfg i
  let s := s.onTrain i fun t => t.onBed op.incoming Bed.beginAdsorbing
  match op.outgoing with
  | none => endSwitch i (occur Src.bedSwitched i s)
  | some out =>
    (offerOwn c.unit (.closeBed out) s).onTrain i fun t =>
      { t.onBed out (fun x => { x with state := .releasing }) with
        switch := some { op with phase := .releasing, valve := s.now + c.valveConfirm * Config.second } }

/-- The opening has failed (R141); VALVE_TIMEOUT is latched only when its valve timer expired (R143). -/
def failOpening (timeout : Bool) (i : Nat) (op : SwitchOp) (s : State) : State :=
  let s := occurIf timeout Src.valveTimeout i (withdrawOwn (s.dryerCfg i).unit isOpenBed s)
  let s := bedOut i op.incoming s
  endSwitch i (s.onTrain i fun t => { t with switch := none, request := true })

/-- The release is confirmed (R142). -/
def confirmRelease (i : Nat) (out : BedId) (s : State) : State :=
  endSwitch i (occur Src.bedSwitched i (s.onTrain i fun t => t.onBed out Bed.beginHeating))

/-- The release has failed (R142); a FAULT latches BED_OUT in place of VALVE_TIMEOUT (R143). -/
def failRelease (timeout : Bool) (i : Nat) (out : BedId) (s : State) : State :=
  let s := withdrawOwn (s.dryerCfg i).unit isCloseBed s
  let s := s.onTrain i fun t => t.onBed out fun x => { x with state := .outOfService }
  endSwitch i (occur (if timeout then Src.valveTimeout else Src.bedOut) i s)

/-! ### Parity (R153) -/

/-- Every bed UNSYNCED with its loading kept, no switch, no request, unsynchronised (R152, R153). -/
def Train.unsync (t : Train) : Train :=
  let off (x : Bed) : Bed := { x with state := .unsynced }
  { t with
    synced := false
    request := false
    switch := none
    bedA := off t.bedA
    bedB := off t.bedB
    bedC := off t.bedC }

/-- A use of the train's entry checks it (R153); a train not in use has no valve set. -/
def useTrain (i : Nat) (s : State) : State :=
  if s.foundBad .dryers i then
    if s.trainInUse i then
      evalTrain i ((withdrawAll (s.dryerCfg i).unit (markEntry .dryers i i s)).onTrain i Train.unsync)
    else markEntry .dryers i i s
  else s

/-! ### Valve-set reports (R136, R137, R143) -/

/-- The state a bed takes at synchronisation (R136); `open_` when an earlier bed was reported OPEN. DESIGN CHOICE, unsafe (log
entry 73): a bed that becomes OUT_OF_SERVICE keeps the loading it had. -/
def syncBed (resume : Nat) (open_ : Bool) (p : Position) (x : Bed) : Bed :=
  match p with
  | .closed => { x with state := .standby, loading := 0 }
  | .opened => if open_ then { x with state := .outOfService } else { x.beginAdsorbing with loading := resume }
  | .fault => { x with state := .outOfService }
  | .moving => x

/-- The triggers that 7.4 names for entry to WITHDRAW (R136, R139). -/
def entryTriggers (i : Nat) (s : State) : State := noBedTrigger i (loadingTrigger i s)

/-- Synchronisation (R136). -/
def synchronise (i : Nat) (p : BedId → Position) (s : State) : State :=
  let resume := (s.dryerCfg i).resume
  let openA := decide (p .a = .opened)
  let openB := openA || decide (p .b = .opened)
  let out (earlier : Bool) (bd : BedId) : Bool := decide (p bd = .fault) || (earlier && decide (p bd = .opened))
  let s := s.onTrain i fun t =>
    { t with
      synced := true
      request := false
      switch := none
      bedA := syncBed resume false (p .a) t.bedA
      bedB := syncBed resume openA (p .b) t.bedB
      bedC := syncBed resume openB (p .c) t.bedC }
  let s := occurIf (out openB .c) Src.bedOut i (occurIf (out openA .b) Src.bedOut i (occurIf (out false .a) Src.bedOut i s))
  let s := evalTrain i s
  if s.withdrawing then evalTrain i (entryTriggers i s) else s

/-- A FAULT for a bed that no switch in flight involves (R137). -/
def faultPlain (i : Nat) (bd : BedId) (s : State) : State :=
  match ((s.train i).bed bd).state with
  | .standby => bedOut i bd s
  | .adsorbing => noBedTrigger i (bedOut i bd s)
  | .heating => bedOut i bd s
  | .cooling => bedOut i bd s
  | .releasing => s
  | .unsynced => s
  | .outOfService => s

/-- A FAULT for a bed of a synchronised train (R137, R143). DESIGN CHOICE, unsafe (log entry 98): in RELEASING every FAULT
report for the incoming bed latches BED_OUT, also when an earlier one has put the bed OUT_OF_SERVICE. -/
def faultAt (i : Nat) (bd : BedId) (s : State) : State :=
  match (s.train i).switch with
  | none => faultPlain i bd s
  | some op =>
    if op.incoming = bd then
      match op.phase with
      | .opening => failOpening false i op s
      | .releasing => bedOut i bd s
    else if op.outgoing = some bd then
      match op.phase with
      | .opening => (bedOut i bd s).onTrain i fun t => { t with switch := some { op with outgoing := none } }
      | .releasing => failRelease false i bd s
    else faultPlain i bd s

/-- A position of a bed in a synchronised train, with the switch as it stood when the report was taken: one report
confirms at most one phase (R137, R141 to R143, log entry 15). -/
def actPosition (i : Nat) (before : Option SwitchOp) (bd : BedId) (p : Position) (s : State) : State :=
  match p with
  | .moving => s
  | .fault => evalTrain i (faultAt i bd s)
  | .opened =>
    match before, (s.train i).switch with
    | some old, some op =>
      if old.phase = .opening ∧ op.phase = .opening ∧ op.incoming = bd ∧ old.incoming = bd then
        evalTrain i (confirmOpening i op s)
      else s
    | _, _ => s
  | .closed =>
    match before, (s.train i).switch with
    | some old, some op =>
      if old.phase = .releasing ∧ op.phase = .releasing ∧ op.outgoing = some bd ∧ old.outgoing = some bd then
        evalTrain i (confirmRelease i bd s)
      else s
    | _, _ => s

/-- The positions of a report are recorded (R136). -/
def recordPositions (i : Nat) (p : BedId → Position) (s : State) : State :=
  s.onTrain i fun t =>
    { t with
      bedA := { t.bedA with report := some (p .a) }
      bedB := { t.bedB with report := some (p .b) }
      bedC := { t.bedC with report := some (p .c) } }

/-- A report matched to a train (R136, R137, R153). -/
def trainReport (i : Nat) (p : BedId → Position) (s : State) : State :=
  let s := recordPositions i p (useTrain i s)
  if s.marked .dryers i then s
  else if (s.train i).synced then
    let before := (s.train i).switch
    actPosition i before .c (p .c) (actPosition i before .b (p .b) (actPosition i before .a (p .a) s))
  else if allBeds.any fun bd => decide (p bd = .moving) then s
  else synchronise i p s

/-- The three positions of a report payload (R214). -/
def positionsOf (a bd c : Octet) : BedId → Position
  | .a => positionOf a
  | .b => positionOf bd
  | .c => positionOf c

/-- A STATE payload from directory entry `e` of class DRYER_VALVES (R136, R214). -/
def dryerReport (e : Nat) (payload : List Octet) (s : State) : State :=
  match payload, s.trainOf e with
  | a :: bd :: c :: _, some i => trainReport i (positionsOf a bd c) s
  | _, _ => s

/-! ### Notices -/

/-- A water content limited to 0 … 10,000 (R138). -/
def waterOf (v : Int) : Nat := (clampInt 0 10000 v).toNat

/-- The mg of a notice are added to the ADSORBING bed (R138). -/
def addWater (mg : Nat) (t : Train) : Train :=
  match t.adsorbing with
  | some bd => t.onBed bd fun x => { x with loading := min Config.max64 (x.loading + mg) }
  | none => t

/-- A notice of a standard volume to one train, which reads both water channels (R138, R37). -/
def trainVolume (i vb : Nat) (s : State) : State :=
  let s := useTrain i s
  if s.marked .dryers i then s
  else
    let c := s.dryerCfg i
    let s := useChannels [c.inlet, c.outlet] s
    let win := waterOf ((s.trusted c.inlet).getD c.defaultInlet)
    let wout := waterOf ((s.trusted c.outlet).getD 0)
    let x := vb * (win - wout) + (s.train i).residue
    let s := s.onTrain i fun t => { addWater (x / 1000000) t with residue := x % 1000000 }
    evalTrain i (loadingTrigger i s)

/-- A notice of a standard volume of a run goes to each train that the run feeds (R77, R138). DESIGN CHOICE, unsafe (log entry
92): train 0 takes it before train 1. -/
def dryVolume (run vb : Nat) (s : State) : State :=
  (List.range 2).foldl
    (fun s i => if s.trainInUse i && decide ((s.dryerCfg i).run = run) then trainVolume i vb s else s) s

/-- The breakthrough comparator's output changed to true: latched whether or not it acts as a trigger, as it does in no
train with a parity mark (R139, R153). -/
def breakthrough (i : Nat) (s : State) : State :=
  let s := occur Src.breakthrough i (useTrain i s)
  if s.marked .dryers i then s else evalTrain i (bedTrigger i s)

/-- The bed is HEATING and its heat timer has reached the heat time (R146). -/
def State.heated (s : State) (i : Nat) (bd : BedId) : Bool :=
  decide (((s.train i).bed bd).state = .heating) &&
    decide ((s.dryerCfg i).heat * Config.second ≤ ((s.train i).bed bd).heatMs)

/-- The regen comparator's output is true and its channel's quality GOOD or SUSPECT, or the train has no such channel
(R146). -/
def State.regenReached (s : State) (c : DryerCfg) : Bool :=
  match c.regenCh with
  | none => true
  | some ch =>
    (match c.regenCmp with
      | some .a => (s.chan ch).cmpA
      | some .b => (s.chan ch).cmpB
      | none => false) &&
      match (s.readChannel ch).1 with
      | .good => true
      | .suspect => true
      | .bad => false
      | .stale => false

/-- A test of completion of a heated bed, which reads the regen channel (R146, R37). -/
def testHeating (i : Nat) (bd : BedId) (s : State) : State :=
  if s.heated i bd then
    let s := useChannels (s.dryerCfg i).regenCh.toList s
    if s.regenReached (s.dryerCfg i) then s.onTrain i fun t => t.onBed bd Bed.beginCooling else s
  else s

def testAllHeating (i : Nat) (s : State) : State := allBeds.foldl (fun s bd => testHeating i bd s) s

/-- The regen comparator changed (R146); not acted on while HELD. -/
def regenChanged (i : Nat) (s : State) : State :=
  let s := useTrain i s
  if s.marked .dryers i || (s.train i).held then s else evalTrain i (testAllHeating i s)

/-- A comparator change of a channel as one train takes it (R57, R139, R146). -/
def trainComparator (i ch : Nat) (which : CmpId) (output : Bool) (s : State) : State :=
  let c := s.dryerCfg i
  if s.trainInUse i then
    let s := if decide (c.outlet = ch) && decide (c.breakCmp = which) && output then breakthrough i s
      else if decide (c.outlet = ch) && decide (c.breakCmp = which) then useTrain i s
      else s
    if decide (c.regenCh = some ch) && decide (c.regenCmp = some which) then regenChanged i s else s
  else s

/-- A notice of a comparator change (R57). DESIGN CHOICE, unsafe (log entry 91): train 0 takes it before train 1. -/
def dryComparator (ch : Nat) (which : CmpId) (output : Bool) (s : State) : State :=
  trainComparator 1 ch which output (trainComparator 0 ch which output s)

/-- A notice of the station mode (R90, R139). DESIGN CHOICE, unsafe (log entry 91): train 0 takes it before train 1. -/
def dryMode (m : Mode) (s : State) : State :=
  let entering := decide (m = .withdraw) && decide (s.dry.heldMode ≠ .withdraw)
  let s := { s with dry := { s.dry with heldMode := m } }
  if entering then
    (List.range 2).foldl
      (fun s i =>
        if s.trainInUse i && (s.train i).synced && !s.marked .dryers i then evalTrain i (entryTriggers i s) else s) s
  else s

/-- The valve set's entry has left PRESENT (R152). -/
def dryDeparted (e : Nat) (s : State) : State :=
  match s.trainOf e with
  | none => s
  | some i =>
    evalTrain i
      (occurIf (s.train i).switch.isSome Src.operationLost i (s.onTrain i Train.unsync))

/-- The withdrawal precondition of R91: every train IN_SERVICE or DEGRADED has a bed ADSORBING or in STANDBY. -/
def State.withdrawalPrecondition (s : State) : Bool :=
  (List.range 2).all fun i =>
    decide ((s.train i).state = .outOfService) || (s.train i).adsorbing.isSome || (s.train i).standby.isSome

/-! ### Supervisor commands (R150, R153) -/

/-- The verdict on a supervisor COMMAND to directory entry `e` of class DRYER_VALVES (R150, R214). -/
def dryerCommand (e : Nat) (payload : List Octet) (s : State) : State × Verdict :=
  match s.trainOf e with
  | none => (s, .pass)
  | some i =>
    let s := useTrain i s
    match payload with
    | [] => (s, .pass)
    | a :: _ => (s, if decide (1 ≤ a.toNat) && decide (a.toNat ≤ 6) then .refuse else .pass)

/-! ### Timers (R139, R141, R142, R146, R147) -/

/-- The adsorb timer of the train's ADSORBING bed has reached the adsorb maximum time and has not expired yet. -/
def State.adsorbDue (s : State) (i : Nat) : Bool :=
  match (s.train i).adsorbing with
  | none => false
  | some bd =>
    !(s.train i).held && !((s.train i).bed bd).adsorbDone &&
      decide ((s.dryerCfg i).adsorbMax * Config.second ≤ ((s.train i).bed bd).adsorbMs)

/-- The adsorb limit is reached (R139). -/
def adsorbLimit (i : Nat) (s : State) : State :=
  match (s.train i).adsorbing with
  | none => s
  | some bd => evalTrain i (bedTrigger i (s.onTrain i fun t => t.onBed bd fun x => { x with adsorbDone := true }))

/-- ADSORB_LIMIT_EXPIRY (R139). -/
def execAdsorbLimitExpiry (i : Nat) (s : State) : Answer :=
  if 2 ≤ i then .refused .noSuchTarget else .next (if s.adsorbDue i then adsorbLimit i s else s)

/-- The valve timer of a switch in the given phase has expired. -/
def State.valveDue (s : State) (i : Nat) (phase : SwitchPhase) : Option SwitchOp :=
  (s.train i).switch.filter fun op => decide (op.phase = phase) && decide (op.valve ≤ s.now)

/-- OPENING_VALVE_TIMEOUT (R141). -/
def execOpeningValveTimeout (i : Nat) (s : State) : Answer :=
  if 2 ≤ i then .refused .noSuchTarget
  else
    match s.valveDue i .opening with
    | none => .next s
    | some op => .next (evalTrain i (failOpening true i op s))

/-- RELEASING_VALVE_TIMEOUT (R142). -/
def execReleasingValveTimeout (i : Nat) (s : State) : Answer :=
  if 2 ≤ i then .refused .noSuchTarget
  else
    match (s.valveDue i .releasing).bind SwitchOp.outgoing with
    | none => .next s
    | some out => .next (evalTrain i (failRelease true i out s))

/-- A HEATING bed's heat timer has reached the heat time, untaken so far. -/
def State.heatDue (s : State) (i : Nat) (bd : BedId) : Bool :=
  let x := (s.train i).bed bd
  !(s.train i).held && decide (x.state = .heating) && !x.heatDone &&
    decide ((s.dryerCfg i).heat * Config.second ≤ x.heatMs)

/-- The heat timer reaches the heat time: completion is tested (R146). -/
def heatReached (i : Nat) (bd : BedId) (s : State) : State :=
  evalTrain i (testHeating i bd (s.onTrain i fun t => t.onBed bd fun x => { x with heatDone := true }))

/-- HEAT_TIME_REACHED (R146). -/
def execHeatTimeReached (i : Nat) (bd : BedId) (s : State) : Answer :=
  if 2 ≤ i then .refused .noSuchTarget else .next (if s.heatDue i bd then heatReached i bd s else s)

/-- A HEATING bed's heat timer has reached the heat maximum time without completion at the heat time. -/
def State.heatShortDue (s : State) (i : Nat) (bd : BedId) : Bool :=
  let x := (s.train i).bed bd
  !(s.train i).held && decide (x.state = .heating) && x.heatDone &&
    decide ((s.dryerCfg i).heatMax * Config.second ≤ x.heatMs)

/-- Heating ends short (R146). -/
def heatShort (i : Nat) (bd : BedId) (s : State) : State :=
  evalTrain i ((occur Src.heatShort i s).onTrain i fun t => t.onBed bd Bed.beginCooling)

/-- HEAT_SHORT (R146). -/
def execHeatShort (i : Nat) (bd : BedId) (s : State) : Answer :=
  if 2 ≤ i then .refused .noSuchTarget else .next (if s.heatShortDue i bd then heatShort i bd s else s)

/-- A COOLING bed's cool timer has reached the cool time. -/
def State.coolDue (s : State) (i : Nat) (bd : BedId) : Bool :=
  let x := (s.train i).bed bd
  !(s.train i).held && decide (x.state = .cooling) && decide ((s.dryerCfg i).cool * Config.second ≤ x.coolMs)

/-- A cooled bed enters STANDBY (R147). -/
def cooled (i : Nat) (bd : BedId) (s : State) : State :=
  evalTrain i
    (startTest i (s.onTrain i fun t => t.onBed bd fun x => { x with state := .standby, loading := 0 }))

/-- COOL_TIMER_EXPIRY (R147). -/
def execCoolTimerExpiry (i : Nat) (bd : BedId) (s : State) : Answer :=
  if 2 ≤ i then .refused .noSuchTarget else .next (if s.coolDue i bd then cooled i bd s else s)

/-! ### Requests (R145, R148, R149, R154) -/

def TrainState.code : TrainState → Nat
  | .inService => 0
  | .degraded => 1
  | .outOfService => 2

def BedState.code : BedState → Nat
  | .unsynced => 0
  | .standby => 1
  | .adsorbing => 2
  | .releasing => 3
  | .heating => 4
  | .cooling => 5
  | .outOfService => 6

/-- Codes of positions as valve-set reports number them (R214). -/
def Position.code : Position → Nat
  | .closed => 0
  | .opened => 1
  | .moving => 2
  | .fault => 3

def SwitchPhase.code : SwitchPhase → Nat
  | .opening => 0
  | .releasing => 1

/-- What a request naming a train begins with: the index, then the entry check that every request naming the train makes,
then in use and the parity mark (R145, R148, R149, R153). -/
def withTrain (i : Nat) (s : State) (f : State → Reply) : Reply :=
  if 1 < i then refuse .badArgument s
  else
    let s := useTrain i s
    if !s.trainInUse i then refuse .unknownTarget s
    else if s.marked .dryers i then refuse .wrongState s
    else f s

/-- The train state and HELD (R148). -/
def State.holdResult (s : State) (i : Nat) : List Octet := be 1 (s.train i).state.code ++ beFlag (s.train i).held

def holdTrain (args : List Octet) (s : State) : Reply :=
  let i := fieldAt args 0 1
  withTrain i s fun s =>
    let t := s.onTrain i fun t => { t with held := true }
    ⟨.ok, t.holdResult i, t⟩

/-- HOLD_TRAIN (R148). -/
def execHoldTrain (s : State) : Answer := serve 0x28 holdTrain s

def resumeTrain (args : List Octet) (s : State) : Reply :=
  let i := fieldAt args 0 1
  withTrain i s fun s =>
    let t := evalTrain i (startTest i (testAllHeating i (s.onTrain i fun t => { t with held := false })))
    ⟨.ok, t.holdResult i, t⟩

/-- RESUME_TRAIN (R148). -/
def execResumeTrain (s : State) : Answer := serve 0x29 resumeTrain s

def forceSwitch (args : List Octet) (s : State) : Reply :=
  let i := fieldAt args 0 1
  withTrain i s fun s =>
    if !s.withdrawing || decide ((s.train i).state = .outOfService) || (s.train i).switch.isSome then
      refuse .wrongState s
    else
      let t := evalTrain i (raiseRequest i s)
      ⟨.ok, be 1 (t.train i).state.code ++ be 1 (if (t.train i).switch.isSome then 0 else 1), t⟩

/-- FORCE_SWITCH (R145). -/
def execForceSwitch (s : State) : Answer := serve 0x2A forceSwitch s

/-- The switch in flight names the bed as incoming or outgoing (R149). -/
def Train.switchNames (t : Train) (bd : BedId) : Bool :=
  match t.switch with
  | none => false
  | some op => decide (op.incoming = bd) || decide (op.outgoing = some bd)

def returnBed (args : List Octet) (s : State) : Reply :=
  let i := fieldAt args 0 1
  match bedOf (args.getD 1 0) with
  | none => refuse .badArgument s
  | some bd =>
    withTrain i s fun s =>
      let t := s.train i
      if !t.synced || decide ((t.bed bd).state ≠ .outOfService) || decide ((t.bed bd).report ≠ some .closed) ||
          t.switchNames bd then refuse .wrongState s
      else
        let u := evalTrain i (s.onTrain i fun t => t.onBed bd Bed.beginHeating)
        ⟨.ok, be 1 ((u.train i).bed bd).state.code, u⟩

/-- RETURN_BED (R149). -/
def execReturnBed (s : State) : Answer := serve 0x2B returnBed s

/-- The elapsed time on the timer that the bed's state has (R154). -/
def Bed.elapsed (x : Bed) : Option Nat :=
  match x.state with
  | .adsorbing => some x.adsorbMs
  | .heating => some x.heatMs
  | .cooling => some x.coolMs
  | .unsynced => none
  | .standby => none
  | .releasing => none
  | .outOfService => none

def switchResult (now : Nat) : Option SwitchOp → List Octet
  | none => 0 :: be 8 0
  | some op =>
    1 :: be 1 op.phase.code ++ be 1 (bedCode op.incoming) ++ beOpt 1 (op.outgoing.map bedCode) ++ be 4 (op.valve - now)

def Bed.result (used : Bool) (x : Bed) : List Octet :=
  be 1 (if used then x.state else .unsynced).code ++ be 8 x.loading ++ beOpt 1 (x.report.map Position.code) ++
    beOpt 4 (if used then x.elapsed else none)

/-- What READ_DRYER answers (R154). DESIGN CHOICE, unsafe (log entry 75): the valve timer's remaining time and the beds'
elapsed times are in ms, and the in-use flag is an octet of its own behind the entry, which holds it too. -/
def State.dryerResult (s : State) (i : Nat) : List Octet :=
  let t := s.train i
  let used := s.trainInUse i
  s.entryImage .dryers i ++ beFlag (s.dryerCfg i).inUse ++ beFlag (s.marked .dryers i) ++
    be 1 (if used then t.state else .outOfService).code ++ beFlag t.synced ++ beFlag t.held ++ beFlag t.request ++ be 3 t.residue ++ be 3 t.published ++
    switchResult s.now t.switch ++ t.bedA.result used ++ t.bedB.result used ++ t.bedC.result used ++ be 3 s.dry.total

def readDryer (args : List Octet) (s : State) : Reply :=
  let i := fieldAt args 0 1
  if 1 < i then refuse .badArgument s
  else
    let t := useTrain i s
    ⟨.ok, t.dryerResult i, t⟩

/-- READ_DRYER (R154). -/
def execReadDryer (s : State) : Answer := serve 0x07 readDryer s

/-! ### Commit and resets (R135, R155) -/

/-- The train keeps its live part (R135). -/
def keepsTrain (old new : DryerCfg) : Bool :=
  old.inUse && new.inUse && decide (old.unit = new.unit) && decide (old.run = new.run)

/-- The bed's heat time is measured against the new heat time (R135). -/
def Bed.remeasure (c : DryerCfg) (x : Bed) : Bed :=
  { x with heatDone := x.heatDone && decide (c.heat * Config.second ≤ x.heatMs) }

/-- A train after a DRYERS image took effect (R135). -/
def trainAfter (old new : DryerCfg) (wasMarked : Bool) (t : Train) : Train :=
  if keepsTrain old new then
    let t := if wasMarked then t.unsync else t
    { t with bedA := t.bedA.remeasure new, bedB := t.bedB.remeasure new, bedC := t.bedC.remeasure new }
  else { Train.initial with published := t.published, state := t.state }

/-- The expiries that new times have already passed are taken at once (R135). DESIGN CHOICE, unsafe (log entry 74): also that of
an adsorb timer which stands still because the mode is not WITHDRAW; it raises no trigger and does not expire again.
DESIGN CHOICE, unsafe (log entry 84): several expiries passed by one commit are taken train 0 before 1 and, in a train, adsorb
limit, heat times, short heats, coolings, each by bed A, B, C. -/
def passedExpiries (i : Nat) (s : State) : State :=
  let s := if s.adsorbDue i then adsorbLimit i s else s
  let s := allBeds.foldl (fun s bd => if s.heatDue i bd then heatReached i bd s else s) s
  let s := allBeds.foldl (fun s bd => if s.heatShortDue i bd then heatShort i bd s else s) s
  allBeds.foldl (fun s bd => if s.coolDue i bd then cooled i bd s else s) s

/-- A DRYERS image has taken the place of table `old`; `wasMarked` are the marks it removed (R135). DESIGN CHOICE, unsafe (log
entry 93): train 0 is evaluated before train 1, and each evaluation tells the Account Engine the sum that then stands. -/
def dryersTakeEffect (old : List DryerCfg) (wasMarked : Nat → Bool) (s : State) : State :=
  let s := occur Src.tableCommitted noSubject s
  let s := (List.range 2).foldl
    (fun s i =>
      if (old.getD i .blank).inUse && !keepsTrain (old.getD i .blank) (s.dryerCfg i) then
        withdrawAll (old.getD i .blank).unit s
      else s) s
  let s := { s with
    dry := { s.dry with
      trains := s.dry.trains.mapIdx fun i t => trainAfter (old.getD i .blank) (s.dryerCfg i) (wasMarked i) t } }
  let s := passedExpiries 1 (passedExpiries 0 s)
  evalTrain 1 (evalTrain 0 s)

/-- The controller after either reset (R155); the notice of capacity 0 at a field restart is the account engine's. -/
def dryReset (s : State) : State :=
  { s with dry := ⟨List.replicate 2 .initial, .shutIn, 0⟩ }

end Sys2Proof.Machine
end

