-- ==== Sys2Proof/Machine/Station.lean ====
section
/-!
DEFINITION. The station mode machine, the ESD state, the station valve set and the withdrawal-compression flag
(spec/05 R90 to R99).
-/

namespace Sys2Proof.Machine

/-! ### The station valve set -/

/-- The directory entry of class STATION_VALVES (R20: at most one). -/
def State.stationEntry (s : State) : Option Nat :=
  (List.range 48).find? fun i => s.unitInUse i && decide ((s.unitCfg i).cls = .stationValves)

/-- The station valve set is PRESENT. -/
def State.stationPresent (s : State) : Bool :=
  match s.stationEntry with
  | some e => s.present e
  | none => false

/-- LINEUP is offered for the station valve set as an action command (R92, R94). -/
def offerLineup (l : LineupArg) (s : State) : State :=
  match s.stationEntry with
  | some e => offerOwn e (.lineup l) s
  | none => s

/-- An unsent LINEUP for the valve set is withdrawn (R96). -/
def withdrawLineup (s : State) : State :=
  match s.stationEntry with
  | some e => withdrawOwn e isLineup s
  | none => s

/-! ### Changes of mode (R90, R92 to R94) -/

/-- The two blocks are told of the mode once it is in force (R90). -/
def tellMode (m : Mode) (s : State) : State :=
  dryMode m (dutyMode m { s with mode := { s.mode with mode := m } })

/-- The lineup, rundown and quiet dwell timers stop. -/
def stopModeTimers (s : State) : State :=
  { s with mode := { s.mode with tLineup := none, tRundown := none, tQuiet := none } }

/-- An entry to SHUT_IN that latches `source` (R94). -/
def enterShutIn (source : Nat) (s : State) : State :=
  occur source noSubject (tellMode .shutIn (offerLineup .shut (stopModeTimers s)))

/-- A transition fails (R92, R93, R97). -/
def failTransition (s : State) : State := enterShutIn Src.transitionFailed s

/-- A flow mode is entered (R92). -/
def enterFlow (d : Dir) (s : State) : State :=
  occur Src.modeChanged noSubject
    (tellMode (match d with
      | .inject => .inject
      | .withdraw => .withdraw) (stopModeTimers s))

/-- The lineup of a direction. -/
def Dir.lineup : Dir → LineupArg
  | .inject => .inject
  | .withdraw => .withdraw

/-- Entry to the LINEUP phase (R92). -/
def enterLineup (d : Dir) (s : State) : State :=
  let s := checkStation (stopModeTimers s)
  if s.stationPresent then
    tellMode (.transition d .lineup)
      (offerLineup d.lineup
        { s with mode := { s.mode with tLineup := startTimer s.now (s.stationRead.lineup * Config.second) } })
  else failTransition s

/-! ### The rundown (R93) -/

/-- The station flow: the sum of |q| over the STATION runs' last trigger records, none when one has no record. -/
def stationFlow : List RunState → Option Nat
  | [] => some 0
  | r :: rest =>
    if r.role = .station then
      match r.last, stationFlow rest with
      | some t, some sum => some (t.q.natAbs + sum)
      | _, _ => none
    else stationFlow rest

/-- The station flow is at or below the quiet threshold. -/
def State.quiet (s : State) : Bool :=
  match stationFlow s.runs with
  | some f => decide (f ≤ s.stationRead.quietThreshold)
  | none => false

/-- One evaluation of the station flow (R93). -/
def evalStationFlow (s : State) : State :=
  let s := checkStation s
  if s.quiet then
    if s.mode.tQuiet.isSome then s
    else { s with mode := { s.mode with tQuiet := startTimer s.now (s.stationRead.quietDwell * Config.second) } }
  else { s with mode := { s.mode with tQuiet := none } }

/-- The mode is TRANSITION in its RUNDOWN phase. -/
def State.inRundown (s : State) : Bool :=
  match s.mode.mode with
  | .transition _ .rundown => true
  | _ => false

/-- A computing trigger of a STATION run is told to the controller (R93). -/
def flowNotice (s : State) : State := if s.inRundown then evalStationFlow s else s

/-- Entry to the RUNDOWN phase (R93). -/
def enterRundown (d : Dir) (s : State) : State :=
  let s := checkStation (stopModeTimers s)
  evalStationFlow
    (tellMode (.transition d .rundown)
      { s with mode := { s.mode with tRundown := startTimer s.now (s.stationRead.rundown * Config.second) } })

/-! ### Timers of the mode machine -/

/-- LINEUP_TIMER_EXPIRY (R92). -/
def execLineupTimerExpiry (s : State) : Answer :=
  .next
    (match s.mode.mode with
      | .transition _ .lineup => if fires s.now s.mode.tLineup then failTransition s else s
      | _ => s)

/-- RUNDOWN_TIMER_EXPIRY (R93). -/
def execRundownTimerExpiry (s : State) : Answer :=
  .next
    (match s.mode.mode with
      | .transition _ .rundown => if fires s.now s.mode.tRundown then failTransition s else s
      | _ => s)

/-- The station is quiet: the phase becomes LINEUP if the precondition holds (R93). -/
def quietReached (d : Dir) (s : State) : State :=
  if d = .withdraw ∧ s.withdrawalPrecondition = false then failTransition s else enterLineup d s

/-- QUIET_DWELL_EXPIRY (R93). -/
def execQuietDwellExpiry (s : State) : Answer :=
  .next
    (match s.mode.mode with
      | .transition d .rundown => if fires s.now s.mode.tQuiet then quietReached d s else s
      | _ => s)

/-! ### SET_MODE (R91) -/

/-- Codes of modes, targets and phases from 0 in the order R90 lists them (R202). -/
def Mode.code : Mode → Nat
  | .shutIn => 0
  | .inject => 1
  | .withdraw => 2
  | .transition _ _ => 3

def Phase.code : Phase → Nat
  | .rundown => 0
  | .lineup => 1

/-- Mode, target and phase (R91, R100). -/
def Mode.result (m : Mode) : List Octet :=
  be 1 m.code ++
    match m with
    | .transition d p => beOpt 1 (some d.code) ++ beOpt 1 (some p.code)
    | _ => beOpt 1 none ++ beOpt 1 none

/-- A SET_MODE towards a direction of flow, by the mode in force (R91). -/
def setFlow (d : Dir) (s : State) : Status × State :=
  match s.mode.mode, d with
  | .shutIn, _ => (.ok, enterLineup d s)
  | .inject, .inject => (.ok, s)
  | .inject, .withdraw => (.ok, enterRundown .withdraw s)
  | .withdraw, .inject => (.ok, enterRundown .inject s)
  | .withdraw, .withdraw => (.ok, s)
  | .transition t _, _ => if t = d then (.ok, s) else (.transitionBusy, s)

/-- A SET_MODE towards a direction of flow with its refusals (R91). -/
def requestFlow (d : Dir) (s : State) : Reply :=
  if s.mode.esd || !s.stationPresent || (decide (d = .withdraw) && !s.withdrawalPrecondition) then refuse .wrongState s
  else
    match setFlow d s with
    | (.ok, t) => ⟨.ok, t.mode.mode.result, t⟩
    | (status, t) => refuse status t

def setMode (args : List Octet) (s : State) : Reply :=
  let target := fieldAt args 0 1
  if target = 0 then
    let t := enterShutIn Src.modeChanged s
    ⟨.ok, t.mode.mode.result, t⟩
  else if target = 1 then requestFlow .inject s
  else if target = 2 then requestFlow .withdraw s
  else refuse .badArgument s

/-- SET_MODE (R91). -/
def execSetMode (s : State) : Answer := serve 0x11 setMode s

/-! ### Reports, departure and commands of the station valve set (R95 to R98) -/

/-- The lineup of a report is recorded (R95). -/
def recordLineup (l : Lineup) (s : State) : State := { s with mode := { s.mode with lineup := some l } }

/-- ESD becomes active (R96). -/
def esdActivated (s : State) : State :=
  let s := dutyEsd true { s with mode := { s.mode with esd := true } }
  occur Src.esdActive noSubject (tellMode .shutIn (withdrawLineup (stopModeTimers s)))

/-- ESD becomes inactive (R96). -/
def esdCleared (s : State) : State := dutyEsd false { s with mode := { s.mode with esd := false } }

/-- A recorded lineup is acted on by the mode in force (R95). -/
def actLineup (l : Lineup) (s : State) : State :=
  match s.mode.mode, l with
  | .transition .inject .lineup, .inject => enterFlow .inject s
  | .transition .withdraw .lineup, .withdraw => enterFlow .withdraw s
  | .inject, .shut => enterShutIn Src.modeChanged s
  | .inject, .withdraw => enterShutIn Src.modeChanged s
  | .withdraw, .shut => enterShutIn Src.modeChanged s
  | .withdraw, .inject => enterShutIn Src.modeChanged s
  | _, _ => s

/-- A STATE payload from the station valve set (R95, R96, R214). DESIGN CHOICE, unsafe (log entry 67): a report with ESD
active taken while ESD is active, which R96 says changes nothing, has its lineup recorded, as R95 says of every report
with ESD active. -/
def stationReport (payload : List Octet) (s : State) : State :=
  match payload with
  | l :: e :: _ =>
    let lineup := lineupOf l
    if e = 0 then
      let s := if s.mode.esd then esdCleared s else s
      actLineup lineup (recordLineup lineup s)
    else
      let s := recordLineup lineup s
      if s.mode.esd then s else esdActivated s
  | _ => s

/-- The station valve set's entry has left PRESENT (R97). -/
def stationDeparted (s : State) : State :=
  match s.mode.mode with
  | .transition _ .lineup => failTransition s
  | _ => s

/-- The verdict on a supervisor COMMAND to the station valve set (R98, R214). -/
def stationCommand (payload : List Octet) (s : State) : State × Verdict :=
  match payload with
  | [] => (s, .pass)
  | a :: _ => (s, if a = 6 ∨ commandTooShort payload = true then .refuse else .pass)

/-! ### The withdrawal-compression flag (R99) -/

/-- The channel is a pressure channel of the STATION table as consumers read it. -/
def State.namesPressure (s : State) (ch : Nat) : Bool :=
  decide (s.stationRead.storage = some ch) || decide (s.stationRead.pipeline = some ch)

/-- The flag after a re-evaluation with `d` = storage less pipeline pressure (R99). -/
def flagAfter (c : StationCfg) (before : Bool) (d : Int) : Bool :=
  if before then decide (d < (c.margin + c.hyst : Nat)) else decide (d < (c.margin : Nat))

/-- The pressure difference when both channels may be used (R99). -/
def State.pressureDifference (s : State) : Option Int :=
  match s.stationRead.storage, s.stationRead.pipeline with
  | some a, some b =>
    match s.trusted a, s.trusted b with
    | some x, some y => some (x - y)
    | _, _ => none
  | _, _ => none

/-- A change of the flag is latched and told (R99). -/
def changeFlag (flag : Bool) (s : State) : State :=
  let s := occur Src.compressionChanged noSubject { s with mode := { s.mode with flag := flag } }
  acctFlag flag (dutyFlag flag s)

/-- Each re-evaluation reads both pressure channels (R99, R37). -/
def usePressures (s : State) : State :=
  useChannels (s.stationRead.storage.toList ++ s.stationRead.pipeline.toList) s

/-- A notice about a channel re-evaluates the flag when the STATION table names it (R99). -/
def pressureNotice (ch : Nat) (s : State) : State :=
  if s.namesPressure ch then
    let s := usePressures (checkStation s)
    match s.pressureDifference with
    | none => s
    | some d =>
      let flag := flagAfter s.stationRead s.mode.flag d
      if flag = s.mode.flag then s else changeFlag flag s
  else s

/-! ### Reset (R101) -/

/-- The mode machine after either reset; the flag is the caller's (R101). -/
def modeReset (flag : Bool) (s : State) : State :=
  { s with mode := ⟨.shutIn, false, none, none, none, none, flag⟩ }

end Sys2Proof.Machine
end

