-- ==== Sys2Proof/Machine/Meter.lean ====
section
/-!
DEFINITION. The Meter Run Computer (spec/04): the trigger with its three stages and classification, the calorific
reference, the handover, the taking effect of a RUNS image, and READ_RUN.
-/

namespace Sys2Proof.Machine

/-! ### Parameters -/

/-- A channel whose notices the run acts on; an UNUSED run uses none of its channel parameters (R63, log entry 32). -/
def RunCfg.names (c : RunCfg) (f : RunCfg → Option Nat) : Option Nat := if c.role = .unused then none else f c

def RunCfg.flowCh (c : RunCfg) : Option Nat := c.names fun c => some c.flow

def RunCfg.calCh (c : RunCfg) : Option Nat := c.names (·.cal)

/-- A use of the run's entry checks it (R81). -/
def checkRun (r : Nat) (s : State) : State := if s.foundBad .runs r then markEntry .runs r r s else s

/-! ### Inputs of a trigger -/

/-- A value used with what was done to get it: held, substituted, clamped (R82). -/
structure Input where
  value : Int
  held : Bool
  substituted : Bool
  clamped : Bool
  good : Bool
  deriving DecidableEq, Repr

/-- A channel value limited to its range (R68, R70). -/
def Input.taken (lo hi v : Int) (good : Bool) : Input :=
  ⟨clampInt lo hi v, false, false, decide (clampInt lo hi v ≠ v), good⟩

/-- The rate q (R68). -/
def rateInput (reading : Quality × Option Int) (subst : Int) : Input :=
  match reading with
  | (.good, some v) => .taken (-50000000) 50000000 v true
  | (.suspect, some v) => .taken (-50000000) 50000000 v false
  | _ => ⟨subst, false, true, false, false⟩

/-- The age of a channel is not above the run's P/T maximum age (R70, R39). -/
def State.young (s : State) (ch maxAge : Nat) : Bool :=
  match (s.chan ch).ageStart with
  | some t => decide (s.now - t ≤ maxAge * Config.second)
  | none => false

/-- A pressure or temperature (R70). -/
def heldInput (reading : Quality × Option Int) (young : Bool) (lo hi : Int) (lastGood : Option Nat) (base : Nat) : Input :=
  let fallback : Input :=
    match lastGood with
    | some v => ⟨v, true, false, false, false⟩
    | none => ⟨base, false, true, false, false⟩
  match reading, young with
  | (.good, some v), true => .taken lo hi v true
  | (.suspect, some v), true => .taken lo hi v false
  | _, _ => fallback

/-- The compressibility at a pressure, and whether the pressure lies outside the curve (R71). -/
def compressibility (curve : List (Nat × Nat)) (p : Nat) : Nat × Bool :=
  match curve with
  | [] => (0, true)
  | (p0, z0) :: rest => if p < p0 then (z0, true) else walk p p0 z0 rest
where
  /-- The segment that holds `p`, at or above its left point. -/
  walk (p pi zi : Nat) : List (Nat × Nat) → Nat × Bool
    | [] => (zi, decide (pi < p))
    | (pj, zj) :: rest =>
      if p = pi then (zi, false)
      else if p < pj then
        ((roundHalfAway ((zi : Int) * ((pj : Int) - pi) + ((zj : Int) - zi) * ((p : Int) - pi)) (pj - pi)).toNat, false)
      else walk p pj zj rest

/-- The actual volume with the new residue (R69). -/
def actualVolume (q : Int) (dt rV : Nat) : Nat × Nat := ((q.natAbs * dt + rV) / 360, (q.natAbs * dt + rV) % 360)

/-- The standard volume, rounded half up (R72). -/
def standardVolume (c : RunCfg) (va p t z : Nat) : Nat :=
  (roundHalfUp ((va * p * c.tb * c.zb : Nat) : Int) (c.pb * t * z)).toNat

/-- The energy with the new residue (R75). -/
def energyOf (vb h rE : Nat) : Nat × Nat := ((vb * h + rE) / 1000, (vb * h + rE) % 1000)

/-- The calorific value by the reference state: value, held, substituted (R75). -/
def calorific (c : RunCfg) (r : RunState) : Nat × Bool × Bool :=
  match r.ref with
  | .ready => (if c.calCh.isSome then r.lastH.getD c.fallbackH else c.fallbackH, false, false)
  | .stale => (r.lastH.getD c.fallbackH, true, false)
  | .fault => (c.fallbackH, false, true)
  | .none => (c.fallbackH, false, true)

/-- The accumulator of an energy, and whether the flow is counterflow (R76). -/
def classify (role : Role) (mode : Mode) (q : Int) : Option Nat × Bool :=
  if q = 0 then (none, false)
  else
    match role with
    | .station =>
      if 0 < q then
        match mode with
        | .inject => (some 0, false)
        | .withdraw => (some 2, true)
        | .shutIn => (some 2, false)
        | .transition _ _ => (some 2, false)
      else
        match mode with
        | .withdraw => (some 1, false)
        | .inject => (some 3, true)
        | .shutIn => (some 3, false)
        | .transition _ _ => (some 3, false)
    | .fuel => (some 0, false)
    | .regen => (some 0, false)
    | .unused => (none, false)

/-! ### The trigger (R66) -/

/-- What a computing trigger works out. -/
structure Computed where
  record : TriggerRecord
  rV : Nat
  rE : Nat
  lastP : Option Nat
  lastT : Option Nat
  zRange : Bool
  counterflow : Bool
  suspect : Bool
  deriving DecidableEq, Repr

/-- The stages on inputs taken as they stand (R67 to R76); `mark` is the previous trigger mark. -/
def State.compute (s : State) (r : Nat) (mark : Nat) : Computed :=
  let c := s.runCfg r
  let x := s.run r
  let dt := min (s.now - mark) c.gapCap
  let q := rateInput (s.readChannel c.flow) c.subst
  let p := heldInput (s.readChannel c.press) (s.young c.press c.ptMaxAge) 0 30000000 x.lastP c.pb
  let t := heldInput (s.readChannel c.temp) (s.young c.temp c.ptMaxAge) 20000 40000 x.lastT c.tb
  let va := actualVolume q.value dt x.rV
  let z := compressibility c.curve p.value.toNat
  let vb := standardVolume c va.1 p.value.toNat t.value.toNat z.1
  let h := calorific c x
  let e := energyOf vb h.1 x.rE
  let k := classify x.role s.mode.mode q.value
  { record :=
      { dt := dt
        q := q.value
        p := p.value.toNat
        t := t.value.toNat
        z := z.1
        h := h.1
        va := va.1
        vb := vb
        e := e.1
        acc := k.1
        flags :=
          { dtCapped := decide (c.gapCap < s.now - mark)
            qSubstituted := q.substituted
            qClamped := q.clamped
            pHeld := p.held
            pSubstituted := p.substituted
            pClamped := p.clamped
            tHeld := t.held
            tSubstituted := t.substituted
            tClamped := t.clamped
            zClamped := z.2
            hHeld := h.2.1
            hSubstituted := h.2.2 } }
    rV := va.2
    rE := e.2
    lastP := if p.good then some p.value.toNat else x.lastP
    lastT := if t.good then some t.value.toNat else x.lastT
    zRange := z.2
    counterflow := k.2
    suspect := !q.good || !p.good || !t.good }

/-- Some input was substituted, held, capped or clamped (R78). -/
def InputFlags.any (f : InputFlags) : Bool :=
  f.dtCapped || f.qSubstituted || f.qClamped || f.pHeld || f.pSubstituted || f.pClamped || f.tHeld || f.tSubstituted ||
    f.tClamped || f.zClamped || f.hHeld || f.hSubstituted

/-- Joules added to an accumulator slot, saturating (R62). -/
def Slot.add (e : Nat) (a : Slot) : Slot := { a with joules := min Config.max64 (a.joules + e) }

/-- The energy does not fit the slot (R62). -/
def RunState.overflows (x : RunState) (acc : Option Nat) (e : Nat) : Bool :=
  match acc with
  | some k => decide (Config.max64 < (x.slots.getD k ⟨0, 0⟩).joules + e)
  | none => false

/-- The run's state after a computing trigger (R66). -/
def RunState.after (now : Nat) (k : Computed) (x : RunState) : RunState :=
  { x with
    slots := (match k.record.acc with
      | some i => x.slots.modify i (Slot.add k.record.e)
      | none => x.slots)
    rV := k.rV
    rE := k.rE
    mark := some now
    lastP := k.lastP
    lastT := k.lastT
    estimated := x.estimated || k.suspect || k.record.flags.any || x.overflows k.record.acc k.record.e
    last := some k.record }

/-- The events of the stages, with the run index as subject (R66, R67, R68, R71, R76). -/
def stageEvents (r : Nat) (k : Computed) (s : State) : State :=
  occurIf k.counterflow Src.counterflow r
    (occurIf k.zRange Src.zRange r
      (occurIf k.record.flags.qSubstituted Src.flowSubstituted r
        (occurIf k.record.flags.dtCapped Src.gapCapped r s)))

/-- The channels whose values a computing trigger takes (R68, R70), each checked at its read (R37). -/
def useInputs (r : Nat) (s : State) : State :=
  useChannels [(s.runCfg r).flow, (s.runCfg r).press, (s.runCfg r).temp] s

/-- A trigger that computes (R66 to R77). -/
def computeTrigger (r mark : Nat) (s : State) : State :=
  let s := useInputs r s
  let k := s.compute r mark
  let s := stageEvents r k (s.onRun r (RunState.after s.now k))
  let s :=
    if (s.run r).role = .station ∧ k.record.acc = some 1 ∧ 0 < k.record.vb then dryVolume r k.record.vb s else s
  if (s.run r).role = .station then flowNotice s else s

/-- A trigger that only records its time (R66, R81). -/
def recordTrigger (r : Nat) (s : State) : State :=
  s.onRun r fun x => { x with mark := some s.now, estimated := true }

/-- A trigger of run `r` (R66, R81). -/
def trigger (r : Nat) (s : State) : State :=
  let s := checkRun r s
  if s.marked .runs r then recordTrigger r s
  else
    match (s.run r).mark with
    | none => recordTrigger r s
    | some m => computeTrigger r m s

/-- A completion of channel `ch` triggers the run whose flow channel it is (R66, R57). -/
def flowCompletion (ch : Nat) (s : State) : State :=
  (List.range 8).foldl (fun s r => if (s.runCfg r).flowCh = some ch then trigger r s else s) s

/-! ### The calorific reference (R73, R74) -/

/-- A GOOD completion (R73). -/
def RunState.calGood (now stale : Nat) (v : Int) (x : RunState) : RunState :=
  { x with
    ref := .ready
    lastH := some (clampInt 20000 60000 v).toNat
    refTimer := startTimer now (stale * Config.second) }

/-- REF_FAULT on entry to FAULT (R73). -/
def refFault (r : Nat) (s : State) : State :=
  if (s.run r).ref = .fault then s
  else occur Src.refFault r (s.onRun r fun x => { x with ref := .fault, refTimer := none })

/-- REF_STALE on entry to STALE from READY (R73). -/
def refStale (r : Nat) (s : State) : State :=
  if (s.run r).ref = .ready then occur Src.refStale r (s.onRun r fun x => { x with ref := .stale, refTimer := none })
  else s

/-- The run acts on notices about channel `ch` as its calorific channel (R73, R74). -/
def State.calorificOf (s : State) (ch r : Nat) : Bool :=
  decide ((s.runCfg r).calCh = some ch) && !s.marked .runs r

/-- A completion of the calorific channel with its quality (R73). -/
def calorificCompletion (ch : Nat) (s : State) : State :=
  (List.range 8).foldl
    (fun s r =>
      if s.calorificOf ch r then
        match (s.chan ch).quality, (s.chan ch).filtered with
        | .good, some v => s.onRun r (RunState.calGood s.now (s.runCfg r).refStale v)
        | .bad, _ => refFault r s
        | _, _ => s
      else s) s

/-- An expiry of the calorific channel's age timer (R73). -/
def calorificAged (ch : Nat) (s : State) : State :=
  (List.range 8).foldl (fun s r => if s.calorificOf ch r then refStale r s else s) s

/-- REF_STALE_TIMER_EXPIRY (R73); held while the run carries a parity mark (R74). DESIGN CHOICE, unsafe (log entry 88): taken
also for a run whose role a RUNS image has made UNUSED while the timer ran. -/
def execRefStaleTimerExpiry (r : Nat) (s : State) : Answer :=
  if 8 ≤ r then .refused .noSuchTarget
  else .next (if fires s.now (s.run r).refTimer && !s.marked .runs r then refStale r s else s)

/-! ### The handover (R79, R65) -/

/-- How many slots are accumulators under a role (R62). -/
def Role.accumulators : Role → Nat
  | .station => 4
  | .fuel => 1
  | .regen => 1
  | .unused => 0

/-- The kWh of a slot (R79). -/
def Slot.kWh (a : Slot) : Nat := (a.joules + a.carry) / 3600000

/-- A slot after its handover (R79). -/
def Slot.handedOver (a : Slot) : Slot := ⟨0, (a.joules + a.carry) % 3600000⟩

/-- A run's state after its handover (R79). -/
def RunState.handedOver (x : RunState) : RunState :=
  { x with
    slots := x.slots.mapIdx fun i a => if i < x.role.accumulators then a.handedOver else a
    estimated := if x.role = .unused then x.estimated else false }

/-- A handover joins its group (R167). -/
def Group.take (x : RunState) (g : Group) : Group :=
  let kWh (i : Nat) : Nat := (x.slots.getD i ⟨0, 0⟩).kWh
  match x.role with
  | .station =>
    { g with
      mInj := g.mInj + kWh 0
      mWd := g.mWd + kWh 1
      tIn := g.tIn + kWh 2
      tOut := g.tOut + kWh 3
      estimated := g.estimated || x.estimated }
  | .fuel => { g with fuel := g.fuel + kWh 0, estimated := g.estimated || x.estimated }
  | .regen => { g with regen := g.regen + kWh 0, estimated := g.estimated || x.estimated }
  | .unused => g

/-- Run `r` hands over at a boundary (R79). -/
def handover (num r : Nat) (s : State) : State :=
  let x := s.run r
  if x.role = .unused then s
  else (onGroup num (Group.take x) (openGroup num s)).onRun r RunState.handedOver

/-- The reference state with which a run begins: NONE, or READY without a calorific channel (R73, R83). -/
def RunCfg.refAtStart (c : RunCfg) : RefState := if c.cal.isSome then .none else .ready

/-- The role changes to or from UNUSED (R65). -/
def RunCfg.usedChanges (old new : RunCfg) : Bool := decide (old.role = .unused) != decide (new.role = .unused)

/-- A run as it takes its entry from a RUNS image, parameter by parameter as R65 lists them. DESIGN CHOICE, unsafe (log
entry 71): a reference stale timer that runs keeps its end when the image changes only the reference stale time. -/
def RunState.takes (old new : RunCfg) (x : RunState) : RunState :=
  let x := { x with role := new.role }
  let x := if old.flow ≠ new.flow ∨ old.usedChanges new = true then { x with mark := none, last := none } else x
  let x := if old.press = new.press then x else { x with lastP := none }
  let x := if old.temp = new.temp then x else { x with lastT := none }
  if old.cal = new.cal then x else { x with lastH := none, refTimer := none, ref := new.refAtStart }

/-- Every run has taken its entry: the image is the RUNS table in effect (R65, R205). -/
def runsTakeEffect (img : StoredImage) (s : State) : State :=
  let old := s.tables.runs
  let t := (s.putCommitted .runs img).clearMarks .runs
  let t := { t with tables := t.tables.load .runs img.octets, ret := { t.ret with pendRuns := none } }
  let t := { t with runs := t.runs.mapIdx fun r x => x.takes (old.getD r .blank) (t.runCfg r) }
  occur Src.tableCommitted noSubject t

/-- Every run hands over and takes its entry of a pending image; the group is then complete (R79, R65, R167). -/
def handoverAll (num : Nat) (s : State) : State :=
  let s := (List.range 8).foldl (fun s r => handover num r s) s
  completeGroup num
    (match s.ret.pendRuns with
      | some img => runsTakeEffect img s
      | none => s)

/-! ### READ_RUN (R82) -/

def RefState.code : RefState → Nat
  | .none => 0
  | .ready => 1
  | .stale => 2
  | .fault => 3

/-- Which inputs were substituted, held, capped or clamped (R82). DESIGN CHOICE, unsafe (log entry 66): twelve yes-or-no
octets in the order interval, rate, P, T, Z, H. -/
def InputFlags.result (f : InputFlags) : List Octet :=
  beFlag f.dtCapped ++ beFlag f.qSubstituted ++ beFlag f.qClamped ++ beFlag f.pHeld ++ beFlag f.pSubstituted ++
    beFlag f.pClamped ++ beFlag f.tHeld ++ beFlag f.tSubstituted ++ beFlag f.tClamped ++ beFlag f.zClamped ++
    beFlag f.hHeld ++ beFlag f.hSubstituted

/-- The results of a trigger (R82). DESIGN CHOICE, unsafe (log entry 87): the accumulator chosen is a presence octet and the
number of its slot, consumption and into 0, out 1, transit-in 2, transit-out 3; absent where the rate is 0. -/
def TriggerRecord.result (t : TriggerRecord) : List Octet :=
  be 2 t.dt ++ beInt 4 t.q ++ be 4 t.p ++ be 2 t.t ++ be 3 t.z ++ be 2 t.h ++ be 8 t.va ++ be 8 t.vb ++ be 8 t.e ++
    beOpt 1 t.acc ++ t.flags.result

def lastResult : Option TriggerRecord → List Octet
  | some t => 1 :: t.result
  | none => 0 :: be 55 0

def State.runResult (s : State) (r : Nat) : List Octet :=
  let x := s.run r
  s.entryImage .runs r ++ be 1 x.role.code ++ beFlag s.ret.pendRuns.isSome ++ beFlag (s.marked .runs r) ++ be 2 x.rV ++
    be 2 x.rE ++ beList ((x.slots.take x.role.accumulators).map fun a => be 8 a.joules ++ be 3 a.carry) ++
    beFlag x.estimated ++ be 1 x.ref.code ++ beOpt 2 x.lastH ++ beOpt 4 x.lastP ++ beOpt 2 x.lastT ++
    beOpt 6 (x.mark.map fun m => s.now - m) ++ lastResult x.last

def readRun (args : List Octet) (s : State) : Reply :=
  let r := fieldAt args 0 1
  if 7 < r then refuse .badArgument s
  else
    let t := checkRun r s
    ⟨.ok, t.runResult r, t⟩

/-- READ_RUN (R82). -/
def execReadRun (s : State) : Answer := serve 0x04 readRun s

/-! ### Resets (R83) -/

def runsPowerOn (s : State) : State :=
  { s with runs := s.tables.runs.map fun c => RunState.initial c.role c.refAtStart }

def runsRestart (s : State) : State :=
  { s with
    runs := s.runs.mapIdx fun r x => { x with mark := none, ref := (s.runCfg r).refAtStart, refTimer := none } }

end Sys2Proof.Machine
end

