-- ==== Sys2Proof/Machine/Sampling.lean ====
section
/-!
DEFINITION. Sample channels and conditioning (spec/02 R31 to R38, spec/03): arrival and acceptance, the custody paths,
the Conditioning Engine, survey sweeps, the stages, staleness, notices, READ_CHANNEL, READ_PEAKS and SWEEP.
-/

namespace Sys2Proof.Machine

/-! ### Busy channels (R39) -/

/-- The engine serves the channel. -/
def State.servingChannel (s : State) (ch : Nat) : Bool :=
  match s.engine.serving with
  | some (c, _) => decide (c = ch)
  | none => false

/-- The channel is busy (R39), also while a conditioning that a commit made void runs on. -/
def State.busy (s : State) (ch : Nat) : Bool :=
  (s.chan ch).custody.isSome || decide ((s.chan ch).request ≠ .none) || s.servingChannel ch

/-! ### The stages (R49 to R55) -/

/-- A tap's coefficient in units of 2^-15 (R52). -/
def tapWeight (terms : List Term) : Int :=
  (terms.map fun t => if t.neg then -(2 ^ (15 - t.exp) : Int) else (2 ^ (15 - t.exp) : Int)).sum

/-- The filter sum over the newest values in units of 2^-15 (R52). -/
def filterSum (taps : List (List Term)) (history : List Int) : Int :=
  (List.zipWith (fun t x => tapWeight t * x) taps history).sum

/-- The scaled value before its clamp (R51). -/
def scaledValue (c : ChannelCfg) (raw : Int) : Int := roundHalfAway (c.offset * 65536 + raw * c.gain) 65536

/-- The filtered value (R52, R53). -/
def filteredValue (c : ChannelCfg) (f : FilterUse) (scaled : Int) (history : List Int) : Int :=
  match f.profile with
  | none => scaled
  | some p =>
    if f.marked || decide (history.length < p.taps.length) then scaled
    else clampInt c.engMin c.engMax (roundHalfAway (filterSum p.taps history) 32768)

/-- A comparator's output after a new filtered value (R54). -/
def comparatorAfter (c : Comparator) (out : Bool) (v : Int) : Bool :=
  match c.mode with
  | .off => false
  | .above => if out then !decide (v < c.t1 - c.hyst) else decide (c.t1 < v)
  | .below => if out then !decide (c.t1 + c.hyst < v) else decide (v < c.t1)
  | .inside =>
    if out then !(decide (v < c.t1 - c.hyst) || decide (c.t2 + c.hyst < v)) else decide (c.t1 ≤ v) && decide (v ≤ c.t2)
  | .outside =>
    if out then !(decide (c.t1 + c.hyst ≤ v) && decide (v ≤ c.t2 - c.hyst)) else decide (v < c.t1) || decide (c.t2 < v)

/-- The raw range stage takes the result as BAD (R50). -/
def Conditioning.isBad (k : Conditioning) : Bool :=
  decide (k.raw < k.cfg.rawMin) || decide (k.cfg.rawMax < k.raw) || decide (octetQuality k.rawQ = .bad)

/-- The scaled value lies outside the engineering range (R51). -/
def Conditioning.clamps (k : Conditioning) : Bool :=
  decide (scaledValue k.cfg k.raw < k.cfg.engMin) || decide (k.cfg.engMax < scaledValue k.cfg k.raw)

/-- The quality of a result that is not BAD (R49, R51, R53, R56). -/
def Conditioning.quality (k : Conditioning) (aged : Bool) : Quality :=
  if aged then .stale
  else if decide (octetQuality k.rawQ = .suspect) || k.clamps || (k.filter.profile.isSome && k.filter.marked) then .suspect
  else .good

/-- The greater and the lesser of a peak and a value (R55). -/
def peakWith (f : Int → Int → Int) (peak : Option Int) (v : Int) : Option Int :=
  match peak with
  | none => some v
  | some p => some (f p v)

/-- The state record after a conditioning (R49 to R56). -/
def Conditioning.write (k : Conditioning) (c : ChannelState) : ChannelState :=
  if k.isBad then { c with quality := .bad }
  else
    let scaled := clampInt k.cfg.engMin k.cfg.engMax (scaledValue k.cfg k.raw)
    let history := (scaled :: c.history).take 8
    let v := filteredValue k.cfg k.filter scaled history
    let q := k.quality c.ageStart.isNone
    { c with
      scaled := some scaled
      history := history
      filtered := some v
      quality := q
      peakMax := peakWith max c.peakMax scaled
      peakMin := peakWith min c.peakMin scaled
      cmpA := comparatorAfter k.cfg.cmpA c.cmpA v
      cmpB := comparatorAfter k.cfg.cmpB c.cmpB v
      lastGood := if q = .good then some v else c.lastGood }

/-! ### Notices (R57) -/

/-- The blocks that name the channel are told of a completion (R57). -/
def completionNotices (ch : Nat) (s : State) : State :=
  pressureNotice ch (calorificCompletion ch (flowCompletion ch s))

/-- The Drying Controller is told of each change of a comparator (R57). -/
def comparatorNotices (ch : Nat) (before : ChannelState) (s : State) : State :=
  let now := s.chan ch
  let s := if before.cmpA = now.cmpA then s else dryComparator ch .a now.cmpA s
  if before.cmpB = now.cmpB then s else dryComparator ch .b now.cmpB s

/-- A conditioning's results are written, its events latched and its notices given (R49, R57). DESIGN CHOICE, unsafe (log
entry 79): also where another use has found the channel's entry bad since the conditioning began; its result then stands,
with its own quality and values, while the mark stands (R37, R44, R209). -/
def finishConditioning (ch : Nat) (k : Conditioning) (s : State) : State :=
  let before := s.chan ch
  let s := s.onChan ch k.write
  let after := s.chan ch
  let s := occurIf k.isBad Src.rawRange ch s
  let s := occurIf (!k.isBad && k.clamps) Src.engClamp ch s
  let s := occurIf (!before.cmpA && after.cmpA) Src.compareA ch s
  let s := occurIf (!before.cmpB && after.cmpB) Src.compareB ch s
  comparatorNotices ch before (completionNotices ch s)

/-! ### Acceptance (R35, R40, R41) -/

/-- A use of a filter profile by a conditioning that begins checks it (R53). -/
def useFilter (p : Nat) (s : State) : State :=
  if p = 0 then s else if s.foundBad .filters (p - 1) then markEntry .filters (p - 1) p s else s

/-- The filter a conditioning works with (R52, R53). -/
def State.filterUse (s : State) (p : Nat) : FilterUse :=
  if p = 0 then ⟨none, false⟩ else ⟨some (s.tables.filters.getD (p - 1) .passing), s.marked .filters (p - 1)⟩

/-- The fixed inputs of a conditioning of the channel (R49). -/
def State.conditioning (s : State) (ch : Nat) : Conditioning :=
  ⟨(s.chan ch).raw, (s.chan ch).rawQ, s.chCfg ch, s.filterUse (s.chCfg ch).profile, false⟩

/-- A conditioning begins on the channel's custody path (R42), or ends at once on a bad entry (R37). -/
def beginCustody (ch : Nat) (s : State) : State :=
  let s := useChannel ch s
  if s.marked .channels ch then completionNotices ch (setBad ch s)
  else
    let s := useFilter (s.chCfg ch).profile s
    s.onChan ch fun c => { c with custody := some (s.conditioning ch) }

/-- The channel proceeds by class at an acceptance (R35, R40). -/
def proceed (ch : Nat) (s : State) : State :=
  match (s.chCfg ch).cls with
  | .custody => beginCustody ch s
  | .process => s.onChan ch fun c => { c with request := if c.request = .none then .waiting else c.request }
  | .survey => s.onChan ch fun c => { c with unconditioned := true }

/-- The acceptance of an item (R35, R40). -/
def accept (ch : Nat) (item : Item) (s : State) : State :=
  proceed ch
    (s.onChan ch fun c =>
      { c with
        raw := item.raw
        rawQ := item.quality
        pendingItem := none
        lastAccept := some s.time.count
        intervalUntil := startTimer s.now (s.chCfg ch).minInterval
        ageStart := some s.now })

/-- The pending slot is examined (R41). -/
def examinePending (ch : Nat) (s : State) : State :=
  match (s.chan ch).pendingItem with
  | none => s
  | some item => if (s.chan ch).intervalUntil.isNone && !s.busy ch then accept ch item s else s

/-- An arrival at a channel with a parity mark (R37, R57). -/
def arriveMarked (ch : Nat) (s : State) : State :=
  let s := setBad ch s
  if (s.chCfg ch).cls = .custody then flowCompletion ch s else s

/-- The arrival of an item at its channel (R34, R37, R40). -/
def arrive (ch : Nat) (item : Item) (s : State) : State :=
  let s := useChannel ch s
  if s.marked .channels ch then arriveMarked ch s
  else if (s.chan ch).intervalUntil.isNone && !s.busy ch then accept ch item s
  else s.onChan ch fun c => { c with pendingItem := some item }

/-- The channel in use that holds a pair of unit entry and local index (R34). -/
def State.channelAt (s : State) (e localIx : Nat) : Option Nat :=
  (List.range 64).find? fun ch =>
    (s.chCfg ch).inUse && decide ((s.chCfg ch).unit = e) && decide ((s.chCfg ch).localIx = localIx)

/-- One item of a SAMPLE frame is mapped to its channel or ignored (R34). -/
def takeItem (e : Nat) (s : State) (x : Nat × Item) : State :=
  let count := match (s.unit e).identity with
    | some id => id.channels
    | none => 0
  if 16 ≤ x.1 ∨ count ≤ x.1 then s
  else
    match s.channelAt e x.1 with
    | none => s
    | some ch => arrive ch x.2 s

/-- A SAMPLE payload from a PRESENT entry (R34). -/
def sampleFrame (e : Nat) (payload : List Octet) (s : State) : State := (sampleItems payload).foldl (takeItem e) s

/-- INTERVAL_TIMER_EXPIRY (R41). -/
def execIntervalTimerExpiry (ch : Nat) (s : State) : Answer :=
  if 64 ≤ ch then .refused .noSuchTarget
  else .next
    (if fires s.now (s.chan ch).intervalUntil then
      examinePending ch (s.onChan ch fun c => { c with intervalUntil := none })
    else s)

/-! ### Completions (R42, R44) -/

/-- A custody conditioning completes; the result of one that a commit made void is discarded (R42). -/
def custodyDone (ch : Nat) (k : Conditioning) (s : State) : State :=
  let s := s.onChan ch fun c => { c with custody := none }
  examinePending ch (if k.discard then s else finishConditioning ch k s)

/-- CUSTODY_CONDITIONING_DONE (R42). -/
def execCustodyConditioningDone (ch : Nat) (s : State) : Answer :=
  if 64 ≤ ch then .refused .noSuchTarget
  else
    match (s.chan ch).custody with
    | none => .next s
    | some k => .next (custodyDone ch k s)

/-- The waiting set (R43). -/
def State.waitingSet (s : State) : List Nat := (List.range 64).filter fun ch => decide ((s.chan ch).request = .waiting)

/-- Service ends at once on a bad entry (R43). DESIGN CHOICE, unsafe (log entry 65): no conditioning begins, so the channel's
unconditioned raw value stays so (R39, R45). -/
def serviceFails (ch : Nat) (s : State) : State :=
  sweepCounts ch (setBad ch (dropPending ch (s.onChan ch fun c => { c with request := .none })))

/-- Service of a channel begins (R43). -/
def beginService (ch : Nat) (s : State) : State :=
  let s := useChannel ch s
  if s.marked .channels ch then serviceFails ch s
  else
    let s := useFilter (s.chCfg ch).profile s
    let s := { s with engine := { s.engine with serving := some (ch, s.conditioning ch) } }
    s.onChan ch fun c => { c with request := .inService, unconditioned := false }

/-- ENGINE_SELECT (R43): the lowest channel of the waiting set is served while the engine is FREE. -/
def execEngineSelect (s : State) : Answer :=
  .next
    (match s.engine.serving, s.waitingSet with
      | none, ch :: _ => beginService ch s
      | _, _ => s)

/-- The engine's conditioning of a channel completes (R44). -/
def engineDone (ch : Nat) (k : Conditioning) (s : State) : State :=
  let s := { s with engine := { s.engine with serving := none } }
  let s :=
    if k.discard then s
    else finishConditioning ch k (s.onChan ch fun c => { c with request := .none })
  examinePending ch (sweepCounts ch s)

/-- ENGINE_CONDITIONING_DONE (R44). -/
def execEngineConditioningDone (s : State) : Answer :=
  match s.engine.serving with
  | none => .next s
  | some (ch, k) => .next (engineDone ch k s)

/-! ### Staleness (R56) -/

/-- The channel's age timer has reached the maximum age (R56). -/
def State.ageDue (s : State) (ch : Nat) : Bool :=
  match (s.chan ch).ageStart with
  | some t => decide (t + (s.chCfg ch).maxAge * Config.second ≤ s.now)
  | none => false

/-- The expiry of a channel's age timer (R56, R57). -/
def channelAged (ch : Nat) (s : State) : State :=
  let s := occur Src.channelStale ch (s.onChan ch fun c => { c with quality := .stale, ageStart := none })
  pressureNotice ch (calorificAged ch s)

/-- AGE_TIMER_EXPIRY (R56). -/
def execAgeTimerExpiry (ch : Nat) (s : State) : Answer :=
  if 64 ≤ ch then .refused .noSuchTarget else .next (if s.ageDue ch then channelAged ch s else s)

/-! ### The survey sweep (R45 to R48) -/

/-- The SURVEY channels in use (R45). -/
def State.surveyed (s : State) : List Nat :=
  (List.range 64).filter fun ch => (s.chCfg ch).inUse && decide ((s.chCfg ch).cls = .survey)

/-- A listed channel is handled by the first row of R45 that fits it. -/
def listChannel (s : State) (ch : Nat) : State :=
  let s := useChannel ch s
  if !s.present (s.chCfg ch).unit || !(s.chan ch).unconditioned then s
  else if s.marked .channels ch then setBad ch s
  else
    { s with engine := { s.engine with remaining := s.engine.remaining ++ [ch] } }.onChan ch fun c =>
      { c with request := .waiting }

/-- A survey sweep begins (R45, R46). -/
def beginSweep (s : State) : State :=
  let s := s.surveyed.foldl listChannel s
  occurIf s.engine.remaining.isEmpty Src.sweepDone noSubject s

def sweepRequest (_ : List Octet) (s : State) : Reply :=
  if s.engine.remaining.isEmpty then
    let t := beginSweep s
    ⟨.ok, be 1 t.engine.remaining.length, t⟩
  else refuse .wrongState s

/-- SWEEP (R47). -/
def execSweep (s : State) : Answer := serve 0x30 sweepRequest s

/-- The sweep period timer starts from zero with the period in effect (R48). -/
def startSweepTimer (s : State) : State :=
  { s with engine := { s.engine with sweepDue := startTimer s.now (s.stationRead.sweep * Config.second) } }

/-- The sweep period timer expires (R48). -/
def sweepPeriod (s : State) : State :=
  let s := checkStation s
  if s.marked .station 0 then s
  else if s.engine.remaining.isEmpty then beginSweep (startSweepTimer s)
  else startSweepTimer s

/-- SWEEP_PERIOD_EXPIRY (R48). -/
def execSweepPeriodExpiry (s : State) : Answer := .next (if fires s.now s.engine.sweepDue then sweepPeriod s else s)

/-! ### Departure, commit and resets (R32, R36, R38, R61) -/

/-- A unit's entry has left PRESENT: pending items and waiting requests of its channels are dropped (R36). -/
def channelsDeparted (e : Nat) (s : State) : State :=
  (List.range 64).foldl
    (fun s ch =>
      if (s.chCfg ch).inUse && decide ((s.chCfg ch).unit = e) then withdrawRequest ch (dropPending ch s) else s) s

/-- The moment a channel's age timer starts at a reset (R39, R61). -/
def ageAtReset (now : Nat) (c : ChannelCfg) : Option Nat := if c.inUse then some now else none

/-- A channel reset by a CHANNELS commit; a conditioning on its custody path runs on, void (R32, R39). DESIGN CHOICE, unsafe
(log entry 64): while a void service runs on in the engine the channel's engine request shows NONE, as in its reset
state (R38), and the channel is busy by the engine's own record. -/
def ChannelState.resetByCommit (now : Nat) (c : ChannelCfg) (x : ChannelState) : ChannelState :=
  { ChannelState.initial (ageAtReset now c) with custody := x.custody.map fun k => { k with discard := true } }

/-- The engine's conditioning of a channel becomes void (R32). -/
def voidService (ch : Nat) (s : State) : State :=
  match s.engine.serving with
  | some (c, k) =>
    if c = ch then { s with engine := { s.engine with serving := some (c, { k with discard := true }) } } else s
  | none => s

/-- A channel whose parameters a CHANNELS commit changed (R32). DESIGN CHOICE, unsafe (log entry 81): a comparator output that
goes from true to false in this reset is told to no block, so no check of R153 follows (R57). -/
def resetChannel (ch : Nat) (s : State) : State :=
  (voidService ch (withdrawRequest ch s)).onChan ch (ChannelState.resetByCommit s.now (s.chCfg ch))

/-- A CHANNELS image has taken the place of table `old` (R32). -/
def channelsTakeEffect (old : List ChannelCfg) (s : State) : State :=
  (List.range 64).foldl (fun s ch => if s.chCfg ch = old.getD ch .blank then s else resetChannel ch s)
    (occur Src.tableCommitted noSubject s)

/-- Channels, engine and sweep after either reset (R38, R39, R61). The sweep period timer reads its period, so the STATION
record is checked (R209). -/
def samplingReset (s : State) : State :=
  startSweepTimer
    (checkStation
      { s with
        chans := s.tables.channels.map fun c => ChannelState.initial (ageAtReset s.now c)
        engine := ⟨none, [], none⟩ })

/-! ### READ_CHANNEL and READ_PEAKS (R58 to R60) -/

/-- The channel reports as SPAN_FRACTION: its format, with ENGINEERING while its entry carries a mark (R58). -/
def State.reportsSpan (s : State) (ch : Nat) : Bool := (s.chCfg ch).spanFormat && !s.marked .channels ch

/-- A span fraction (R58). -/
def spanFraction (c : ChannelCfg) (v : Int) : Int := roundHalfUp ((v - c.engMin) * 32767) (c.engMax - c.engMin).toNat

/-- A value in the channel's report format (R58): 4 octets of engineering units, or 2 of span fraction. -/
def State.reported (s : State) (ch : Nat) (v : Option Int) : List Octet :=
  if s.reportsSpan ch then beOptInt 2 (v.map (spanFraction (s.chCfg ch))) else beOptInt 4 v

def Quality.code : Quality → Nat
  | .good => 0
  | .suspect => 1
  | .bad => 2
  | .stale => 3

def EngineRequest.code : EngineRequest → Nat
  | .none => 0
  | .waiting => 1
  | .inService => 2

/-- What READ_CHANNEL answers (R59). DESIGN CHOICE, unsafe (log entry 63): the report format shown is the one in effect,
ENGINEERING while the entry carries a mark (R58). -/
def State.channelResult (s : State) (ch : Nat) : List Octet :=
  let c := s.chCfg ch
  let x := s.chan ch
  beFlag c.inUse ++ be 1 c.cls.code ++ be 1 c.quantity.code ++ beFlag (s.reportsSpan ch) ++
    beFlag (s.marked .channels ch) ++ s.reported ch x.filtered ++ s.reported ch x.scaled ++ s.reported ch x.lastGood ++
    beInt 3 x.raw ++ [x.rawQ] ++ be 1 (if c.inUse then x.quality else .stale).code ++ beFlag x.cmpA ++ beFlag x.cmpB ++
    be 1 x.request.code ++ beFlag x.custody.isSome ++ beFlag x.pendingItem.isSome ++ beFlag x.unconditioned ++
    beOpt 6 x.lastAccept ++ be 1 x.history.length

def readChannelRequest (args : List Octet) (s : State) : Reply :=
  let ch := fieldAt args 0 1
  if 63 < ch then refuse .badArgument s
  else
    let t := useChannel ch s
    ⟨.ok, t.channelResult ch, t⟩

/-- READ_CHANNEL (R59): an entry found bad makes the quality BAD (R37). -/
def execReadChannel (s : State) : Answer := serve 0x02 readChannelRequest s

/-- Both peaks become absent (R60). -/
def clearPeaks (ch : Nat) (s : State) : State := s.onChan ch fun c => { c with peakMax := none, peakMin := none }

/-- A peak as it is reported: absent for a channel not in use (R60). -/
def State.peakShown (s : State) (ch : Nat) (v : Option Int) : Option Int := if (s.chCfg ch).inUse then v else none

/-- READ_PEAKS reads the report format and the engineering range, so it checks the entry (R31, R37, R58); one found bad
reports in ENGINEERING at once. -/
def readPeaks (args : List Octet) (s : State) : Reply :=
  let ch := fieldAt args 0 1
  if 63 < ch then refuse .badArgument s
  else
    let s := useChannel ch s
    ⟨.ok, s.reported ch (s.peakShown ch (s.chan ch).peakMax) ++ s.reported ch (s.peakShown ch (s.chan ch).peakMin),
      clearPeaks ch s⟩

/-- READ_PEAKS (R60). -/
def execReadPeaks (s : State) : Answer := serve 0x03 readPeaks s

end Sys2Proof.Machine
end

