-- ==== Sys2Proof/Machine/Directory.lean ====
section
/-!
DEFINITION. The Unit Directory (spec/02 R19 to R30): lookup and its parity, hearing, silence, announcement, departure,
release, the leaving of PRESENT, the UNITS commit, and READ_UNIT.
-/

namespace Sys2Proof.Machine

/-! ### Leaving PRESENT (R26) -/

/-- The blocks that own operations on the unit are told that its entry has left PRESENT (R26); `cls` is the expected
class it had while it was PRESENT. -/
def leavePresent (i : Nat) (cls : UnitClass) (s : State) : State :=
  let s := channelsDeparted i (withdrawAll i s)
  match cls with
  | .compressor => compDeparted i s
  | .dryerValves => dryDeparted i s
  | .stationValves => stationDeparted s
  | .meter => s
  | .transmitter => s
  | .analyser => s
  | .generic => s

/-- UNIT_DEPARTED is latched and a PRESENT entry leaves PRESENT; `was` is its former attach state. -/
def entryGone (i : Nat) (was : Attach) (cls : UnitClass) (s : State) : State :=
  let s := occur Src.unitDeparted i s
  if was = .present then leavePresent i cls s else s

/-! ### Lookup (R8, R10, R19, R28) -/

/-- An entry found bad is marked, made ABSENT and treated as not in use (R28). -/
def unitFoundBad (i : Nat) (s : State) : State :=
  let was := (s.unit i).attach
  let s := (markEntry .units i i s).onUnit i fun u => { u with attach := .absent, departed := false, silence := none }
  if was = .present then entryGone i was (s.unitCfg i).cls s else s

/-- The entry in use whose address is `a` (R19). -/
def State.entryAtAddr (s : State) (a : Addr) : Option Nat :=
  (List.range 48).find? fun i => s.unitInUse i && decide ((s.unitCfg i).addr = a)

/-- The parity check that a lookup of address `a` makes (R28, log entry 10). -/
def lookupCheck (a : Addr) (s : State) : State :=
  match s.entryAtAddr a with
  | some i => if s.foundBad .units i then unitFoundBad i s else s
  | none => s

/-- A directory index as a subject, FFh when there is none. -/
def subjectOf : Option Nat → Nat
  | some i => i
  | none => noSubject

/-! ### Hearing and silence (R21, R22) -/

/-- The silence timer starts from zero. -/
def State.silenceEnd (s : State) (i : Nat) : Option Nat := startTimer s.now ((s.unitCfg i).timeout * Config.second)

/-- The directory hears a unit (R21). -/
def hear (i : Nat) (s : State) : State :=
  s.onUnit i fun u =>
    { u with
      lastHeard := some s.time.count
      silence := if u.attach = .absent then u.silence else s.silenceEnd i }

/-- An entry that is not ABSENT becomes ABSENT with its departure flag set (R22, R25). -/
def departEntry (i : Nat) (s : State) : State :=
  let was := (s.unit i).attach
  if was = .absent then s
  else
    entryGone i was (s.unitCfg i).cls
      (s.onUnit i fun u => { u with attach := .absent, departed := true, silence := none })

/-- SILENCE_TIMEOUT (R22). -/
def execSilenceTimeout (i : Nat) (s : State) : Answer :=
  if 48 ≤ i then .refused .noSuchTarget
  else .next (if fires s.now (s.unit i).silence then departEntry i s else s)

/-! ### Announcement (R23, R24) -/

/-- The reported class agrees with the expected class (R23). -/
def agrees (expected : UnitClass) : Option UnitClass → Bool
  | none => false
  | some c => decide (c = expected) || decide (expected = .generic)

/-- The attach state and the event of an announcement (R23). -/
def announced (agree departed : Bool) : Attach × Nat :=
  if agree then if departed then (.held, Src.unitHeld) else (.present, Src.unitAnnounced)
  else (.mismatch, Src.unitMismatch)

/-- An ANNOUNCE frame from the entry (R23, R24). -/
def announce (i : Nat) (payload : List Octet) (s : State) : State :=
  match payload, (s.unit i).attach with
  | [c, n, rev], .absent =>
    let outcome := announced (agrees (s.unitCfg i).cls (reportedClass c)) (s.unit i).departed
    occur outcome.2 i
      (s.onUnit i fun u =>
        { u with
          attach := outcome.1
          identity := some ⟨reportedClass c, min 16 n.toNat, rev⟩
          silence := s.silenceEnd i })
  | _, _ => s

/-! ### Requests (R27, R29) -/

/-- Codes of attach states, in the order of R19 (R202). -/
def Attach.code : Attach → Nat
  | .absent => 0
  | .present => 1
  | .held => 2
  | .mismatch => 3

/-- The attach state and the departure flag (R27). -/
def State.releaseResult (s : State) (i : Nat) : List Octet := be 1 (s.unit i).attach.code ++ beFlag (s.unit i).departed

/-- A release by attach state (R27). -/
def releaseEntry (i : Nat) (s : State) : State :=
  match (s.unit i).attach with
  | .held => s.onUnit i fun u => { u with attach := .present, departed := false }
  | .absent => s.onUnit i fun u => { u with departed := false }
  | .present => s
  | .mismatch => s

def releaseUnit (args : List Octet) (s : State) : Reply :=
  let i := fieldAt args 0 1
  if 47 < i then refuse .badArgument s
  else if !s.unitInUse i then refuse .unknownTarget s
  else if (s.unit i).attach = .mismatch then ⟨.wrongState, s.releaseResult i, s⟩
  else
    let t := releaseEntry i s
    ⟨.ok, t.releaseResult i, t⟩

/-- RELEASE_UNIT (R27). -/
def execReleaseUnit (s : State) : Answer := serve 0x20 releaseUnit s

/-- A learned identity: presence, reported class (7 for unrecognised), channel count, revision. -/
def identityResult : Option Identity → List Octet
  | none => [0, 0, 0, 0]
  | some id => 1 :: be 1 ((id.cls.map UnitClass.code).getD 7) ++ be 1 id.channels ++ [id.revision]

/-- The live part as reads show it: ABSENT with nothing learned for an entry not in use (R29). DESIGN CHOICE, unsafe (log
entry 62): an entry with a parity mark, which R28 treats as not in use, shows the table's in-use flag and the identity
and last-heard time that R28 keeps. -/
def State.shownUnit (s : State) (i : Nat) : UnitLive := if (s.unitCfg i).inUse then s.unit i else .initial

def State.unitResult (s : State) (i : Nat) : List Octet :=
  let u := s.shownUnit i
  s.entryImage .units i ++ be 1 u.attach.code ++ beFlag u.departed ++ identityResult u.identity ++ beOpt 6 u.lastHeard ++
    beFlag (s.marked .units i)

def readUnit (args : List Octet) (s : State) : Reply :=
  let i := fieldAt args 0 1
  if 47 < i then refuse .badArgument s else ⟨.ok, s.unitResult i, s⟩

/-- READ_UNIT (R29). -/
def execReadUnit (s : State) : Answer := serve 0x05 readUnit s

/-! ### Commit and resets (R20, R28, R30) -/

/-- The entry keeps its live part: in-use flag, address and class unchanged, and no mark removed (R20, R28). -/
def keepsUnit (old new : UnitCfg) (wasMarked : Bool) : Bool :=
  decide (old.inUse = new.inUse) && decide (old.addr = new.addr) && decide (old.cls = new.cls) && !wasMarked

/-- An entry that a UNITS commit resets (R20). -/
def resetUnitEntry (i : Nat) (oldCls : UnitClass) (s : State) : State :=
  let was := (s.unit i).attach
  let s := s.onUnit i fun _ => .initial
  if was = .present then entryGone i was oldCls s else s

/-- A UNITS image has taken the place of table `old`; `wasMarked` are the marks it removed (R20). DESIGN CHOICE, unsafe (log
entry 61): the entries are reset one after the other in index order, and the owners of each are told before the next is
reset, so a duty evaluation in between may still start a unit whose entry the same commit resets later. -/
def unitsTakeEffect (old : List UnitCfg) (wasMarked : Nat → Bool) (s : State) : State :=
  (List.range 48).foldl
    (fun s i =>
      if keepsUnit (old.getD i .blank) (s.unitCfg i) (wasMarked i) then s
      else resetUnitEntry i (old.getD i .blank).cls s)
    (occur Src.tableCommitted noSubject s)

/-- The directory after either reset (R30). DESIGN CHOICE, unsafe (log entry 80): a unit entry that carries a parity mark loses
its identity and last-heard time too, while R28 keeps them until the mark is removed. -/
def directoryReset (s : State) : State := { s with units := List.replicate 48 .initial }

end Sys2Proof.Machine
end

