-- ==== Sys2Proof/Machine/Frames.lean ====
section
/-!
DEFINITION. The arrival of frames on Port F and Port S (spec/01 R1, R2, R5 to R11).
-/

namespace Sys2Proof.Machine

/-! ### Port F (R7 to R9) -/

/-- The capacity of the upstream forward queue (R9). -/
def State.upCapacity (s : State) : Nat := if s.tables.link.extended then 32 else 8

/-- A frame is offered to the upstream forward queue (R9). -/
def offerUpstream (f : Frame) (subject : Nat) (s : State) : State :=
  if s.link.upQ.length < s.upCapacity then { s with link := { s.link with upQ := s.link.upQ ++ [f] } }
  else occur Src.upOverrun subject s

/-- A STATE frame from a PRESENT entry goes to the controller of its class (R8). -/
def examineState (i : Nat) (payload : List Octet) (s : State) : State :=
  match (s.unitCfg i).cls with
  | .compressor => compressorReport i payload s
  | .dryerValves => dryerReport i payload s
  | .stationValves => stationReport payload s
  | .meter => s
  | .transmitter => s
  | .analyser => s
  | .generic => s

/-- A frame from an entry is examined by kind and attach state (R8). -/
def examine (i : Nat) (f : Frame) (s : State) : State :=
  if f.kind = kindAnnounce then announce i f.payload s
  else if f.kind = kindDepart then departEntry i s
  else if f.kind = kindSample then if s.present i then sampleFrame i f.payload s else s
  else if f.kind = kindState then if s.present i then examineState i f.payload s else s
  else s

/-- The frame is meant for the part, which is not managed from the field side (R7). -/
def misdirectedF (r : Reach) (kind : Octet) : Bool :=
  match r with
  | .addressed => true
  | .broadcast => decide (kind = kindRequest)
  | .passing => false

/-- A valid frame on Port F (R3, R7, R8, R9, R21). -/
def arriveF (f : Frame) (s : State) : State :=
  let s := lookupCheck f.src (checkOwnTable s)
  let entry := s.entryAtAddr f.src
  let s := match entry with
    | some i => hear i s
    | none => s
  if misdirectedF (reachOf s.ownActing f.dst) f.kind then occur Src.misdirected (subjectOf entry) s
  else
    let s := offerUpstream f (subjectOf entry) s
    match entry with
    | some i => examine i f s
    | none => s

/-- The octets collected on Port F at the end delimiter are taken as a frame (R1, R2). DESIGN CHOICE, unsafe (log entry
59): an end delimiter with no frame being collected does nothing and latches no F_CHECK. -/
def takeFrameF (rx : Option (List Octet)) (s : State) : State :=
  match rx with
  | none => s
  | some bs =>
    match parseFrame bs with
    | none => occur Src.fCheck noSubject s
    | some f => arriveF f s

/-- FRAME_ARRIVAL_PORT_F (R1, R2, R7, R8, R9): behind its end delimiter the path is between frames, and collects what follows. -/
def execFrameArrivalPortF (run : LineRun) (s : State) : Answer :=
  .next (takeFrameF (collect s.link.rxF run.before) { s with link := { s.link with rxF := collect none run.behind } })

/-! ### Requests (R5, R6) -/

/-- The request a REQUEST frame carries (R196). -/
def requestOf (f : Frame) (noResponse : Bool) : Request := ⟨f.src, f.dst, f.seq, f.payload, noResponse⟩

/-- A BUSY answer is offered to the response queue and dropped when that is full (R5, R15). DESIGN CHOICE, unsafe (log entry
78): the BUSY answer to a REQUEST whose payload is empty carries the code octet 00h. -/
def answerBusy (q : Request) (s : State) : State :=
  if q.noResponse || !s.respRoom then s else { s with resp := s.resp ++ [responseTo q .busy []] }

/-- A request is offered to the request queue, and enters service at once when none is in service (R5, R6, R196). -/
def offerRequest (q : Request) (s : State) : State :=
  if s.mgmt.waiting.length < 2 then enterService { s with mgmt := { s.mgmt with waiting := s.mgmt.waiting ++ [q] } }
  else occur Src.requestBusy noSubject (answerBusy q s)

/-! ### Forwarding towards Port F (R10, R11) -/

def joinDown (f : Frame) (s : State) : State := { s with link := { s.link with downQ := s.link.downQ ++ [f] } }

/-- The governing controller's verdict on a command to entry `i`; an ungoverned unit's command passes (R10). -/
def judge (i : Nat) (payload : List Octet) (s : State) : State × Verdict :=
  match (s.unitCfg i).cls with
  | .compressor => compressorCommand i payload s
  | .dryerValves => dryerCommand i payload s
  | .stationValves => stationCommand payload s
  | .meter => (s, .pass)
  | .transmitter => (s, .pass)
  | .analyser => (s, .pass)
  | .generic => (s, .pass)

/-- The verdict is carried out (R10, R11). -/
def carryVerdict (i : Nat) (f : Frame) (r : State × Verdict) : State :=
  match r.2 with
  | .pass => joinDown f r.1
  | .alter payload => joinDown { f with payload := payload } r.1
  | .refuse => occur Src.commandRefused i r.1

/-- A passing frame from Port S (R10). -/
def forwardDown (f : Frame) (s : State) : State :=
  if 8 ≤ s.link.downQ.length then
    let s := lookupCheck f.dst s
    occur Src.downOverrun (subjectOf (s.entryAtAddr f.dst)) s
  else if f.kind = kindCommand then
    let s := lookupCheck f.dst s
    match s.entryAtAddr f.dst with
    | some i => carryVerdict i f (judge i f.payload s)
    | none => joinDown f s
  else joinDown f s

/-- A broadcast frame from Port S (R6). -/
def broadcastS (f : Frame) (s : State) : State :=
  if f.kind = kindCommand then occur Src.commandRefused noSubject s
  else if f.kind = kindRequest ∧ f.payload.head? = some 0x10 then forwardDown f (offerRequest (requestOf f true) s)
  else forwardDown f s

/-- An addressed frame from Port S (R5). -/
def addressedS (f : Frame) (s : State) : State :=
  if f.kind = kindRequest then offerRequest (requestOf f false) s else occur Src.misdirected noSubject s

/-- A valid frame on Port S (R3, R5, R6, R10). -/
def arriveS (f : Frame) (s : State) : State :=
  let s := checkOwnTable s
  match reachOf s.ownActing f.dst with
  | .addressed => addressedS f s
  | .broadcast => broadcastS f s
  | .passing => forwardDown f s

/-- The octets collected on Port S at the end delimiter are taken as a frame (R1, R2). DESIGN CHOICE, unsafe (log entry
59): an end delimiter with no frame being collected does nothing and latches no S_CHECK. -/
def takeFrameS (rx : Option (List Octet)) (s : State) : State :=
  match rx with
  | none => s
  | some bs =>
    match parseFrame bs with
    | none => occur Src.sCheck noSubject s
    | some f => arriveS f s

/-- FRAME_ARRIVAL_PORT_S (R1, R2, R5, R6, R10): as on Port F. -/
def execFrameArrivalPortS (run : LineRun) (s : State) : Answer :=
  .next (takeFrameS (collect s.link.rxS run.before) { s with link := { s.link with rxS := collect none run.behind } })

end Sys2Proof.Machine
end

