-- ==== Sys2Proof/Machine/Boundary.lean ====
section
/-!
DEFINITION. Station time, interval boundaries and SET_TIME (spec/05 R84, R85, R87 to R89).
-/

namespace Sys2Proof.Machine

/-- The sweep period timer restarts if the period changed (R48, R87). -/
def sweepAfter (before : Nat) (s : State) : State := if s.stationRead.sweep = before then s else startSweepTimer s

/-- A STATION image takes effect at a boundary (R87). -/
def stationTakesEffect (img : StoredImage) (s : State) : State :=
  let oldL := s.lMin
  let oldSweep := s.stationRead.sweep
  let t := (s.putCommitted .station img).clearMarks .station
  let t := { t with tables := t.tables.load .station img.octets, ret := { t.ret with pendStation := none } }
  let t := sweepAfter oldSweep (occur Src.tableCommitted noSubject t)
  if t.lMin = oldL then t else dutyEvaluation (acctIntervalLength t)

/-- A pending STATION image is applied after the notices of a boundary (R87). -/
def applyStation (s : State) : State :=
  match s.ret.pendStation with
  | some img => stationTakesEffect img s
  | none => s

/-- The notice of the boundary raised now (R85). -/
def State.notice (s : State) : Notice :=
  ⟨s.time.boundaries + 1, s.time.start, s.time.count, s.time.stepFlag, s.time.firstFlag⟩

/-- The three blocks are told of a boundary (R85). -/
def giveNotices (n : Notice) (s : State) : State := writeRunSeconds (acctBoundary n (handoverAll n.num s))

/-- The next boundary from a reference time under the interval length in effect (R85). -/
def State.nextFrom (s : State) (t : Nat) : Nat := leastMultipleAbove t s.intervalMs

/-- A boundary is raised at the present station time (R85). -/
def raiseBoundary (s : State) : State :=
  let s := checkStation s
  let n := s.notice
  let s := giveNotices n { s with time := { s.time with boundaries := n.num } }
  let s := applyStation { s with time := { s.time with stepFlag := false, firstFlag := false, start := n.stop } }
  { s with time := { s.time with next := some (s.nextFrom n.stop) } }

/-- Station time has reached the next boundary (R85); a next boundary beyond the count's range is not reached. -/
def State.boundaryDue (s : State) : Bool :=
  !s.time.unset && decide (s.time.count < Config.timeModulus) &&
    match s.time.next with
    | some b => decide (b ≤ s.time.count)
    | none => false

/-- BOUNDARY (R85). -/
def execBoundary (s : State) : Answer := .next (if s.boundaryDue then raiseBoundary s else s)

/-- A step of station time: the step flag is set and TIME_STEP latched (R89). -/
def timeStep (count : Nat) (s : State) : State :=
  occur Src.timeStep noSubject { s with time := { s.time with count := count, stepFlag := true } }

/-- A backward step: the next boundary is computed afresh (R89). -/
def backwardStep (count : Nat) (s : State) : State :=
  let s := timeStep count s
  { s with time := { s.time with next := some (s.nextFrom count) } }

/-- The count passes 2^48 - 1 (R84). -/
def wrapTime (s : State) : State :=
  let count := s.time.count - Config.timeModulus
  if s.time.unset then { s with time := { s.time with count := count } } else backwardStep count s

/-- TIME_WRAP (R84): acts once the count has passed 2^48 - 1. -/
def execTimeWrap (s : State) : Answer := .next (if Config.timeModulus ≤ s.time.count then wrapTime s else s)

/-- The first SET_TIME after a power-on reset (R88). -/
def firstTime (count : Nat) (s : State) : State :=
  raiseBoundary { s with time := { s.time with count := count, unset := false } }

/-- SET_TIME once station time is set (R89). -/
def stepTime (count : Nat) (s : State) : Status × State :=
  if count = s.time.count then (.ok, s)
  else if count < s.time.count then (.ok, backwardStep count s)
  else if (match s.time.next with
      | some b => decide (b ≤ count)
      | none => false) then
    if s.acct.closing.isSome then (.closing, s) else (.ok, raiseBoundary (timeStep count s))
  else (.ok, timeStep count s)

def setTime (args : List Octet) (s : State) : Reply :=
  let count := fieldAt args 0 6
  if s.time.unset then
    let t := firstTime count s
    ⟨.ok, be 6 t.time.count, t⟩
  else
    match stepTime count s with
    | (.ok, t) => ⟨.ok, be 6 t.time.count, t⟩
    | (status, t) => refuse status t

/-- SET_TIME (R88, R89). -/
def execSetTime (s : State) : Answer := serve 0x10 setTime s

end Sys2Proof.Machine
end

