-- ==== Sys2Proof/Machine/Loading.lean ====
section
/-!
DEFINITION. The Table Store (spec/10 R200, R202 to R207): READ_TABLE, the staging area, the commit with its four checks
and the taking effect of an image.
-/

namespace Sys2Proof.Machine

/-! ### Table codes (R215) -/

def tableOf (n : Nat) : Option TableId := TableId.all[n]?

def TableId.code : TableId → Nat
  | .link => 0
  | .units => 1
  | .channels => 2
  | .filters => 3
  | .runs => 4
  | .station => 5
  | .compressors => 6
  | .dryers => 7
  | .shippers => 8
  | .events => 9

/-- RUNS and STATION are custody-protected (R207). -/
def TableId.custody : TableId → Bool
  | .runs => true
  | .station => true
  | .link => false
  | .units => false
  | .channels => false
  | .filters => false
  | .compressors => false
  | .dryers => false
  | .shippers => false
  | .events => false

/-- The line forbids a load or commit of the table (R203, R204, R207). -/
def State.protects (s : State) (t : TableId) : Bool := t.custody && !s.custody

/-! ### READ_TABLE (R200) -/

/-- The octets asked for, as a list with its count (log entry 16). -/
def slice (image : List Octet) (off n : Nat) : List Octet := be 1 n ++ (image.drop off).take n

/-- The octets written so far of an open load (R203). -/
def Load.writtenCount (l : Load) : Nat := l.written.countP id

/-- An image read from the part: octets, image length, CRC (R200). DESIGN CHOICE, unsafe (log entry 99): the count of octets
written, which only STAGED carries, is left out and has no presence octet. -/
def imageResult (image : List Octet) (off n : Nat) : List Octet :=
  slice image off n ++ be 2 image.length ++ be 2 (crc16 image).toNat

/-- An open load as READ_TABLE gives it (R200); the count of octets written has no presence octet (log entry 99). -/
def Load.result (l : Load) (off n : Nat) : List Octet :=
  slice l.octets off n ++ be 2 l.length ++ be 2 l.writtenCount ++ be 2 l.crc.toNat

/-- The answer of READ_TABLE once its selector is resolved (R200). -/
def readFrom (t : TableId) (off n : Nat) (result : List Octet) (s : State) : Reply :=
  if imageLength t < off + n then refuse .badArgument s else ⟨.ok, result, s⟩

/-- READ_TABLE of a named table by selector (R200). -/
def readSelected (t : TableId) (selector off n : Nat) (s : State) : Reply :=
  if selector = 0 then
    if s.marked t (entryAt t off) then refuse .unknownTarget s
    else readFrom t off n (imageResult (s.imageInEffect t) off n) s
  else if selector = 1 then
    match s.ret.pendingOf t with
    | none => refuse .unknownTarget s
    | some img => readFrom t off n (imageResult img.octets off n) s
  else
    match s.mgmt.load with
    | none => refuse .unknownTarget s
    | some l => if l.table = t then readFrom t off n (l.result off n) s else refuse .unknownTarget s

def readTable (args : List Octet) (s : State) : Reply :=
  let selector := fieldAt args 1 1
  let n := fieldAt args 4 1
  match tableOf (fieldAt args 0 1) with
  | none => refuse .badArgument s
  | some t =>
    if 2 < selector ∨ n = 0 ∨ 200 < n then refuse .badArgument s
    else readSelected t selector (fieldAt args 2 2) n s

/-- READ_TABLE (R200). -/
def execReadTable (s : State) : Answer := serve 0x0B readTable s

/-! ### The staging area (R203) -/

def setLoad (l : Option Load) (s : State) : State := { s with mgmt := { s.mgmt with load := l } }

/-- A load with every octet unwritten (R203). -/
def Load.opened (t : TableId) (crc : Nat) : Load :=
  ⟨t, imageLength t, BitVec.ofNat 16 crc, List.replicate (imageLength t) 0, List.replicate (imageLength t) false⟩

/-- LOAD_BEGIN of a named table, its checks in the order of R203. -/
def beginLoad (t : TableId) (length crc : Nat) (s : State) : Reply :=
  if length ≠ imageLength t then ⟨.badArgument, be 2 (imageLength t), s⟩
  else if s.mgmt.load.isSome then refuse .wrongState s
  else if s.protects t then refuse .isProtected (occur Src.tableProtected noSubject s)
  else ⟨.ok, be 2 (imageLength t), setLoad (some (.opened t crc)) s⟩

def loadBegin (args : List Octet) (s : State) : Reply :=
  match tableOf (fieldAt args 0 1) with
  | none => refuse .badArgument s
  | some t => beginLoad t (fieldAt args 1 2) (fieldAt args 3 2) s

/-- LOAD_BEGIN (R203). -/
def execLoadBegin (s : State) : Answer := serve 0x50 loadBegin s

/-- A list with the elements from `off` onward replaced by `new`. -/
def overwrite {α : Type} (off : Nat) (new old : List α) : List α :=
  old.take off ++ new ++ old.drop (off + new.length)

/-- Octets written into the staging area (R203). -/
def Load.write (l : Load) (off : Nat) (octets : List Octet) : Load :=
  { l with
    octets := overwrite off octets l.octets
    written := overwrite off (octets.map fun _ => true) l.written }

def loadData (args : List Octet) (s : State) : Reply :=
  let off := fieldAt args 0 2
  let n := fieldAt args 2 1
  if n = 0 ∨ 200 < n then refuse .badArgument s
  else
    match s.mgmt.load with
    | none => refuse .noLoad s
    | some l =>
      if l.length < off + n then refuse .badArgument s
      else
        let l := l.write off (args.drop 3)
        ⟨.ok, be 2 l.writtenCount, setLoad (some l) s⟩

/-- LOAD_DATA (R203). -/
def execLoadData (s : State) : Answer := serve 0x51 loadData s

def loadAbort (_ : List Octet) (s : State) : Reply :=
  if s.mgmt.load.isNone then refuse .noLoad s else ⟨.ok, [], setLoad none s⟩

/-- LOAD_ABORT (R203). -/
def execLoadAbort (s : State) : Answer := serve 0x53 loadAbort s

/-! ### The commit (R204) -/

/-- What the four checks of a commit find (R204). -/
inductive Finding where
  | incomplete
  | checkFailed
  | invalid (entry : Nat)
  | guarded
  | sound
  deriving DecidableEq, Repr

/-- The four checks in their order, the first that fails deciding (R204). -/
def State.checkLoad (s : State) (l : Load) : Finding :=
  if !l.written.all id then .incomplete
  else if crc16 l.octets ≠ l.crc then .checkFailed
  else
    match firstOffending s l.table l.octets with
    | some i => .invalid (entryIndex l.table i)
    | none => if s.protects l.table then .guarded else .sound

/-- The validation of a complete image with the CRC of its load reads the channels the image names, so it checks their
entries first (R37, log entry 36). -/
def Load.useNamed (l : Load) (s : State) : State :=
  if l.written.all id && decide (crc16 l.octets = l.crc) then useChannels (namedChannels l.table l.octets) s else s

/-- The image becomes the pending image of its table, replacing one held (R204). -/
def makePending (t : TableId) (img : StoredImage) (s : State) : State :=
  match t with
  | .runs => { s with ret := { s.ret with pendRuns := some img } }
  | .station => { s with ret := { s.ret with pendStation := some img } }
  | _ => { s with ret := { s.ret with pendShippers := some img } }

/-- The table's image takes effect at commit completion (R202). -/
def TableId.immediate : TableId → Bool
  | .runs => false
  | .station => false
  | .shippers => false
  | .link => true
  | .units => true
  | .channels => true
  | .filters => true
  | .compressors => true
  | .dryers => true
  | .events => true

/-- An image becomes the table in effect, its entries without marks (R204, R208, R210). -/
def installImage (t : TableId) (img : StoredImage) (s : State) : State :=
  let s := (s.putCommitted t img).clearMarks t
  { s with tables := s.tables.load t img.octets }

/-- The owner of a table acts on an image that has taken the place of `old` (R205). -/
def ownerActs (t : TableId) (before s : State) : State :=
  match t with
  | .units => unitsTakeEffect before.tables.units (before.marked .units) s
  | .channels => channelsTakeEffect before.tables.channels s
  | .compressors => compressorsTakeEffect before.tables.compressors s
  | .dryers => dryersTakeEffect before.tables.dryers (before.marked .dryers) s
  | .link => occur Src.tableCommitted noSubject s
  | .filters => occur Src.tableCommitted noSubject s
  | .events => occur Src.tableCommitted noSubject s
  | .runs => s
  | .station => s
  | .shippers => s

/-- The image of a completed commit takes effect, or becomes pending (R204). -/
def takeImage (t : TableId) (img : StoredImage) (s : State) : State :=
  if t.immediate then ownerActs t s (installImage t img s) else makePending t img s

/-- The image of a load as the retained store holds it (R210). -/
def Load.image (l : Load) : StoredImage := ⟨l.octets, l.length, l.crc⟩

/-- What LOAD_COMMIT's response carries: took effect 0, pending 1. -/
def commitResult (t : TableId) : List Octet := be 1 (if t.immediate then 0 else 1)

/-- The commit completes (R204). -/
def completeCommit (q : Request) (l : Load) (s : State) : State :=
  answerRequest q .ok (commitResult l.table) (takeImage l.table l.image (setLoad none s))

/-- A commit is refused (R204); the load stays open. -/
def refuseCommit (q : Request) (l : Load) (f : Finding) (s : State) : State :=
  match f with
  | .incomplete => answerRequest q .incomplete (be 2 l.writtenCount) s
  | .checkFailed => answerRequest q .checkFailed [] s
  | .invalid i => answerRequest q .invalidTable (be 1 i) (l.useNamed s)
  | .guarded => answerRequest q .isProtected [] (occur Src.tableProtected noSubject (l.useNamed s))
  | .sound => s

/-- LOAD_COMMIT (R204): without a load it is refused at once; otherwise the commit begins and the request stays in
service. -/
def execLoadCommit (s : State) : Answer :=
  match s.requestFor 0x52 with
  | none => .next s
  | some q =>
    if !q.wellSized then .next (answerRequest q .badArgument [] s)
    else if s.mgmt.load.isNone then .next (answerRequest q .noLoad [] s)
    else .next { s with mgmt := { s.mgmt with service := some (.committing q) } }

/-- The commit in flight and its load. -/
def State.commitInFlight (s : State) : Option (Request × Load) :=
  match s.mgmt.service, s.mgmt.load with
  | some (.committing q), some l => some (q, l)
  | _, _ => none

/-- COMMIT_COMPLETE (R204): acts on a commit in flight whose image passes the four checks. -/
def execCommitComplete (s : State) : Answer :=
  .next
    (match s.commitInFlight with
      | some (q, l) => if s.checkLoad l = .sound then completeCommit q l (l.useNamed s) else s
      | none => s)

/-- COMMIT_REFUSED (R204): acts on a commit in flight whose image fails a check. -/
def execCommitRefused (s : State) : Answer :=
  .next
    (match s.commitInFlight with
      | some (q, l) => refuseCommit q l (s.checkLoad l) s
      | none => s)

/-- CUSTODY_LINE_CHANGE (R207). -/
def execCustodyLineChange (asserted : Bool) (s : State) : Answer := .next { s with custody := asserted }

end Sys2Proof.Machine
end

