-- ==== Sys2Proof/Machine/System.lean ====
section
/-!
DEFINITION. READ_STATUS (spec/05 R100, spec/10 R199), RESTART (R201) and the power-on reset (R212).
-/

namespace Sys2Proof.Machine

/-! ### READ_STATUS (R100, R199) -/

def Lineup.code : Lineup → Nat
  | .shut => 0
  | .inject => 1
  | .withdraw => 2
  | .moving => 3

/-- The state of the Time and Mode Controller (R100). DESIGN CHOICE, unsafe (log entry 86): the remaining times of its timers
are in milliseconds. -/
def State.timeStatus (s : State) : List Octet :=
  be 6 s.time.count ++ beFlag s.time.unset ++ beOpt 6 (if s.time.unset then none else some s.time.start) ++
    beOpt 7 s.time.next ++ beOpt 3 s.position ++ beFlag s.time.stepFlag ++ beFlag s.time.firstFlag ++ be 1 s.lMin ++
    beFlag s.ret.pendStation.isSome ++ s.mode.mode.result ++ beFlag s.mode.esd ++
    beOpt 1 (s.mode.lineup.map Lineup.code) ++ beFlag s.mode.flag ++ beOpt 4 (remainingMs s.now s.mode.tRundown) ++
    beOpt 4 (remainingMs s.now s.mode.tQuiet) ++ beOpt 4 (remainingMs s.now s.mode.tLineup)

/-- An open load: table, image length, octets written, CRC (R199). DESIGN CHOICE, unsafe (log entry 95): the octet that shows
whether a load is open is the one presence octet of the four fields, which are 00h when none is open. -/
def loadStatus : Option Load → List Octet
  | none => 0 :: be 7 0
  | some l => 1 :: be 1 l.table.code ++ be 2 l.length ++ be 2 l.writtenCount ++ be 2 l.crc.toNat

/-- A commit is in service. -/
def State.committing (s : State) : Bool :=
  match s.mgmt.service with
  | some (.committing _) => true
  | some (.taken _) => false
  | some (.holding _) => false
  | none => false

/-- One table: committed image in effect, image pending, entries with a mark (R199). DESIGN CHOICE, unsafe (log entry 85): the
pending flag stands for each of the ten tables, 0 for the seven that hold no pending image. -/
def State.tableStatus (s : State) (t : TableId) : List Octet :=
  beFlag (s.ret.committed.get t).isSome ++ beFlag (s.ret.pendingOf t).isSome ++
    be 1 ((s.parity.get t).countP (·.mark))

/-- The items of R199 after those of R100. -/
def State.partStatus (s : State) : List Octet :=
  be 1 s.link.upQ.length ++ be 1 s.link.downQ.length ++ be 1 s.own.length ++ be 1 s.resp.length ++
    beFlag s.tables.link.extended ++ be 1 s.mgmt.waiting.length ++ loadStatus s.mgmt.load ++ beFlag s.committing ++
    (TableId.all.map s.tableStatus).flatten ++ beFlag s.custody ++ be 3 s.comp.published ++ be 3 s.dry.total ++
    be 3 s.capInj ++ be 3 s.capWd ++ be 1 s.engineCode ++ be 4 s.ret.lastInterval ++ be 1 s.pendingCloses ++
    be 1 s.ev.alerts.length ++ be 1 (s.ev.recs.countP (·.latch)) ++ beFlag s.mgmt.bootBad

def readStatus (_ : List Octet) (s : State) : Reply := ⟨.ok, s.timeStatus ++ s.partStatus, s⟩

/-- READ_STATUS (R199). -/
def execReadStatus (s : State) : Answer := serve 0x01 readStatus s

/-! ### RESTART (R201) -/

/-- The link after a field restart (R18). -/
def linkRestart (s : State) : State :=
  { s with own := [], resp := [], link := { s.link with ownRunF := 0, ownRunS := 0 } }

/-- The Management Engine after a field restart (R201, R203). -/
def mgmtRestart (s : State) : State := { s with mgmt := { s.mgmt with waiting := [], load := none } }

/-- Every block takes its field restart state, before the capacity notices (R201). -/
def restartBlocks (s : State) : State :=
  mgmtRestart
    (dryReset (compRestart (modeReset s.mode.flag (runsRestart (samplingReset (directoryReset (linkRestart (eventsReset s))))))))

/-- The field restart with the notices of both capacities (R131, R155, R201). -/
def fieldRestart (s : State) : State := acctDrying 0 (acctCompressor 0 (restartBlocks s))

/-- RESTART (R201). -/
def restart (_ : List Octet) (s : State) : Reply := ⟨.ok, [], fieldRestart s⟩

/-- RESTART (R201). -/
def execRestart (s : State) : Answer := serve 0x48 restart s

/-! ### The power-on reset (R212) -/

/-- A retained image agrees with its stored length and CRC (R212). -/
def StoredImage.sound (i : StoredImage) : Bool :=
  decide (i.octets.length = i.length) && decide (crc16 i.octets = i.crc)

/-- An image that fails its check is discarded (R212). -/
def keepSound (i : Option StoredImage) : Option StoredImage := i.filter StoredImage.sound

/-- 1 for an image that fails its check. -/
def unsound (i : Option StoredImage) : Nat :=
  match i with
  | none => 0
  | some i => if i.sound then 0 else 1

/-- The retained store after the check of its images (R212). -/
def Retained.checked (r : Retained) : Retained :=
  { r with
    committed := TableId.all.foldl (fun c t => c.put t (keepSound (r.committed.get t))) r.committed
    pendRuns := keepSound r.pendRuns
    pendStation := keepSound r.pendStation
    pendShippers := keepSound r.pendShippers }

/-- How many retained images fail their check (R212). -/
def Retained.failures (r : Retained) : Nat :=
  (TableId.all.map fun t => unsound (r.committed.get t)).sum + unsound r.pendRuns + unsound r.pendStation +
    unsound r.pendShippers

/-- The tables in effect of a retained store: committed images, and defaults for the rest (R212). -/
def Committed.tables (c : Committed) : Tables :=
  TableId.all.foldl (fun ts t => match c.get t with
    | some i => ts.load t i.octets
    | none => ts) Tables.initial

/-- Every block in its power-on state with its retained content (R212); what waits in the model's queue, the custody
line's level and the free-value counter are not the reset's. -/
def powerOnBlocks (s : State) : State :=
  let ret := s.ret.checked
  compPowerOn (samplingReset (runsPowerOn
    { State.reset with
      pending := s.pending
      custody := s.custody
      free := s.free
      ret := ret
      tables := ret.committed.tables
      mgmt := { State.reset.mgmt with bootBad := decide (0 < s.ret.failures) } }))

/-- POWER_ON_RESET (R212): TABLE_PARITY once for each image that failed. -/
def execPowerOnReset (s : State) : Answer :=
  .next (Nat.repeat (occur Src.tableParity noSubject) s.ret.failures (powerOnBlocks s))

end Sys2Proof.Machine
end

