-- ==== Sys2Proof/Machine/Clock.lean ====
section
/-!
DEFINITION. One millisecond of elapsed time: the clocks and counters that advance (spec/05 R84, spec/06 R130, spec/07
R139, R146, R147) and the events that are then due, in a fixed order (log entry 2).
-/

namespace Sys2Proof.Machine

/-! ### What a millisecond advances -/

/-- One ms with the unit PRESENT and its last report RUNNING (R130). -/
def CompRec.accrue (r : CompRec) : CompRec :=
  if r.runMs < 999 then { r with runMs := r.runMs + 1 }
  else { r with runMs := 0, runSec := min 4294967295 (r.runSec + 1) }

/-- The record's run seconds accrue (R130). DESIGN CHOICE, unsafe (log entry 83): whatever class a UNITS commit has given the
record's unit entry since its last report. -/
def State.accrues (s : State) (k : Nat) (r : CompRec) : Bool :=
  s.compInUse k && s.present r.entry && decide (r.lastReport = some .running)

/-- The bed is the outgoing bed of the switch in flight. -/
def Train.leaving (t : Train) (x : BedId) : Bool :=
  match t.switch with
  | some op => decide (op.outgoing = some x)
  | none => false

/-- One ms on a bed's timer (R139, R146, R147). -/
def Bed.advance (adsorbs : Bool) (adsorbMax : Nat) (x : Bed) : Bed :=
  match x.state with
  | .adsorbing =>
    if adsorbs && !x.adsorbDone && decide (x.adsorbMs < adsorbMax * Config.second) then
      { x with adsorbMs := x.adsorbMs + 1 }
    else x
  | .heating => { x with heatMs := x.heatMs + 1 }
  | .cooling => { x with coolMs := x.coolMs + 1 }
  | .unsynced => x
  | .standby => x
  | .releasing => x
  | .outOfService => x

/-- One ms on a train that is not HELD. -/
def Train.advance (withdrawing : Bool) (adsorbMax : Nat) (t : Train) : Train :=
  if t.held then t
  else
    { t with
      bedA := t.bedA.advance (withdrawing && !t.leaving .a) adsorbMax
      bedB := t.bedB.advance (withdrawing && !t.leaving .b) adsorbMax
      bedC := t.bedC.advance (withdrawing && !t.leaving .c) adsorbMax }

/-- The stale timer of a run with a parity mark holds as it is (R74). -/
def RunState.holdTimer (marked : Bool) (x : RunState) : RunState :=
  if marked then { x with refTimer := x.refTimer.map (· + 1) } else x

/-- One millisecond passes. -/
def advance (s : State) : State :=
  { s with
    now := s.now + 1
    time := { s.time with count := s.time.count + 1 }
    comp := { s.comp with recs := s.comp.recs.mapIdx fun k r => if s.accrues k r then r.accrue else r }
    dry := { s.dry with trains := s.dry.trains.mapIdx fun i t => t.advance s.withdrawing (s.dryerCfg i).adsorbMax }
    runs := s.runs.mapIdx fun r x => x.holdTimer (s.marked .runs r) }

/-! ### What is then due -/

/-- The commands of a list of candidates whose condition holds. -/
def dueOf {α : Type} (l : List α) (p : α → Bool) (f : α → Instr) : List Instr := (l.filter p).map f

/-- One command when its condition holds. -/
def dueIf (p : Bool) (c : Instr) : List Instr := if p then [c] else []

/-- The heat timer stands at or beyond the heat maximum time. -/
def State.heatMaxReached (s : State) (i : Nat) (x : BedId) : Bool :=
  !(s.train i).held && decide (((s.train i).bed x).state = .heating) &&
    decide ((s.dryerCfg i).heatMax * Config.second ≤ ((s.train i).bed x).heatMs)

/-- The row of a request (R196, R215). -/
def requestRow (q : Request) : Instr :=
  if q.unknown then .unknownRequest
  else
    match q.code.toNat with
    | 0x01 => .readStatus
    | 0x02 => .readChannel
    | 0x03 => .readPeaks
    | 0x04 => .readRun
    | 0x05 => .readUnit
    | 0x06 => .readCompressor
    | 0x07 => .readDryer
    | 0x08 => .readShipper
    | 0x09 => .readClose
    | 0x0A => .readEvents
    | 0x0B => .readTable
    | 0x10 => .setTime
    | 0x11 => .setMode
    | 0x18 => .rotate
    | 0x19 => .resetUnit
    | 0x1A => .setUnitManual
    | 0x1B => .setUnitAuto
    | 0x20 => .releaseUnit
    | 0x28 => .holdTrain
    | 0x29 => .resumeTrain
    | 0x2A => .forceSwitch
    | 0x2B => .returnBed
    | 0x30 => .sweep
    | 0x38 => .nominate
    | 0x39 => .transfer
    | 0x40 => .clearEvents
    | 0x41 => .forceEvent
    | 0x48 => .restart
    | 0x50 => .loadBegin
    | 0x51 => .loadData
    | 0x52 => .loadCommit
    | 0x53 => .loadAbort
    | _ => .unknownRequest

/-- Station time has passed its last count (R84). -/
def State.dueWrap (s : State) : List Instr := dueIf (decide (Config.timeModulus ≤ s.time.count)) .timeWrap

/-- The boundary of the moment (R87). A request that is due in its millisecond comes after it (R85, log entry 2). -/
def State.dueBoundary (s : State) : List Instr := dueIf s.boundaryDue .boundary

/-- Unit silence, channels and reference stale timers. -/
def State.dueTime (s : State) : List Instr :=
  dueOf (List.range 48) (fun i => fires s.now (s.unit i).silence) .silenceTimeout ++
    dueOf (List.range 64) (fun ch => fires s.now (s.chan ch).intervalUntil) .intervalTimerExpiry ++
    dueOf (List.range 64) s.ageDue .ageTimerExpiry ++ dueIf (fires s.now s.engine.sweepDue) .sweepPeriodExpiry ++
    dueIf (s.engine.serving.isNone && !s.waitingSet.isEmpty) .engineSelect ++
    dueOf (List.range 8) (fun r => fires s.now (s.run r).refTimer && !s.marked .runs r) .refStaleTimerExpiry

/-- Mode machine and compressors. -/
def State.dueDuty (s : State) : List Instr :=
  dueIf (fires s.now s.mode.tQuiet) .quietDwellExpiry ++ dueIf (fires s.now s.mode.tRundown) .rundownTimerExpiry ++
    dueIf (fires s.now s.mode.tLineup) .lineupTimerExpiry ++
    dueOf (List.range 6) (fun k => fires s.now (s.compRec k).tStart) .startConfirmExpiry ++
    dueOf (List.range 6) (fun k => fires s.now (s.compRec k).tMinRun) .minimumRunExpiry ++
    dueOf (List.range 6) (fun k => fires s.now (s.compRec k).tStop) .stopConfirmExpiry ++
    dueOf (List.range 6) (fun k => fires s.now (s.compRec k).tCool) .cooldownExpiry ++
    dueOf (List.range 6) s.markDue .startMarkAgeout

/-- The trains with their beds. -/
def trainBeds : List (Nat × BedId) := (List.range 2).flatMap fun i => allBeds.map fun x => (i, x)

/-- Dryers. -/
def State.dueDrying (s : State) : List Instr :=
  dueOf (List.range 2) s.adsorbDue .adsorbLimitExpiry ++
    dueOf (List.range 2) (fun i => (s.valveDue i .opening).isSome) .openingValveTimeout ++
    dueOf (List.range 2) (fun i => (s.valveDue i .releasing).isSome) .releasingValveTimeout ++
    dueOf trainBeds (fun p => s.heatDue p.1 p.2) (fun p => .heatTimeReached p.1 p.2) ++
    dueOf trainBeds (fun p => s.heatMaxReached p.1 p.2) (fun p => .heatShort p.1 p.2) ++
    dueOf trainBeds (fun p => s.coolDue p.1 p.2) (fun p => .coolTimerExpiry p.1 p.2)

/-- The request in service (R196). -/
def State.dueRequest (s : State) : List Instr := s.inService.toList.map requestRow

/-- The arbiters. -/
def State.dueLink (s : State) : List Instr := dueIf s.portSReady .portSSelect ++ dueIf s.portFReady .portFSelect

/-- The events due in a state: the wrap of station time, the boundary, the request in service, then the others of the
moment just reached (log entry 2). -/
def State.due (s : State) : List Instr :=
  s.dueWrap ++ s.dueBoundary ++ s.dueRequest ++ s.dueTime ++ s.dueDuty ++ s.dueDrying ++ s.dueLink

/-- One millisecond passes and the events then due wait to be taken (log entry 2). -/
def tick (s : State) : State := { advance s with pending := (advance s).due }

end Sys2Proof.Machine
end

