-- ==== Sys2Proof/Machine/Dispatch.lean ====
section
/-! DEFINITION. The command a constructor stands for: one direct call of its meaning each. -/

namespace Sys2Proof.Machine

def exec (i : Instr) (s : State) : Host.Outcome State Fault Refusal :=
  match i with
  | .powerOnReset => Sys2Proof.Machine.execPowerOnReset s
  | .custodyLineChange asserted => Sys2Proof.Machine.execCustodyLineChange asserted s
  | .frameArrivalPortF run => Sys2Proof.Machine.execFrameArrivalPortF run s
  | .frameArrivalPortS run => Sys2Proof.Machine.execFrameArrivalPortS run s
  | .portSSelect => Sys2Proof.Machine.execPortSSelect s
  | .portSTransmitEnd => Sys2Proof.Machine.execPortSTransmitEnd s
  | .portFSelect => Sys2Proof.Machine.execPortFSelect s
  | .portFTransmitEnd => Sys2Proof.Machine.execPortFTransmitEnd s
  | .silenceTimeout entry => Sys2Proof.Machine.execSilenceTimeout entry s
  | .releaseUnit => Sys2Proof.Machine.execReleaseUnit s
  | .readUnit => Sys2Proof.Machine.execReadUnit s
  | .intervalTimerExpiry channel => Sys2Proof.Machine.execIntervalTimerExpiry channel s
  | .custodyConditioningDone channel => Sys2Proof.Machine.execCustodyConditioningDone channel s
  | .engineSelect => Sys2Proof.Machine.execEngineSelect s
  | .engineConditioningDone => Sys2Proof.Machine.execEngineConditioningDone s
  | .ageTimerExpiry channel => Sys2Proof.Machine.execAgeTimerExpiry channel s
  | .sweepPeriodExpiry => Sys2Proof.Machine.execSweepPeriodExpiry s
  | .sweep => Sys2Proof.Machine.execSweep s
  | .readChannel => Sys2Proof.Machine.execReadChannel s
  | .readPeaks => Sys2Proof.Machine.execReadPeaks s
  | .refStaleTimerExpiry run => Sys2Proof.Machine.execRefStaleTimerExpiry run s
  | .readRun => Sys2Proof.Machine.execReadRun s
  | .boundary => Sys2Proof.Machine.execBoundary s
  | .timeWrap => Sys2Proof.Machine.execTimeWrap s
  | .setTime => Sys2Proof.Machine.execSetTime s
  | .setMode => Sys2Proof.Machine.execSetMode s
  | .lineupTimerExpiry => Sys2Proof.Machine.execLineupTimerExpiry s
  | .rundownTimerExpiry => Sys2Proof.Machine.execRundownTimerExpiry s
  | .quietDwellExpiry => Sys2Proof.Machine.execQuietDwellExpiry s
  | .readStatus => Sys2Proof.Machine.execReadStatus s
  | .startConfirmExpiry compressor => Sys2Proof.Machine.execStartConfirmExpiry compressor s
  | .minimumRunExpiry compressor => Sys2Proof.Machine.execMinimumRunExpiry compressor s
  | .stopConfirmExpiry compressor => Sys2Proof.Machine.execStopConfirmExpiry compressor s
  | .cooldownExpiry compressor => Sys2Proof.Machine.execCooldownExpiry compressor s
  | .startMarkAgeout compressor => Sys2Proof.Machine.execStartMarkAgeout compressor s
  | .resetUnit => Sys2Proof.Machine.execResetUnit s
  | .setUnitAuto => Sys2Proof.Machine.execSetUnitAuto s
  | .setUnitManual => Sys2Proof.Machine.execSetUnitManual s
  | .rotate => Sys2Proof.Machine.execRotate s
  | .readCompressor => Sys2Proof.Machine.execReadCompressor s
  | .adsorbLimitExpiry train => Sys2Proof.Machine.execAdsorbLimitExpiry train s
  | .openingValveTimeout train => Sys2Proof.Machine.execOpeningValveTimeout train s
  | .releasingValveTimeout train => Sys2Proof.Machine.execReleasingValveTimeout train s
  | .heatTimeReached train bed => Sys2Proof.Machine.execHeatTimeReached train bed s
  | .heatShort train bed => Sys2Proof.Machine.execHeatShort train bed s
  | .coolTimerExpiry train bed => Sys2Proof.Machine.execCoolTimerExpiry train bed s
  | .holdTrain => Sys2Proof.Machine.execHoldTrain s
  | .resumeTrain => Sys2Proof.Machine.execResumeTrain s
  | .forceSwitch => Sys2Proof.Machine.execForceSwitch s
  | .returnBed => Sys2Proof.Machine.execReturnBed s
  | .readDryer => Sys2Proof.Machine.execReadDryer s
  | .nominate => Sys2Proof.Machine.execNominate s
  | .closeComplete => Sys2Proof.Machine.execCloseComplete s
  | .transfer => Sys2Proof.Machine.execTransfer s
  | .readShipper => Sys2Proof.Machine.execReadShipper s
  | .readClose => Sys2Proof.Machine.execReadClose s
  | .clearEvents => Sys2Proof.Machine.execClearEvents s
  | .forceEvent => Sys2Proof.Machine.execForceEvent s
  | .readEvents => Sys2Proof.Machine.execReadEvents s
  | .readTable => Sys2Proof.Machine.execReadTable s
  | .restart => Sys2Proof.Machine.execRestart s
  | .unknownRequest => Sys2Proof.Machine.execUnknownRequest s
  | .loadBegin => Sys2Proof.Machine.execLoadBegin s
  | .loadData => Sys2Proof.Machine.execLoadData s
  | .loadAbort => Sys2Proof.Machine.execLoadAbort s
  | .loadCommit => Sys2Proof.Machine.execLoadCommit s
  | .commitComplete => Sys2Proof.Machine.execCommitComplete s
  | .abortDelimiter abort => Sys2Proof.Machine.execAbortDelimiter abort s
  | .commitRefused => Sys2Proof.Machine.execCommitRefused s

end Sys2Proof.Machine
end

