-- ==== Sys2Proof/Safety.lean ====
section
/-!
DEFINITION. What a sound state of the GS-410 is, rule by rule, in the terms the claims use: sizes, bounded queues, the
alert queue's order, the own-command queue, meter residues, dryer beds, the mode machine with what the blocks were
told of it, duty timers, confirmed amounts, and the energy on the accounts. Below them, the words in which a claim
about a management request is stated.
-/

namespace Sys2Proof.Machine

/-! ### Sizes (spec/00, "Capacities") -/

/-- Entries per table in a parity record. -/
abbrev Parity.Sized (p : Parity) : Prop :=
  p.link.length = 5 ∧ p.units.length = 48 ∧ p.channels.length = 64 ∧ p.filters.length = 7 ∧ p.runs.length = 8 ∧
    p.station.length = 1 ∧ p.compressors.length = 6 ∧ p.dryers.length = 2 ∧ p.shippers.length = 32 ∧
    p.events.length = 48

/-- Entries per table in effect. -/
abbrev Tables.Sized (t : Tables) : Prop :=
  t.link.own.length = 4 ∧ t.units.length = 48 ∧ t.channels.length = 64 ∧ t.filters.length = 7 ∧ t.runs.length = 8 ∧
    t.compressors.length = 6 ∧ t.dryers.length = 2 ∧ t.shippers.length = 32 ∧ t.events.length = 48

/-- Every list of the state with a fixed number of entries has that number. -/
abbrev State.Sized (s : State) : Prop :=
  s.parity.Sized ∧ s.tables.Sized ∧ s.units.length = 48 ∧ s.chans.length = 64 ∧ s.runs.length = 8 ∧
    (∀ x ∈ s.runs, x.slots.length = 4) ∧ s.comp.recs.length = 6 ∧ s.dry.trains.length = 2 ∧
    s.acct.slots.length = 32 ∧ s.ev.recs.length = 48

/-! ### Queues (R5, R9, R11, R15, R16, R17, R177, R196) -/

/-- No queue holds more than it has places, no request waits while none is in service, and no count of own frames passes
3. -/
abbrev State.QueuesOk (s : State) : Prop :=
  s.link.upQ.length ≤ 32 ∧ s.link.downQ.length ≤ 8 ∧ s.resp.length ≤ 2 ∧ s.mgmt.waiting.length ≤ 2 ∧
    (s.mgmt.service = none → s.mgmt.waiting = []) ∧ s.link.ownRunF ≤ 3 ∧ s.link.ownRunS ≤ 3 ∧ s.ret.history.length ≤ 8

/-- The alert queue: at most 32 entries, at most one per source, highest priority first (R188). -/
abbrev State.AlertsOk (s : State) : Prop :=
  s.ev.alerts.length ≤ 32 ∧ (s.ev.alerts.map (·.source)).Nodup ∧
    s.ev.alerts.Pairwise (fun a b => a.priority ≤ b.priority)

/-- The own-command queue: at most one unsent entry for a target and sort, and each entry of its command's sort
(R12). -/
abbrev State.OwnOk (s : State) : Prop :=
  (s.own.map fun e => (e.target, e.sort)).Nodup ∧ ∀ e ∈ s.own, e.sort = e.command.sort

/-! ### Meter runs (R79) -/

/-- The residues and carries of every run lie in their ranges (R79). -/
abbrev State.MeterOk (s : State) : Prop :=
  ∀ x ∈ s.runs, x.rV < 360 ∧ x.rE < 1000 ∧ ∀ a ∈ x.slots, a.carry < 3600000

/-! ### Dryer trains (R134, R140) -/

/-- At most one bed is ADSORBING and every STANDBY bed has loading 0 (R134). -/
abbrev Train.BedsOk (t : Train) : Prop :=
  (∀ x ∈ allBeds, ∀ y ∈ allBeds, (t.bed x).state = .adsorbing → (t.bed y).state = .adsorbing → x = y) ∧
    ∀ x ∈ allBeds, (t.bed x).state = .standby → (t.bed x).loading = 0

/-- In the OPENING phase the incoming bed is STANDBY and the outgoing bed is the ADSORBING one, or none (R140). -/
abbrev Train.SwitchOk (t : Train) : Prop :=
  ∀ op ∈ t.switch, op.phase = .opening → (t.bed op.incoming).state = .standby ∧ op.outgoing = t.adsorbing

/-- Every train's beds and switch are sound. -/
abbrev State.BedsOk (s : State) : Prop := ∀ t ∈ s.dry.trains, t.BedsOk ∧ t.SwitchOk

/-! ### The mode machine and what the blocks were told (R90 to R96, R99, R120, R123, R139, R158, R165) -/

/-- The mode is TRANSITION in this phase. -/
def Mode.inPhase : Mode → Phase → Bool
  | .transition _ p, q => decide (p = q)
  | _, _ => false

/-- ESD active means SHUT_IN; each timer of the mode machine runs only in the phase it belongs to. -/
abbrev State.ModeOk (s : State) : Prop :=
  (s.mode.esd = true → s.mode.mode = .shutIn) ∧ (s.mode.tLineup.isSome = true → s.mode.mode.inPhase .lineup = true) ∧
    (s.mode.tRundown.isSome = true → s.mode.mode.inPhase .rundown = true) ∧
    (s.mode.tQuiet.isSome = true → s.mode.mode.inPhase .rundown = true)

/-- The controllers hold the mode, the ESD state and the compression flag in force, and the capacities and sums last
told agree on both sides. -/
abbrev State.ToldOk (s : State) : Prop :=
  s.comp.heldMode = s.mode.mode ∧ s.comp.heldEsd = s.mode.esd ∧ s.comp.heldFlag = s.mode.flag ∧
    s.dry.heldMode = s.mode.mode ∧ s.acct.flag = s.mode.flag ∧ s.acct.compCap = s.comp.published ∧
    s.acct.dryCap = s.dry.total ∧ s.comp.injTotal = s.acct.toldInj ∧ s.comp.wdTotal = s.acct.toldWd

/-! ### Duty records (R108 to R113) -/

/-- Each timer of a record runs only in its duty state. -/
abbrev CompRec.TimersOk (r : CompRec) : Prop :=
  (r.tStart.isSome = true → r.state = .starting) ∧ (r.tStop.isSome = true → r.state = .unloading) ∧
    (r.tMinRun.isSome = true → r.state = .running) ∧ (r.tCool.isSome = true → r.state = .cooldown)

/-- The ranges of a record's counts (R103) with its timers. -/
abbrev CompRec.Ok (r : CompRec) : Prop :=
  r.TimersOk ∧ r.marks.length ≤ 8 ∧ r.failures ≤ 2 ∧ r.runSec ≤ 4294967295 ∧ r.runMs < 1000

/-- Every duty record is sound, and so are the run seconds in the retained store (R130). -/
abbrev State.DutyOk (s : State) : Prop := (∀ r ∈ s.comp.recs, r.Ok) ∧ ∀ v ∈ s.ret.runSeconds, v ≤ 4294967295

/-! ### Accounts (R163, R173) -/

/-- The right of a shipper in a direction. -/
def ShipperCfg.right (c : ShipperCfg) : Dir → Nat
  | .inject => c.injRight
  | .withdraw => c.wdRight

/-- The confirmed amounts of each direction fit its capacity; none exceeds its request, and no request its rate right
(R163). -/
abbrev State.ConfirmedOk (s : State) : Prop :=
  s.confirmedSum .inject ≤ s.capInj ∧ s.confirmedSum .withdraw ≤ s.capWd ∧
    ∀ i < 32, (s.slot i).conf ≤ (s.slot i).req ∧ (s.slot i).req ≤ s.perInterval ((s.shipper i).right (s.slot i).dir)

/-- All shipper inventories and the OBA together (R173). -/
def Retained.energy (r : Retained) : Int := (r.inventories.sum : Int) + r.oba

/-! ### Management requests (R5, R14, R15, R196 to R198) -/

/-- The request in service is `q` with this code and these arguments, still to be carried out and to be answered, and the
response queue has a place. -/
abbrev State.Asks (s : State) (q : Request) (code : Octet) (args : List Octet) : Prop :=
  s.mgmt.service = some (.taken q) ∧ q.payload = code :: args ∧ q.noResponse = false ∧ s.resp.length < 2

/-- The state with its request answered by one more response, and the oldest waiting request, if there is one, in service
in its place (R196). -/
def State.answered (s : State) (q : Request) (status : Status) (result : List Octet) : State :=
  { s with
    resp := s.resp ++ [responseTo q status result]
    mgmt := { s.mgmt with waiting := s.mgmt.waiting.tail, service := s.mgmt.waiting.head?.map .taken } }

end Sys2Proof.Machine

namespace Sys2Proof

/-- The codes of the rows that are requests (R215). -/
def Instr.requestCode : Instr → Option Octet
  | .readStatus => some 0x01
  | .readChannel => some 0x02
  | .readPeaks => some 0x03
  | .readRun => some 0x04
  | .readUnit => some 0x05
  | .readCompressor => some 0x06
  | .readDryer => some 0x07
  | .readShipper => some 0x08
  | .readClose => some 0x09
  | .readEvents => some 0x0A
  | .readTable => some 0x0B
  | .setTime => some 0x10
  | .setMode => some 0x11
  | .rotate => some 0x18
  | .resetUnit => some 0x19
  | .setUnitManual => some 0x1A
  | .setUnitAuto => some 0x1B
  | .releaseUnit => some 0x20
  | .holdTrain => some 0x28
  | .resumeTrain => some 0x29
  | .forceSwitch => some 0x2A
  | .returnBed => some 0x2B
  | .sweep => some 0x30
  | .nominate => some 0x38
  | .transfer => some 0x39
  | .clearEvents => some 0x40
  | .forceEvent => some 0x41
  | .restart => some 0x48
  | .loadBegin => some 0x50
  | .loadData => some 0x51
  | .loadCommit => some 0x52
  | .loadAbort => some 0x53
  | _ => none

end Sys2Proof
end

