-- ==== Sys2Proof/Certificates/Slice0/Obligations.lean ====
section
/-!
DEFINITION. The statements for the provers. `Asks`, `answered`, `requestCode` and the invariants named here are in
Safety.lean. A row that is a request acts on the request in service (log entry 1).
-/

open Sys2Proof Sys2Proof.Machine

/-! ### The machine as a whole -/

/-- A step carries out the command at the front of the queue, on the state with the queue's rest. -/
def Obligations.StepRunsFrontCommand : Prop :=
  ∀ (s : State) (c : Instr) (rest : List Instr), s.pending = c :: rest → step s = exec c { s with pending := rest }

/-- On an empty queue one millisecond passes (the model's choice, log entry 2). Station time advances (R84). A record
in use whose unit is PRESENT and last reported RUNNING counts the millisecond, a full second joining its run seconds
(R130; whatever class the unit entry has got, log entry 83). On a train that is not HELD a bed's adsorb timer counts
in WITHDRAW while the bed is ADSORBING, is not the outgoing bed of a switch and has not reached its limit (R139), its
heat timer in HEATING and its cool timer in COOLING (R146, R147); a HELD train's stand (R148). The reference stale
timer of a run under a parity mark stands still (R74; that the timer is held so is the model's reading, log entry 53).
Nothing else changes, but that the events then due wait, every one of them well formed: the wrap of station time, the
boundary, the request in service by its code (R215), each timer that has reached its end or its limit, the oldest
marks whose age has reached the window (R108), the engine with a free place and a waiting channel (R43), and the
arbiters with a free transmitter and a frame to send (R16, R17). The order in which they wait is the model's choice
(log entry 2). -/
def Obligations.EmptyQueuePassesMillisecond : Prop :=
  ∀ s : State, s.pending = [] → ∃ t, step s = .next t ∧
    t = { s with
      now := s.now + 1
      time := { s.time with count := s.time.count + 1 }
      comp := { s.comp with recs := t.comp.recs }
      dry := { s.dry with trains := t.dry.trains }
      runs := t.runs
      pending := t.pending } ∧
    (∀ k < s.comp.recs.length,
      let r := s.compRec k
      let counts := (s.compCfg k).inUse = true ∧ (s.unit r.entry).attach = .present ∧ r.lastReport = some .running
      (counts → r.runMs < 999 → t.compRec k = { r with runMs := r.runMs + 1 }) ∧
      (counts → 999 ≤ r.runMs → t.compRec k = { r with runMs := 0, runSec := min 4294967295 (r.runSec + 1) }) ∧
      (¬counts → t.compRec k = r)) ∧
    (∀ i < s.dry.trains.length,
      let x := s.train i
      let aged (bd : BedId) : Bed :=
        let z := x.bed bd
        let counts : Bool := decide (z.state = .adsorbing) && decide (s.dry.heldMode = .withdraw) &&
          !(x.switch.any fun op => decide (op.outgoing = some bd)) && !z.adsorbDone &&
          decide (z.adsorbMs < (s.dryerCfg i).adsorbMax * 1000)
        { z with
          adsorbMs := if counts then z.adsorbMs + 1 else z.adsorbMs
          heatMs := if z.state = .heating then z.heatMs + 1 else z.heatMs
          coolMs := if z.state = .cooling then z.coolMs + 1 else z.coolMs }
      (x.held = true → t.train i = x) ∧
      (x.held = false → t.train i = { x with bedA := aged .a, bedB := aged .b, bedC := aged .c })) ∧
    (∀ r < s.runs.length,
      (s.marked .runs r = true → t.run r = { s.run r with refTimer := (s.run r).refTimer.map (· + 1) }) ∧
      (s.marked .runs r = false → t.run r = s.run r)) ∧
    (let one (p : Bool) (c : Instr) : List Instr := if p then [c] else []
     let each (n : Nat) (p : Nat → Bool) (f : Nat → Instr) : List Instr := ((List.range n).filter p).map f
     let beds (p : Nat → Bed → Bool) (f : Nat → BedId → Instr) : List Instr :=
       (([(0, .a), (0, .b), (0, .c), (1, .a), (1, .b), (1, .c)] : List (Nat × BedId)).filter fun e =>
         !(t.train e.1).held && p e.1 ((t.train e.1).bed e.2)).map fun e => f e.1 e.2
     let by_ (timer : Option Nat) : Bool := timer.any fun e => decide (e ≤ t.now)
     let valve (ph : SwitchPhase) (i : Nat) : Bool :=
       (t.train i).switch.any fun op => decide (op.phase = ph) && decide (op.valve ≤ t.now)
     let rows : List (Nat × Instr) := [(0x01, .readStatus), (0x02, .readChannel), (0x03, .readPeaks), (0x04, .readRun),
       (0x05, .readUnit), (0x06, .readCompressor), (0x07, .readDryer), (0x08, .readShipper), (0x09, .readClose),
       (0x0A, .readEvents), (0x0B, .readTable), (0x10, .setTime), (0x11, .setMode), (0x18, .rotate), (0x19, .resetUnit),
       (0x1A, .setUnitManual), (0x1B, .setUnitAuto), (0x20, .releaseUnit), (0x28, .holdTrain), (0x29, .resumeTrain),
       (0x2A, .forceSwitch), (0x2B, .returnBed), (0x30, .sweep), (0x38, .nominate), (0x39, .transfer),
       (0x40, .clearEvents), (0x41, .forceEvent), (0x48, .restart), (0x50, .loadBegin), (0x51, .loadData),
       (0x52, .loadCommit), (0x53, .loadAbort)]
     let asked : List Instr := match t.mgmt.service with
       | some (.taken q) =>
         [((rows.find? fun p => decide (p.1 = q.code.toNat)).map Prod.snd).getD .unknownRequest]
       | _ => []
     t.pending =
       one (decide (2 ^ 48 ≤ t.time.count)) .timeWrap ++
       one (!t.time.unset && decide (t.time.count < 2 ^ 48) && t.time.next.any fun e => decide (e ≤ t.time.count))
         .boundary ++
       asked ++
       (each 48 (fun i => by_ (t.unit i).silence) .silenceTimeout ++
         each 64 (fun ch => by_ (t.chan ch).intervalUntil) .intervalTimerExpiry ++
         each 64 (fun ch => (t.chan ch).ageStart.any fun a => decide (a + (t.chCfg ch).maxAge * 1000 ≤ t.now))
           .ageTimerExpiry ++
         one (by_ t.engine.sweepDue) .sweepPeriodExpiry ++
         one (t.engine.serving.isNone && (List.range 64).any fun ch => decide ((t.chan ch).request = .waiting))
           .engineSelect ++
         each 8 (fun r => by_ (t.run r).refTimer && !t.marked .runs r) .refStaleTimerExpiry) ++
       (one (by_ t.mode.tQuiet) .quietDwellExpiry ++ one (by_ t.mode.tRundown) .rundownTimerExpiry ++
         one (by_ t.mode.tLineup) .lineupTimerExpiry ++
         each 6 (fun k => by_ (t.compRec k).tStart) .startConfirmExpiry ++
         each 6 (fun k => by_ (t.compRec k).tMinRun) .minimumRunExpiry ++
         each 6 (fun k => by_ (t.compRec k).tStop) .stopConfirmExpiry ++
         each 6 (fun k => by_ (t.compRec k).tCool) .cooldownExpiry ++
         each 6 (fun k => (t.compRec k).marks.any fun m => decide (m + (t.compCfg k).window * 1000 ≤ t.now))
           .startMarkAgeout) ++
       (each 2 (fun i => (allBeds.find? fun bd => decide (((t.train i).bed bd).state = .adsorbing)).any fun bd =>
           !(t.train i).held && !((t.train i).bed bd).adsorbDone &&
             decide ((t.dryerCfg i).adsorbMax * 1000 ≤ ((t.train i).bed bd).adsorbMs)) .adsorbLimitExpiry ++
         each 2 (valve .opening) .openingValveTimeout ++ each 2 (valve .releasing) .releasingValveTimeout ++
         beds (fun i z => decide (z.state = .heating) && !z.heatDone && decide ((t.dryerCfg i).heat * 1000 ≤ z.heatMs))
           .heatTimeReached ++
         beds (fun i z => decide (z.state = .heating) && decide ((t.dryerCfg i).heatMax * 1000 ≤ z.heatMs)) .heatShort ++
         beds (fun i z => decide (z.state = .cooling) && decide ((t.dryerCfg i).cool * 1000 ≤ z.coolMs))
           .coolTimerExpiry) ++
       (one (t.link.txS.isNone && (!t.resp.isEmpty || !t.ev.alerts.isEmpty || !t.link.upQ.isEmpty)) .portSSelect ++
         one (t.link.txF.isNone && (!t.own.isEmpty || !t.link.downQ.isEmpty)) .portFSelect)) ∧
    ∀ c ∈ t.pending, c.wellFormed = true

/-- Every command that names something the part has completes, whatever the state; one that does not is refused by
name (log entry 25). -/
def Obligations.EveryWellFormedCommandCompletes : Prop :=
  ∀ (c : Instr) (s : State),
    (c.wellFormed = true → ∃ t, exec c s = .next t) ∧ (c.wellFormed = false → exec c s = .refused .noSuchTarget)

/-- R198, the form of a request: an unknown or missing code is answered UNKNOWN_REQUEST and a payload of the wrong
length BAD_ARGUMENT, for every request, and neither changes any state but the answer's own; a request marked to
receive no response is answered with none (R6, R15). R196: an answered request leaves service, and the oldest waiting
one enters it at once; a row whose request is not in service, or has been carried out, changes nothing (log entry 1).
-/
def Obligations.RequestsAreCheckedForForm : Prop :=
  (∀ (c : Instr) (code : Octet) (s : State) (q : Request) (args : List Octet),
    c.requestCode = some code → s.Asks q code args → args.length ≠ requestLength code args →
      exec c s = .next (s.answered q .badArgument [])) ∧
  (∀ (s : State) (q : Request),
    s.mgmt.service = some (.taken q) → (∀ code ∈ knownRequests, q.payload.head? ≠ some code) →
      (q.noResponse = false → s.resp.length < 2 →
        exec .unknownRequest s = .next (s.answered q .unknownRequest [])) ∧
      (q.noResponse = false → 2 ≤ s.resp.length →
        exec .unknownRequest s = .next { s with
          mgmt := { s.mgmt with service := some (.holding (responseTo q .unknownRequest [])) } }) ∧
      (q.noResponse = true →
        exec .unknownRequest s = .next { s.answered q .unknownRequest [] with resp := s.resp })) ∧
  ∀ (c : Instr) (code : Octet) (s : State),
    c.requestCode = some code → (∀ q, s.mgmt.service = some (.taken q) → q.payload.head? ≠ some code) →
      exec c s = .next s

/-! ### The station link -/

/-- The arbiters select by the tables of R16 and R17. Port S: a forwarded frame after three own frames in a row, else
a response, else the head of the alert queue, else a forwarded frame, sent with the header of R14, the station address
being that of the lowest acting entry among own addresses 0 to 2, else of entry 0 as it acts (R3), and an alert with
the payload of R216; a response leaves the queue as its last part begins, and a response held in service then takes
the place (R215, R197). Port F: the oldest own command, unless three own commands have gone since the last forwarded
frame and one waits; an own command is addressed to its target's address and carries the part's next sequence value
(R13, R14) and its action with its argument (R214). The counts of own frames are 0 after either reset, and the end of
a transmission frees the transmitter. -/
def Obligations.ArbitersSelect : Prop :=
  (∀ s : State, s.link.txS ≠ none → exec .portSSelect s = .next s) ∧
  (∀ s : State, exec .portSTransmitEnd s = .next { s with link := { s.link with txS := none } }) ∧
  (∀ (s : State) (f : Frame) (up : List Frame), s.link.txS = none → s.link.upQ = f :: up →
    (s.link.ownRunS = 3 ∨ s.resp = [] ∧ s.ev.alerts = []) →
      exec .portSSelect s = .next { s with link := { s.link with upQ := up, txS := some f, ownRunS := 0 } }) ∧
  (∀ (s : State) (r : Response) (rest : List Response) (p q : List Octet) (ps : List (List Octet)),
    s.link.txS = none → (s.link.ownRunS ≠ 3 ∨ s.link.upQ = []) → s.resp = r :: rest → r.parts = p :: q :: ps →
      exec .portSSelect s = .next { s with
        link := { s.link with txS := some ⟨r.dst, r.src, kindResponse, r.seq, p⟩, ownRunS := min 3 (s.link.ownRunS + 1) }
        resp := { r with parts := q :: ps } :: rest }) ∧
  (∀ (s : State) (r : Response) (rest : List Response) (p : List Octet),
    s.link.txS = none → (s.link.ownRunS ≠ 3 ∨ s.link.upQ = []) → s.resp = r :: rest → r.parts = [p] →
      let u := { s with
        link := { s.link with txS := some ⟨r.dst, r.src, kindResponse, r.seq, p⟩, ownRunS := min 3 (s.link.ownRunS + 1) }
        resp := rest }
      ((∀ h, s.mgmt.service ≠ some (.holding h)) → exec .portSSelect s = .next u) ∧
      ∀ h, s.mgmt.service = some (.holding h) → rest.length < 2 →
        exec .portSSelect s = .next { u with
          resp := rest ++ [h]
          mgmt := { s.mgmt with waiting := s.mgmt.waiting.tail, service := s.mgmt.waiting.head?.map .taken } }) ∧
  (∀ (s : State) (a : Alert) (rest : List Alert),
    s.link.txS = none → (s.link.ownRunS ≠ 3 ∨ s.link.upQ = []) → s.resp = [] → s.ev.alerts = a :: rest →
      exec .portSSelect s = .next { s with
        ev := { s.ev with alerts := rest }
        link := { s.link with
          txS := some ⟨s.tables.link.alertDst, s.stationAddr, kindAlert, s.link.seqS,
            be 1 a.source ++ be 1 a.priority ++ be 1 a.count ++ [a.subject] ++ be 6 a.first ++ be 6 a.last ++
              [if a.unset then 1 else 0]⟩
          seqS := s.link.seqS + 1
          ownRunS := min 3 (s.link.ownRunS + 1) } }) ∧
  (∀ s : State, s.link.upQ = [] → s.resp = [] → s.ev.alerts = [] → exec .portSSelect s = .next s) ∧
  (∀ s : State, s.link.txF ≠ none → exec .portFSelect s = .next s) ∧
  (∀ s : State, exec .portFTransmitEnd s = .next { s with link := { s.link with txF := none } }) ∧
  (∀ (s : State) (f : Frame) (down : List Frame), s.link.txF = none → s.link.downQ = f :: down →
    (s.link.ownRunF = 3 ∨ s.own = []) →
      exec .portFSelect s = .next { s with link := { s.link with downQ := down, txF := some f, ownRunF := 0 } }) ∧
  (∀ (s : State) (e : OwnEntry) (rest : List OwnEntry),
    s.link.txF = none → (s.link.ownRunF ≠ 3 ∨ s.link.downQ = []) → s.own = e :: rest →
      let bed (x : BedId) : Octet := match x with
        | .a => 0
        | .b => 1
        | .c => 2
      let payload : List Octet := match e.command with
        | .start => [1]
        | .stop => [2]
        | .speed rpm => 3 :: be 2 rpm
        | .openBed x => [4, bed x]
        | .closeBed x => [5, bed x]
        | .lineup .shut => [6, 0]
        | .lineup .inject => [6, 1]
        | .lineup .withdraw => [6, 2]
      exec .portFSelect s = .next { s with
        own := rest
        link := { s.link with
          txF := some ⟨(s.unitCfg e.target).addr, s.stationAddr, kindCommand, s.link.seqF, payload⟩
          seqF := s.link.seqF + 1
          ownRunF := min 3 (s.link.ownRunF + 1) } }) ∧
  (∀ s : State, s.link.downQ = [] → s.own = [] → exec .portFSelect s = .next s) ∧
  (∀ (s : State) (a0 a1 a2 a3 : OwnAddr), s.tables.link.own = [a0, a1, a2, a3] →
    let allOff := ∀ a ∈ s.tables.link.own, a.enabled = false
    let acts (a : OwnAddr) (i : Nat) : Prop := (a.enabled = true ∨ (i = 0 ∧ allOff)) ∧ s.marked .link i = false
    (acts a0 0 → s.stationAddr = a0.addr) ∧
    (¬acts a0 0 → acts a1 1 → s.stationAddr = a1.addr) ∧
    (¬acts a0 0 → ¬acts a1 1 → acts a2 2 → s.stationAddr = a2.addr) ∧
    (¬acts a0 0 → ¬acts a1 1 → ¬acts a2 2 → acts a3 3 → s.stationAddr = a0.addr) ∧
    (¬acts a0 0 → ¬acts a1 1 → ¬acts a2 2 → ¬acts a3 3 → s.stationAddr = ⟨0xFE, 0xFE⟩)) ∧
  (∀ s t : State, exec .powerOnReset s = .next t → t.link.ownRunF = 0 ∧ t.link.ownRunS = 0) ∧
  ∀ (s t : State) (q : Request), s.mgmt.service = some (.taken q) → q.payload = [0x48] → exec .restart s = .next t →
    t.link.ownRunF = 0 ∧ t.link.ownRunS = 0

/-- Frames and their octets (R2, R213) correspond one to one: the octets of a frame with a payload of at most 240
octets read back as that frame, and octets that pass the check of R2 are the octets of the frame they make. -/
def Obligations.FrameOctetsReadBack : Prop :=
  (∀ f : Frame, f.payload.length ≤ 240 → parseFrame f.octets = some f) ∧
  ∀ (bs : List Octet) (f : Frame), parseFrame bs = some f → f.octets = bs ∧ f.payload.length ≤ 240

/-- At an end delimiter the octets since the last start delimiter are taken as a frame, whatever went before, those
the port had collected before this row among them; octets that fail the check of R2 latch F_CHECK or S_CHECK and do
nothing else; octets outside a frame are ignored, and the end delimiter behind them does nothing (R1, R2; the model's
choice, log entry 59). The symbols behind the delimiter begin the next frame, and the port goes on collecting it. An
abort delimiter discards what its port has collected, whatever symbols came before it, and latches nothing (R1). -/
def Obligations.FramesAreTakenAtTheirEndDelimiter : Prop :=
  (∀ (s : State) (before behind : List LineSym) (bs : List Octet),
    let syms := before ++ .startDelim :: bs.map .octet
    let u := { s with link := { s.link with rxF := collect none behind } }
    let v := { s with link := { s.link with rxS := collect none behind } }
    (∀ f, parseFrame bs = some f →
      exec (.frameArrivalPortF ⟨syms, behind⟩) s = .next (arriveF f u) ∧
      exec (.frameArrivalPortS ⟨syms, behind⟩) s = .next (arriveS f v)) ∧
    (parseFrame bs = none →
      exec (.frameArrivalPortF ⟨syms, behind⟩) s = .next (occur Src.fCheck noSubject u) ∧
      exec (.frameArrivalPortS ⟨syms, behind⟩) s = .next (occur Src.sCheck noSubject v)) ∧
    (∀ held, s.link.rxF = some held →
      (∀ f, parseFrame (held ++ bs) = some f →
        exec (.frameArrivalPortF ⟨bs.map .octet, behind⟩) s = .next (arriveF f u)) ∧
      (parseFrame (held ++ bs) = none →
        exec (.frameArrivalPortF ⟨bs.map .octet, behind⟩) s = .next (occur Src.fCheck noSubject u))) ∧
    (∀ held, s.link.rxS = some held →
      (∀ f, parseFrame (held ++ bs) = some f →
        exec (.frameArrivalPortS ⟨bs.map .octet, behind⟩) s = .next (arriveS f v)) ∧
      (parseFrame (held ++ bs) = none →
        exec (.frameArrivalPortS ⟨bs.map .octet, behind⟩) s = .next (occur Src.sCheck noSubject v))) ∧
    (s.link.rxF = none → exec (.frameArrivalPortF ⟨bs.map .octet, behind⟩) s = .next u) ∧
    (s.link.rxS = none → exec (.frameArrivalPortS ⟨bs.map .octet, behind⟩) s = .next v) ∧
    exec (.abortDelimiter ⟨.f, before, behind⟩) s = .next u ∧ exec (.abortDelimiter ⟨.s, before, behind⟩) s = .next v) ∧
  ∀ (before : List LineSym) (bs : List Octet),
    collect none (bs.map .octet) = none ∧ collect none (before ++ .startDelim :: bs.map .octet) = some bs

/-- A valid frame on Port F (R7, R8, R9, R21), after the check of the own-address table (`PortSFramesByReach` says
what it does): its source's last-heard time becomes the station time and its silence timer starts again, unless the
entry is ABSENT, before the frame is examined (R21); one meant for the part is MISDIRECTED and goes no further; any
other joins the upstream queue, or latches UP_OVERRUN when it is full, and is then examined for the entry it came
from. A frame of a kind other than ANNOUNCE, DEPART, SAMPLE and STATE is not examined, nor is a SAMPLE or STATE from
an entry that is not PRESENT, nor a STATE from an entry of a class without a controller (R8). A UNITS entry that the
lookup of an address finds bad (R28) is marked, with TABLE_PARITY latched, and becomes ABSENT with departure flag
clear and silence timer stopped, identity and last-heard time kept; if it was PRESENT, UNIT_DEPARTED is latched and it
leaves PRESENT (R26). The address then has no entry, so its frames are forwarded and not examined. That the lookup
checks the entry in use that holds the address is the model's reading (log entry 10). -/
def Obligations.FieldFramesGoUpstream : Prop :=
  (∀ (s : State) (f : Frame) (behind : List LineSym), f.payload.length ≤ 240 →
    let arrival := Instr.frameArrivalPortF ⟨.startDelim :: f.octets.map .octet, behind⟩
    let u := checkOwnTable { s with link := { s.link with rxF := collect none behind } }
    let room := s.link.upQ.length < (if s.tables.link.extended then 32 else 8)
    let joined (x : State) : State := { x with link := { x.link with upQ := s.link.upQ ++ [f] } }
    let anonymous (x : State) : Prop :=
      (misdirectedF (reachOf u.ownActing f.dst) f.kind = true → exec arrival s = .next (occur Src.misdirected noSubject x)) ∧
      (misdirectedF (reachOf u.ownActing f.dst) f.kind = false →
        (room → exec arrival s = .next (joined x)) ∧
        (¬room → exec arrival s = .next (occur Src.upOverrun noSubject x)))
    (s.entryAtAddr f.src = none → anonymous u) ∧
    ∀ i, s.entryAtAddr f.src = some i →
      let heard := u.onUnit i fun y => { y with
        lastHeard := some s.time.count
        silence := if y.attach = .absent then y.silence else startTimer s.now ((s.unitCfg i).timeout * 1000) }
      (s.foundBad .units i = false →
        (misdirectedF (reachOf u.ownActing f.dst) f.kind = true →
          exec arrival s = .next (occur Src.misdirected i heard)) ∧
        (misdirectedF (reachOf u.ownActing f.dst) f.kind = false →
          (room → exec arrival s = .next (examine i f (joined heard))) ∧
          (¬room → exec arrival s = .next (examine i f (occur Src.upOverrun i heard))))) ∧
      (s.foundBad .units i = true → (∀ j < 48, j ≠ i → (s.unitCfg j).inUse = true → (s.unitCfg j).addr ≠ f.src) →
        anonymous (lookupCheck f.src u))) ∧
  (∀ (s : State) (i : Nat) (f : Frame),
    (f.kind ∉ [kindAnnounce, kindDepart, kindSample, kindState] → examine i f s = s) ∧
    (f.kind = kindSample ∨ f.kind = kindState → (s.unit i).attach ≠ .present → examine i f s = s) ∧
    (f.kind = kindState → (s.unitCfg i).cls ∈ [.meter, .transmitter, .analyser, .generic] → examine i f s = s)) ∧
  ∀ (s : State) (a : Addr),
    ((∀ i, s.entryAtAddr a = some i → s.foundBad .units i = false) → lookupCheck a s = s) ∧
    ∀ i, s.entryAtAddr a = some i → s.foundBad .units i = true →
      let v := lookupCheck a s
      let m := (occur Src.tableParity i (s.setMark .units i)).onUnit i fun y => { y with
        attach := .absent
        departed := false
        silence := none }
      ((s.unit i).attach ≠ .present → v = m) ∧
      ((s.unit i).attach = .present → v = leavePresent i (s.unitCfg i).cls (occur Src.unitDeparted i m)) ∧
      v.units = m.units ∧ v.marked .units i = true ∧ (∀ j, j ≠ i → v.marked .units j = s.marked .units j) ∧
      ((∀ j < 48, j ≠ i → (s.unitCfg j).inUse = true → (s.unitCfg j).addr ≠ a) → v.entryAtAddr a = none)

/-- A valid frame on Port S, by its reach (R3). The own-address table is checked first: each entry found bad is marked
and TABLE_PARITY latched with subject FFh. A marked entry acts as disabled; entry 0 acts as enabled, as stored, when
all four are disabled, and as FEh/FEh with ignore-segment clear when parity leaves none enabled. An addressed REQUEST
is taken while fewer than two wait, and enters service at once when none is in it (R196); it is answered BUSY
otherwise, and any other addressed frame is MISDIRECTED (R5; the code octet of a BUSY answer to an empty request is
the model's choice, log entry 78); a broadcast COMMAND is refused, a broadcast SET_TIME is taken without a response
and forwarded, and any other broadcast or passing frame, a COMMAND to a unit among the latter, goes to `forwardDown`
(R6, R10). There, with 8 frames in the downstream queue, it is discarded unexamined with DOWN_OVERRUN, whatever its
kind; with room, a frame that is no COMMAND, or is one to no entry, joins the queue (R10, R11). A COMMAND to an entry
is judged, with room (`SupervisorCommandsAreJudged`). A lookup that finds the entry bad treats it first (R28). That
entry 4 of the LINK table is never checked is the model's choice (log entry 60). -/
def Obligations.PortSFramesByReach : Prop :=
  (∀ (s : State) (f : Frame) (behind : List LineSym), f.payload.length ≤ 240 →
    let arrival := Instr.frameArrivalPortS ⟨.startDelim :: f.octets.map .octet, behind⟩
    let u := checkOwnTable { s with link := { s.link with rxS := collect none behind } }
    let request (quiet : Bool) : Request := ⟨f.src, f.dst, f.seq, f.payload, quiet⟩
    let idle := s.mgmt.service = none ∧ s.mgmt.waiting = []
    let serving (quiet : Bool) : State := { u with mgmt := { s.mgmt with service := some (.taken (request quiet)) } }
    let queued (quiet : Bool) : State := { u with mgmt := { s.mgmt with waiting := s.mgmt.waiting ++ [request quiet] } }
    (reachOf u.ownActing f.dst = .addressed →
      (f.kind = kindRequest → idle → exec arrival s = .next (serving false)) ∧
      (f.kind = kindRequest → s.mgmt.service ≠ none → s.mgmt.waiting.length < 2 → exec arrival s = .next (queued false)) ∧
      (f.kind = kindRequest → 2 ≤ s.mgmt.waiting.length → s.resp.length < 2 →
        exec arrival s = .next (occur Src.requestBusy noSubject
          { u with resp := s.resp ++ [responseTo ⟨f.src, f.dst, f.seq, f.payload, false⟩ .busy []] })) ∧
      (f.kind = kindRequest → 2 ≤ s.mgmt.waiting.length → 2 ≤ s.resp.length →
        exec arrival s = .next (occur Src.requestBusy noSubject u)) ∧
      (f.kind ≠ kindRequest → exec arrival s = .next (occur Src.misdirected noSubject u))) ∧
    (reachOf u.ownActing f.dst = .broadcast →
      (f.kind = kindCommand → exec arrival s = .next (occur Src.commandRefused noSubject u)) ∧
      (f.kind = kindRequest → f.payload.head? = some 0x10 →
        (idle → exec arrival s = .next (forwardDown f (serving true))) ∧
        (s.mgmt.service ≠ none → s.mgmt.waiting.length < 2 → exec arrival s = .next (forwardDown f (queued true))) ∧
        (2 ≤ s.mgmt.waiting.length → exec arrival s = .next (forwardDown f (occur Src.requestBusy noSubject u)))) ∧
      (f.kind ≠ kindCommand → (f.kind = kindRequest → f.payload.head? ≠ some 0x10) →
        exec arrival s = .next (forwardDown f u))) ∧
    (reachOf u.ownActing f.dst = .passing → exec arrival s = .next (forwardDown f u))) ∧
  (∀ s : State,
    let w := checkOwnTable s
    w = (List.range 4).foldl (fun x i =>
      if x.foundBad .link i then occur Src.tableParity noSubject (x.setMark .link i) else x) s ∧
    ∀ i < 4, w.foundBad .link i = false ∧ (w.marked .link i = true ↔ s.marked .link i = true ∨ s.foundBad .link i = true)) ∧
  (∀ (s : State) (dst : Addr) (a0 a1 a2 a3 : OwnAddr), s.tables.link.own = [a0, a1, a2, a3] →
    let allOff := ∀ a ∈ s.tables.link.own, a.enabled = false
    let acts (a : OwnAddr) (i : Nat) : Prop := (a.enabled = true ∨ (i = 0 ∧ allOff)) ∧ s.marked .link i = false
    let takes (a : OwnAddr) (i : Nat) : Prop :=
      acts a i ∧ a.addr.unit = dst.unit ∧ (a.addr.seg = dst.seg ∨ a.ignoreSeg = true)
    let left := acts a0 0 ∨ acts a1 1 ∨ acts a2 2 ∨ acts a3 3
    let own := takes a0 0 ∨ takes a1 1 ∨ takes a2 2
    (left → own → reachOf s.ownActing dst = .addressed) ∧
    (left → ¬own → takes a3 3 → reachOf s.ownActing dst = .broadcast) ∧
    (left → ¬own → ¬takes a3 3 → reachOf s.ownActing dst = .passing) ∧
    (¬left → reachOf s.ownActing dst = if dst = ⟨0xFE, 0xFE⟩ then .addressed else .passing)) ∧
  ∀ (s : State) (f : Frame),
    let passed := { s with link := { s.link with downQ := s.link.downQ ++ [f] } }
    (s.link.downQ.length < 8 →
      (f.kind ≠ kindCommand → forwardDown f s = passed) ∧
      (f.kind = kindCommand → s.entryAtAddr f.dst = none → forwardDown f s = passed)) ∧
    (8 ≤ s.link.downQ.length →
      (s.entryAtAddr f.dst = none → forwardDown f s = occur Src.downOverrun noSubject s) ∧
      ∀ i, s.entryAtAddr f.dst = some i →
        (s.foundBad .units i = false → forwardDown f s = occur Src.downOverrun i s) ∧
        (s.foundBad .units i = true → (∀ j < 48, j ≠ i → (s.unitCfg j).inUse = true → (s.unitCfg j).addr ≠ f.dst) →
          forwardDown f s = occur Src.downOverrun noSubject (lookupCheck f.dst s)))

/-- A supervisor COMMAND to a unit passes to its controller's verdict (R10). A compressor in use (R124 to R128): SPEED
to a MANUAL unit is limited to the unit's range, recorded as the last speed sent, and passes with a recomputed check
when altered; to an AUTO unit it is refused; START is refused unless the unit is STOPPED, ESD is inactive and the
start budget is not used up; STOP always passes; no action, any other action and a SPEED too short are refused, and
with a parity mark all but STOP. A train's valve set (R150): actions 1 to 6 are refused, others pass. The station
valve set (R98): LINEUP and a payload too short for its action are refused, others pass. An ungoverned unit's command
passes. What is too short, R214 says. A command that finds the record's entry bad locks the unit out first, as one
with a parity mark (R128; log entry 82). A command to an address whose UNITS entry the lookup finds bad is handed to
no controller and passes (R28). -/
def Obligations.SupervisorCommandsAreJudged : Prop :=
  (∀ (s : State) (f : Frame) (i : Nat),
    s.link.downQ.length < 8 → f.kind = kindCommand → s.entryAtAddr f.dst = some i → s.foundBad .units i = false →
    let passed (g : Frame) (x : State) : State := { x with link := { x.link with downQ := x.link.downQ ++ [g] } }
    let refused (x : State) : State := occur Src.commandRefused i x
    ((s.unitCfg i).cls = .compressor → s.compOf i = none → forwardDown f s = passed f s) ∧
    (∀ k, (s.unitCfg i).cls = .compressor → s.compOf i = some k → s.foundBad .compressors k = false →
      let c := s.compCfg k
      (s.marked .compressors k = true → f.payload.head? ≠ some 2 → forwardDown f s = refused s) ∧
      (f.payload = [] → forwardDown f s = refused s) ∧
      (∀ (a : Octet) (more : List Octet), f.payload = a :: more → a ≠ 1 → a ≠ 2 → a ≠ 3 → forwardDown f s = refused s) ∧
      (∀ more : List Octet, f.payload = 3 :: more → more.length < 2 → forwardDown f s = refused s) ∧
      (∀ (hi lo : Octet) (more : List Octet), s.marked .compressors k = false → f.payload = 3 :: hi :: lo :: more →
        let rpm := hi.toNat * 256 + lo.toNat
        let sent := max c.sMin (min rpm c.sMax)
        let u := s.onComp k fun r => { r with lastSpeed := some sent }
        ((s.compRec k).mode = .auto → forwardDown f s = refused s) ∧
        ((s.compRec k).mode = .manual → sent = rpm → forwardDown f s = passed f u) ∧
        ((s.compRec k).mode = .manual → sent ≠ rpm →
          forwardDown f s = passed { f with payload := 3 :: (be 2 sent ++ more) } (occur Src.speedClamped k u))) ∧
      (∀ more : List Octet, s.marked .compressors k = false → f.payload = 1 :: more →
        ((s.compRec k).state ≠ .stopped ∨ s.comp.heldEsd = true ∨ c.budget ≤ (s.compRec k).marks.length →
          forwardDown f s = refused s) ∧
        ((s.compRec k).state = .stopped → s.comp.heldEsd = false → (s.compRec k).marks.length < c.budget →
          forwardDown f s = passed f (dutyEvaluation (s.onComp k fun y => { y with
            state := .starting
            marks := appendMark s.now y.marks
            tStart := startTimer s.now (c.startConfirm * 1000)
            stopPending := false
            lastSpeed := none })))) ∧
      ∀ more : List Octet, f.payload = 2 :: more →
        let u := immediateStop k s
        let v := withdrawOwn (u.compRec k).entry isSpeed (u.onComp k fun y => { y with mode := .manual, stopPending := false })
        ((u.compRec k).mode = .manual → forwardDown f s = passed f (dutyEvaluation u)) ∧
        ((u.compRec k).mode = .auto → forwardDown f s = passed f (dutyEvaluation
          { v with comp := { v.comp with order := v.comp.order.filter fun j => decide (j ≠ k) } }))) ∧
    (∀ k, (s.unitCfg i).cls = .compressor → s.compOf i = some k → s.foundBad .compressors k = true →
      f.payload.head? ≠ some 2 →
      let x := occur Src.tableParity k (s.setMark .compressors k)
      forwardDown f s = refused (dutyEvaluation (if s.compInUse k then
          withdrawAll (s.compRec k).entry (x.onComp k fun r => { r with
            state := .lockedOut
            tStart := none
            tStop := none
            tMinRun := none
            tCool := none
            stopPending := false })
        else x))) ∧
    ((s.unitCfg i).cls = .dryerValves → s.trainOf i = none → forwardDown f s = passed f s) ∧
    (∀ d, (s.unitCfg i).cls = .dryerValves → s.trainOf i = some d →
      (s.foundBad .dryers d = false → useTrain d s = s) ∧
      (f.payload = [] → forwardDown f s = passed f (useTrain d s)) ∧
      ∀ (a : Octet) (more : List Octet), f.payload = a :: more →
        (1 ≤ a.toNat → a.toNat ≤ 6 → forwardDown f s = refused (useTrain d s)) ∧
        (a.toNat = 0 ∨ 6 < a.toNat → forwardDown f s = passed f (useTrain d s))) ∧
    ((s.unitCfg i).cls = .stationValves →
      (f.payload = [] → forwardDown f s = passed f s) ∧
      ∀ (a : Octet) (more : List Octet), f.payload = a :: more →
        let short := (a = 3 ∧ more.length < 2) ∨ ((a = 4 ∨ a = 5) ∧ more = [])
        (a = 6 ∨ short → forwardDown f s = refused s) ∧ (a ≠ 6 → ¬short → forwardDown f s = passed f s)) ∧
    ((s.unitCfg i).cls ∈ [UnitClass.meter, .transmitter, .analyser, .generic] → forwardDown f s = passed f s)) ∧
  ∀ (s : State) (f : Frame) (i : Nat),
    s.link.downQ.length < 8 → f.kind = kindCommand → s.entryAtAddr f.dst = some i → s.foundBad .units i = true →
    (∀ j < 48, j ≠ i → (s.unitCfg j).inUse = true → (s.unitCfg j).addr ≠ f.dst) →
    let v := lookupCheck f.dst s
    forwardDown f s = { v with link := { v.link with downQ := v.link.downQ ++ [f] } }

/-! ### The Unit Directory -/

/-- A Port F frame of kind ANNOUNCE is examined as an announcement (R8). An ANNOUNCE of three octets from an ABSENT
entry settles its attach state, identity and silence timer and latches the event of its outcome (R23); from an entry
that is not ABSENT, or of another length, it changes nothing (R24). READ_UNIT gives the entry, its live part and its
parity mark and changes nothing, an entry not in use showing ABSENT with nothing learned (R29; what it shows of a
marked entry, and the form of its items, are the model's choices, log entries 9 and 62); RELEASE_UNIT makes a HELD
entry PRESENT, clears the departure flag of a HELD or ABSENT one, leaves a PRESENT one alone and is refused for a
MISMATCH (R27). -/
def Obligations.AnnounceAndDirectoryRequests : Prop :=
  (∀ (s : State) (i : Nat) (f : Frame), f.kind = kindAnnounce → examine i f s = announce i f.payload s) ∧
  (∀ (s : State) (i : Nat) (c n rev : Octet),
    i < s.units.length → s.ev.recs.length = 48 → (s.unit i).attach = .absent →
    let reported := reportedClass c
    let agree := reported ≠ none ∧ (reported = some (s.unitCfg i).cls ∨ (s.unitCfg i).cls = .generic)
    let t := announce i [c, n, rev] s
    let outcome (a : Attach) (src : Nat) : Prop :=
      t.unit i = { s.unit i with
        attach := a
        identity := some ⟨reported, min 16 n.toNat, rev⟩
        silence := startTimer s.now ((s.unitCfg i).timeout * 1000) } ∧
      t.source src = ⟨true, min 255 ((s.source src).count + 1), BitVec.ofNat 8 i⟩
    (∀ j, j ≠ i → t.unit j = s.unit j) ∧
    (agree → (s.unit i).departed = false → outcome .present Src.unitAnnounced) ∧
    (agree → (s.unit i).departed = true → outcome .held Src.unitHeld) ∧
    (¬agree → outcome .mismatch Src.unitMismatch)) ∧
  (∀ (s : State) (i : Nat) (p : List Octet), (s.unit i).attach ≠ .absent ∨ p.length ≠ 3 → announce i p s = s) ∧
  (∀ (s : State) (i : Nat),
    let u := if (s.unitCfg i).inUse then s.unit i else .initial
    let identity : List Octet := u.identity.elim [0, 0, 0, 0] fun id =>
      1 :: be 1 ((id.cls.map UnitClass.code).getD 7) ++ be 1 id.channels ++ [id.revision]
    s.unitResult i = s.entryImage .units i ++ be 1 u.attach.code ++ beFlag u.departed ++ identity ++ beOpt 6 u.lastHeard ++
      beFlag (s.marked .units i)) ∧
  ∀ (s : State) (q : Request) (b : Octet), s.units.length = 48 →
    (s.Asks q 0x05 [b] →
      (b.toNat ≤ 47 → exec .readUnit s = .next (s.answered q .ok (s.unitResult b.toNat))) ∧
      (47 < b.toNat → exec .readUnit s = .next (s.answered q .badArgument []))) ∧
    (s.Asks q 0x20 [b] →
      (47 < b.toNat → exec .releaseUnit s = .next (s.answered q .badArgument [])) ∧
      (b.toNat ≤ 47 → s.unitInUse b.toNat = false → exec .releaseUnit s = .next (s.answered q .unknownTarget [])) ∧
      (b.toNat ≤ 47 → s.unitInUse b.toNat = true →
        let flag : Octet := if (s.unit b.toNat).departed then 1 else 0
        ((s.unit b.toNat).attach = .held →
          exec .releaseUnit s =
            .next ((s.onUnit b.toNat fun u => { u with attach := .present, departed := false }).answered q .ok [1, 0])) ∧
        ((s.unit b.toNat).attach = .absent →
          exec .releaseUnit s = .next ((s.onUnit b.toNat fun u => { u with departed := false }).answered q .ok [0, 0])) ∧
        ((s.unit b.toNat).attach = .present → exec .releaseUnit s = .next (s.answered q .ok [1, flag])) ∧
        ((s.unit b.toNat).attach = .mismatch → exec .releaseUnit s = .next (s.answered q .wrongState [3, flag]))))

/-- A DEPART frame (R25) and a silence timer that runs out (R22) make an entry that is not ABSENT so: its departure
flag is set and its silence timer stopped, its identity and last-heard time kept, UNIT_DEPARTED is latched, and a
PRESENT entry leaves PRESENT. Then each owner of the unit acts (R26): its unsent own commands leave the queue (R13);
its channels' pending items and waiting requests are dropped, and a sweep counts them as done (R36, R46); its
compressor becomes UNAVAILABLE, a start, run or unload in flight being lost (R116); its train's beds become UNSYNCED
and a switch in flight is lost (R152); in the LINEUP phase the transition fails for the station valve set (R97); no
other class has an owner. That the own commands and the channels, with the SWEEP_DONE they may bring, come before the
owner of the unit's class, with its OPERATION_LOST or TRANSITION_FAILED, is the model's choice (log entry 11). -/
def Obligations.UnitsDepart : Prop :=
  (∀ (s : State) (i : Nat), i < 48 →
    let gone := occur Src.unitDeparted i
      (s.onUnit i fun x => { x with attach := .absent, departed := true, silence := none })
    let left := leavePresent i (s.unitCfg i).cls gone
    (∀ f : Frame, f.kind = kindDepart →
      ((s.unit i).attach = .absent → examine i f s = s) ∧
      ((s.unit i).attach = .held ∨ (s.unit i).attach = .mismatch → examine i f s = gone) ∧
      ((s.unit i).attach = .present → examine i f s = left)) ∧
    (fires s.now (s.unit i).silence = false → exec (.silenceTimeout i) s = .next s) ∧
    (fires s.now (s.unit i).silence = true →
      ((s.unit i).attach = .absent → exec (.silenceTimeout i) s = .next s) ∧
      ((s.unit i).attach = .held ∨ (s.unit i).attach = .mismatch → exec (.silenceTimeout i) s = .next gone) ∧
      ((s.unit i).attach = .present → exec (.silenceTimeout i) s = .next left)) ∧
    left.units = gone.units) ∧
  ∀ (s : State) (i : Nat), s.chans.length = 64 →
    let w := channelsDeparted i (withdrawAll i s)
    let itsChannel (ch : Nat) : Prop := (s.chCfg ch).inUse = true ∧ (s.chCfg ch).unit = i
    (w = { s with
      own := w.own
      chans := w.chans
      engine := { s.engine with remaining := w.engine.remaining }
      ev := w.ev
      parity := w.parity }) ∧
    (w.own = s.own.filter fun e => decide (e.target ≠ i)) ∧
    (∀ ch < 64, (¬itsChannel ch → w.chan ch = s.chan ch) ∧
      (itsChannel ch → w.chan ch = { s.chan ch with
        pendingItem := none
        request := if (s.chan ch).request = .waiting then .none else (s.chan ch).request })) ∧
    (∀ ch, ch ∈ w.engine.remaining ↔
      ch ∈ s.engine.remaining ∧ ¬((s.chCfg ch).inUse = true ∧ (s.chCfg ch).unit = i ∧ (s.chan ch).request = .waiting)) ∧
    (s.engine.remaining = [] ∨ w.engine.remaining ≠ [] → w.ev = s.ev) ∧
    (s.engine.remaining ≠ [] → w.engine.remaining = [] → w.ev = (occur Src.sweepDone noSubject s).ev) ∧
    (s.compOf i = none → leavePresent i .compressor s = w) ∧
    (∀ k, s.compOf i = some k →
      let lost := (s.compRec k).state = .starting ∨ (s.compRec k).state = .running ∨ (s.compRec k).state = .unloading
      let t (l : Bool) : State := w.onComp k fun r => { r with
        state := .unavailable
        stopPending := false
        lastSpeed := none
        tStart := none
        tStop := none
        tMinRun := none
        tCool := none
        lostOp := r.lostOp || l
        lockHeld := r.lockHeld || decide (r.state = .lockedOut) }
      (lost → leavePresent i .compressor s = dutyEvaluation (occur Src.operationLost k (t true))) ∧
      (¬lost → leavePresent i .compressor s = dutyEvaluation (t false))) ∧
    (s.trainOf i = none → leavePresent i .dryerValves s = w) ∧
    (∀ d, s.trainOf i = some d →
      let t := w.onTrain d fun x => { x with
        synced := false
        request := false
        switch := none
        bedA := { x.bedA with state := .unsynced }
        bedB := { x.bedB with state := .unsynced }
        bedC := { x.bedC with state := .unsynced } }
      ((s.train d).switch ≠ none → leavePresent i .dryerValves s = evalTrain d (occur Src.operationLost d t)) ∧
      ((s.train d).switch = none → leavePresent i .dryerValves s = evalTrain d t)) ∧
    (∀ d, s.mode.mode = .transition d .lineup → leavePresent i .stationValves s =
      occur Src.transitionFailed noSubject (tellMode .shutIn (offerLineup .shut (stopModeTimers w)))) ∧
    ((∀ d, s.mode.mode ≠ .transition d .lineup) → leavePresent i .stationValves s = w) ∧
    ∀ c ∈ [UnitClass.meter, .transmitter, .analyser, .generic], leavePresent i c s = w

/-! ### Channels and conditioning -/

/-- The items of a SAMPLE payload from a PRESENT entry arrive one by one in payload order at the channel in use of
their pair; an item with a local index of 16 or more, not below the learned channel count, or of no such channel is
ignored, and so is a trailing part of an item (R34). An arrival at a sound channel is accepted when the minimum
interval is over and the channel is not busy, and waits in the pending slot otherwise (R40); acceptance sets raw
value, quality, acceptance time and both timers, and the channel proceeds by class: a CUSTODY channel begins its
conditioning, a PROCESS channel waits for the engine, a SURVEY channel becomes unconditioned (R35, R42). A filter
profile found bad where a conditioning begins is marked, TABLE_PARITY is latched with the profile's number as subject,
and the conditioning takes the profile as marked (R53). An arrival at a marked channel, or one found bad by it, sets
quality BAD and tells a CUSTODY channel's run of a completion (R37, R57). At the expiry of the interval timer the
pending item of a channel that is not busy is accepted; at a marked CUSTODY channel, or one found bad by it, the
blocks are told of the completion in the order flow, calorific, pressure, which is the model's choice (R41, R57; log
entry 11). -/
def Obligations.ItemsReachTheirChannels : Prop :=
  (∀ (s : State) (e : Nat) (f : Frame), f.kind = kindSample →
    ((s.unit e).attach ≠ .present → examine e f s = s) ∧
    ((s.unit e).attach = .present → examine e f s = sampleFrame e f.payload s) ∧
    (f.payload.length < 5 → sampleFrame e f.payload s = s) ∧
    ∀ (l q b1 b2 b3 : Octet) (rest : List Octet), f.payload = l :: q :: b1 :: b2 :: b3 :: rest →
      let holds (ch : Nat) : Prop :=
        (s.chCfg ch).inUse = true ∧ (s.chCfg ch).unit = e ∧ (s.chCfg ch).localIx = l.toNat
      (16 ≤ l.toNat ∨ (∀ id, (s.unit e).identity = some id → id.channels ≤ l.toNat) ∨ (∀ ch < 64, ¬holds ch) →
        sampleFrame e f.payload s = sampleFrame e rest s) ∧
      ∀ (id : Identity) (ch : Nat), l.toNat < 16 → (s.unit e).identity = some id → l.toNat < id.channels → ch < 64 →
        holds ch → (∀ j < ch, ¬holds j) →
        sampleFrame e f.payload s = sampleFrame e rest (arrive ch ⟨ofBeInt [b1, b2, b3], q⟩ s)) ∧
  ∀ (s : State) (ch : Nat) (item : Item), ch < 64 → s.chans.length = 64 →
    let taken (c : ChannelState) : ChannelState := { c with
      raw := item.raw
      rawQ := item.quality
      pendingItem := none
      lastAccept := some s.time.count
      intervalUntil := startTimer s.now (s.chCfg ch).minInterval
      ageStart := some s.now }
    let accepted (t : State) : Prop :=
      ((s.chCfg ch).cls = .process → t = s.onChan ch fun c => { taken c with request := .waiting }) ∧
      ((s.chCfg ch).cls = .survey → t = s.onChan ch fun c => { taken c with unconditioned := true }) ∧
      ((s.chCfg ch).cls = .custody → s.foundBad .channels ch = false → s.marked .channels ch = false →
        ((s.chCfg ch).profile = 0 ∨ s.foundBad .filters ((s.chCfg ch).profile - 1) = false) →
        t = s.onChan ch fun c => { taken c with
          custody := some ⟨item.raw, item.quality, s.chCfg ch, s.filterUse (s.chCfg ch).profile, false⟩ }) ∧
      ((s.chCfg ch).cls = .custody → s.foundBad .channels ch = false → s.marked .channels ch = false →
        ∀ p, (s.chCfg ch).profile = p + 1 → s.foundBad .filters p = true →
          t = (occur Src.tableParity (p + 1) ((s.onChan ch taken).setMark .filters p)).onChan ch fun c => { c with
            custody := some
              ⟨item.raw, item.quality, s.chCfg ch, ⟨some (s.tables.filters.getD p .passing), true⟩, false⟩ })
    (s.foundBad .channels ch = false → s.marked .channels ch = false →
      ((s.chan ch).intervalUntil = none → s.busy ch = false → accepted (arrive ch item s)) ∧
      ((s.chan ch).intervalUntil ≠ none ∨ s.busy ch = true →
        arrive ch item s = s.onChan ch fun c => { c with pendingItem := some item })) ∧
    (s.foundBad .channels ch = true ∨ s.marked .channels ch = true →
      let u := (useChannel ch s).onChan ch fun c => { c with quality := .bad }
      ((s.chCfg ch).cls ≠ .custody → arrive ch item s = u) ∧
      ((s.chCfg ch).cls = .custody → arrive ch item s = flowCompletion ch u) ∧
      (s.marked .channels ch = true → useChannel ch s = s) ∧
      (s.foundBad .channels ch = true → u.marked .channels ch = true ∧ u.chan ch = { s.chan ch with
        quality := .bad
        pendingItem := none
        request := if (s.chan ch).request = .waiting then .none else (s.chan ch).request })) ∧
    (fires s.now (s.chan ch).intervalUntil = false → exec (.intervalTimerExpiry ch) s = .next s) ∧
    (fires s.now (s.chan ch).intervalUntil = true →
      ((s.chan ch).pendingItem = none ∨ s.busy ch = true →
        exec (.intervalTimerExpiry ch) s = .next (s.onChan ch fun c => { c with intervalUntil := none })) ∧
      ((s.chan ch).pendingItem = some item → s.busy ch = false →
        ∃ t, exec (.intervalTimerExpiry ch) s = .next t ∧ accepted t ∧
          ((s.chCfg ch).cls = .custody → s.foundBad .channels ch = true ∨ s.marked .channels ch = true →
            t = pressureNotice ch (calorificCompletion ch (flowCompletion ch
              ((useChannel ch (s.onChan ch taken)).onChan ch fun c => { c with quality := .bad }))))))

/-- A conditioning that completes on a custody path or in the engine (R42, R44). In its channel (R49 to R56): a raw
value outside the raw range, or of quality BAD, sets the quality BAD and holds everything else; any other gives the
scaled value limited to the engineering range, enters the history of 8, and updates filtered value, quality, peaks,
comparators and last good value. The filtered value is the scaled value with profile 0, a marked profile, or a history
of fewer values than taps; otherwise the sum over the taps, rounded half away from zero and limited (R52, R53). A
comparator goes on and off at its thresholds by its mode (R54). Then the pending item, where the interval timer has
expired and the channel is not busy, is accepted as at an arrival, which leaves these results standing; otherwise it
waits on (R41, R42). No other channel changes but one whose entry a consumer's check finds bad (R37). RAW_RANGE,
ENG_CLAMP, COMPARE_A and COMPARE_B are latched in their cases (R50, R51, R54); behind the latches, in an order that is
the model's choice (flow, calorific, pressure, comparator A, comparator B; log entry 11), the blocks that name the
channel are told of the completion and of each comparator change (R57): the run whose flow channel it is is triggered
(R66), a train's breakthrough comparator acts as R139 says, its regen comparator tests HEATING beds unless the train
is HELD (R146), each after the train's entry check (R153); that train 0 is told before train 1 is the model's choice
(log entry 91). A conditioning that a commit made void writes nothing (R32). The model's reading or choice: offset
plus product rounded as one sum and a stopped age timer taken as STALE (log entries 35, 55), a result that stands
although the entry was found bad meanwhile (log entry 79). -/
def Obligations.ConditioningWritesItsChannel : Prop :=
  (∀ (s : State) (ch : Nat) (k : Conditioning), ch < 64 → s.chans.length = 64 → k.discard = false →
    let bad := k.raw < k.cfg.rawMin ∨ k.cfg.rawMax < k.raw ∨ octetQuality k.rawQ = .bad
    let exact := roundHalfAway (k.cfg.offset * 65536 + k.raw * k.cfg.gain) 65536
    let scaled := clampInt k.cfg.engMin k.cfg.engMax exact
    let weight (tap : List Term) : Int :=
      (tap.map fun e => if e.neg then -(2 ^ (15 - e.exp) : Int) else (2 ^ (15 - e.exp) : Int)).sum
    let sum (p : Profile) (history : List Int) : Int :=
      ((List.range p.taps.length).map fun j => weight (p.taps.getD j []) * history.getD j 0).sum
    let filtered (history : List Int) (v : Int) : Prop :=
      (k.filter.profile = none → v = scaled) ∧
      ∀ p, k.filter.profile = some p →
        (k.filter.marked = true ∨ history.length < p.taps.length → v = scaled) ∧
        (k.filter.marked = false → p.taps.length ≤ history.length →
          v = clampInt k.cfg.engMin k.cfg.engMax (roundHalfAway (sum p history) 32768))
    let compared (m : Comparator) (v : Int) (out new : Bool) : Prop :=
      (m.mode = .off → new = false) ∧
      (m.mode = .above → (new = true ↔ if out = true then m.t1 - m.hyst ≤ v else m.t1 < v)) ∧
      (m.mode = .below → (new = true ↔ if out = true then v ≤ m.t1 + m.hyst else v < m.t1)) ∧
      (m.mode = .inside → (new = true ↔
        if out = true then m.t1 - m.hyst ≤ v ∧ v ≤ m.t2 + m.hyst else m.t1 ≤ v ∧ v ≤ m.t2)) ∧
      (m.mode = .outside → (new = true ↔
        if out = true then ¬(m.t1 + m.hyst ≤ v ∧ v ≤ m.t2 - m.hyst) else v < m.t1 ∨ m.t2 < v))
    let result (c x : ChannelState) : Prop :=
      let history := (scaled :: c.history).take 8
      let quality := if c.ageStart = none then Quality.stale
        else if octetQuality k.rawQ = .suspect ∨ exact ≠ scaled ∨ (k.filter.profile ≠ none ∧ k.filter.marked = true)
        then .suspect else .good
      (bad → x = { c with quality := .bad }) ∧
      (¬bad → ∃ v, filtered history v ∧ compared k.cfg.cmpA v c.cmpA x.cmpA ∧ compared k.cfg.cmpB v c.cmpB x.cmpB ∧
        x = { c with
          scaled := some scaled
          history := history
          filtered := some v
          quality := quality
          peakMax := some ((c.peakMax.map fun p => max p scaled).getD scaled)
          peakMin := some ((c.peakMin.map fun p => min p scaled).getD scaled)
          cmpA := x.cmpA
          cmpB := x.cmpB
          lastGood := if quality = .good then some v else c.lastGood })
    let found (c : ChannelState) : ChannelState := { c with
      quality := .bad
      pendingItem := none
      request := if c.request = .waiting then .none else c.request }
    let outcome (c : ChannelState) (t : State) : Prop :=
      let x := t.chan ch
      (c.pendingItem = none →
        (s.foundBad .channels ch = false → result c x) ∧ ∃ y, result c y ∧ (x = y ∨ x = found y)) ∧
      ((∀ j, s.foundBad .channels j = false) → s.marked .channels ch = false → result c { c with
        scaled := x.scaled
        history := x.history
        filtered := x.filtered
        quality := x.quality
        peakMax := x.peakMax
        peakMin := x.peakMin
        cmpA := x.cmpA
        cmpB := x.cmpB
        lastGood := x.lastGood }) ∧
      ∀ j, j ≠ ch → (s.foundBad .channels j = false → t.chan j = s.chan j) ∧
        (t.chan j = s.chan j ∨ t.chan j = found (s.chan j))
    let completed (x : State) : State :=
      let c := x.chan ch
      let y := k.write c
      let latch (case : Bool) (src : Nat) (z : State) : State := if case then occur src ch z else z
      let told := pressureNotice ch (calorificCompletion ch (flowCompletion ch
        (latch (!c.cmpB && y.cmpB) Src.compareB (latch (!c.cmpA && y.cmpA) Src.compareA
          (latch (!decide bad && decide (exact ≠ scaled)) Src.engClamp (latch (decide bad) Src.rawRange
            (x.onChan ch fun _ => y)))))))
      let toldA := if c.cmpA = y.cmpA then told else dryComparator ch .a y.cmpA told
      if c.cmpB = y.cmpB then toldA else dryComparator ch .b y.cmpB toldA
    (∀ c, result c (k.write c)) ∧
    ((s.chan ch).custody = some k →
      ∃ t, exec (.custodyConditioningDone ch) s = .next t ∧ outcome { s.chan ch with custody := none } t ∧
        t = examinePending ch (completed (s.onChan ch fun c => { c with custody := none }))) ∧
    (s.engine.serving = some (ch, k) →
      ∃ t, exec .engineConditioningDone s = .next t ∧ outcome { s.chan ch with request := .none } t ∧
        t.engine.serving = none ∧ t = examinePending ch (sweepCounts ch (completed
          ({ s with engine := { s.engine with serving := none } }.onChan ch fun c => { c with request := .none }))))) ∧
  (∀ (z : State) (ch : Nat), ch < 64 → z.chans.length = 64 →
    let c := z.chan ch
    let g := z.chCfg ch
    let busy := c.custody ≠ none ∨ c.request ≠ .none ∨ ∃ k, z.engine.serving = some (ch, k)
    let next := examinePending ch z
    (c.pendingItem = none ∨ c.intervalUntil ≠ none ∨ busy → next = z) ∧
    ∀ item, c.pendingItem = some item → c.intervalUntil = none → ¬busy →
      let taken : ChannelState := { c with
        raw := item.raw
        rawQ := item.quality
        pendingItem := none
        lastAccept := some z.time.count
        intervalUntil := startTimer z.now g.minInterval
        ageStart := some z.now }
      let put (x : ChannelState) : State := z.onChan ch fun _ => x
      let begun (f : FilterUse) : ChannelState :=
        { taken with custody := some ⟨item.raw, item.quality, g, f, false⟩ }
      (g.cls = .process → next = put { taken with request := .waiting }) ∧
      (g.cls = .survey → next = put { taken with unconditioned := true }) ∧
      (g.cls = .custody → z.foundBad .channels ch = false → z.marked .channels ch = false →
        (g.profile = 0 → next = put (begun ⟨none, false⟩)) ∧
        ∀ p, g.profile = p + 1 →
          let profile := some (z.tables.filters.getD p .passing)
          (z.foundBad .filters p = false → next = put (begun ⟨profile, z.marked .filters p⟩)) ∧
          (z.foundBad .filters p = true →
            next = (occur Src.tableParity (p + 1) ((put taken).setMark .filters p)).onChan ch fun _ =>
              begun ⟨profile, true⟩)) ∧
      (g.cls = .custody → z.foundBad .channels ch = true ∨ z.marked .channels ch = true →
        next = pressureNotice ch (calorificCompletion ch (flowCompletion ch
          ((useChannel ch (put taken)).onChan ch fun c => { c with quality := .bad }))))) ∧
  (∀ (s : State) (ch : Nat),
    let names (r : Nat) : Prop := (s.runCfg r).role ≠ .unused ∧ (s.runCfg r).flow = ch
    ((∀ r < 8, ¬names r) → flowCompletion ch s = s) ∧
    ∀ r < 8, names r → (∀ j < 8, j ≠ r → ¬names j) → flowCompletion ch s = trigger r s) ∧
  (∀ (s : State) (i ch : Nat) (which : CmpId) (output : Bool),
    let c := s.dryerCfg i
    let breaks := c.inUse = true ∧ c.outlet = ch ∧ c.breakCmp = which
    let regens := c.inUse = true ∧ c.regenCh = some ch ∧ c.regenCmp = some which
    let change := trainComparator i ch which output s
    let checked := useTrain i s
    let tested (x : State) : State := evalTrain i ([BedId.a, .b, .c].foldl (fun x bd => testHeating i bd x) x)
    dryComparator ch which output s = trainComparator 1 ch which output (trainComparator 0 ch which output s) ∧
    (¬breaks → ¬regens → change = s) ∧
    (breaks → ¬regens → (output = true → change = breakthrough i s) ∧ (output = false → change = checked)) ∧
    (¬breaks → regens → change = regenChanged i s) ∧
    (breaks → regens →
      (output = true → change = regenChanged i (breakthrough i s)) ∧
      (output = false → change = regenChanged i checked)) ∧
    (checked.marked .dryers i = true ∨ (checked.train i).held = true → regenChanged i s = checked) ∧
    (checked.marked .dryers i = false → (checked.train i).held = false → regenChanged i s = tested checked)) ∧
  ∀ (s : State) (ch : Nat) (k : Conditioning), ch < 64 → k.discard = true → (s.chan ch).pendingItem = none →
    ((s.chan ch).custody = some k →
      exec (.custodyConditioningDone ch) s = .next (s.onChan ch fun c => { c with custody := none })) ∧
    (s.engine.serving = some (ch, k) → ch ∉ s.engine.remaining →
      exec .engineConditioningDone s = .next { s with engine := { s.engine with serving := none } })

/-- The engine serves the lowest waiting channel when it is free (R43): a channel whose entry is sound goes into
service with its inputs fixed, a filter profile found bad there being marked, with TABLE_PARITY and its number as
subject, and taken as marked (R53); one whose entry carries a mark, or is found bad there (R37), is passed over with
quality BAD (its unconditioned raw left set, log entry 65), its request and pending item dropped, and a sweep counts
it as done, SWEEP_DONE latched with the last (R46). A busy engine or an empty waiting set leaves everything as it is.
A sweep lists every SURVEY channel in use (R45): one whose unit is not PRESENT or whose item is conditioned is left as
it is, one whose entry is marked or found bad at the listing gets quality BAD, and every other waits for the engine
and joins the remaining set; SWEEP_DONE is latched at once when that is empty (R46). A SWEEP in a sweep is refused
(R47). The period timer starts again at each expiry and begins a sweep when none is in progress (R48); a STATION
record found bad there is marked, with TABLE_PARITY, and the timer stops (R209); that no sweep begins at that expiry
is the model's choice (log entry 21). That the listing checks every listed channel's entry, before its unit and item
are looked at, is the model's choice (log entry 51). -/
def Obligations.EngineAndSweepsBegin : Prop :=
  (∀ s : State,
      (s.engine.serving ≠ none ∨ (∀ ch < 64, (s.chan ch).request ≠ .waiting) → exec .engineSelect s = .next s) ∧
      ∀ ch < 64, s.engine.serving = none → (s.chan ch).request = .waiting →
        (∀ j < ch, (s.chan j).request ≠ .waiting) →
        (s.foundBad .channels ch = false → s.marked .channels ch = false →
          ((s.chCfg ch).profile = 0 ∨ s.foundBad .filters ((s.chCfg ch).profile - 1) = false) →
          exec .engineSelect s = .next
            ({ s with engine := { s.engine with serving := some (ch, s.conditioning ch) } }.onChan ch fun c =>
              { c with request := .inService, unconditioned := false })) ∧
        (s.foundBad .channels ch = false → s.marked .channels ch = false →
          ∀ p, (s.chCfg ch).profile = p + 1 → s.foundBad .filters p = true →
            let x := occur Src.tableParity (p + 1) (s.setMark .filters p)
            exec .engineSelect s = .next
              ({ x with engine := { s.engine with serving := some (ch, ⟨(s.chan ch).raw, (s.chan ch).rawQ, s.chCfg ch,
                ⟨some (s.tables.filters.getD p .passing), true⟩, false⟩) } }.onChan ch fun c =>
                { c with request := .inService, unconditioned := false })) ∧
        (let passedOver (x : State) : State := sweepCounts ch (x.onChan ch fun c =>
            { c with request := .none, pendingItem := none, quality := .bad });
          (s.marked .channels ch = true → exec .engineSelect s = .next (passedOver s)) ∧
          (s.foundBad .channels ch = true → exec .engineSelect s = .next (passedOver (useChannel ch s))))) ∧
  (∀ (s : State) (ch : Nat),
    let rest := s.engine.remaining.filter fun c => decide (c ≠ ch)
    let counted := { s with engine := { s.engine with remaining := rest } }
    (ch ∉ s.engine.remaining → sweepCounts ch s = s) ∧
    (ch ∈ s.engine.remaining → rest ≠ [] → sweepCounts ch s = counted) ∧
    (ch ∈ s.engine.remaining → rest = [] → sweepCounts ch s = occur Src.sweepDone noSubject counted)) ∧
  (∀ (s : State) (ch : Nat), ch < 64 → s.chans.length = 64 →
    let u := if s.foundBad .channels ch then useChannel ch s else s
    let due := s.present (s.chCfg ch).unit = true ∧ (s.chan ch).unconditioned = true
    (¬due → listChannel s ch = u) ∧
    (due → s.foundBad .channels ch = true ∨ s.marked .channels ch = true →
      listChannel s ch = u.onChan ch fun c => { c with quality := .bad }) ∧
    (due → s.foundBad .channels ch = false → s.marked .channels ch = false → listChannel s ch =
      { s with engine := { s.engine with remaining := s.engine.remaining ++ [ch] } }.onChan ch fun c =>
        { c with request := .waiting })) ∧
  (∀ s : State, s.chans.length = 64 → s.engine.remaining = [] →
    (s.surveyed.foldl listChannel s).engine.remaining = s.surveyed.filter fun ch =>
      s.present (s.chCfg ch).unit && (s.chan ch).unconditioned && !s.foundBad .channels ch && !s.marked .channels ch) ∧
  ∀ s : State, s.chans.length = 64 →
    let begun (x : State) : State :=
      let y := s.surveyed.foldl listChannel x
      if y.engine.remaining = [] then occur Src.sweepDone noSubject y else y
    let restarted : State :=
      { s with engine := { s.engine with sweepDue := startTimer s.now (s.stationRead.sweep * 1000) } }
    (∀ q, s.Asks q 0x30 [] →
      (s.engine.remaining = [] → exec .sweep s =
        .next (answerRequest q .ok (be 1 (s.surveyed.foldl listChannel s).engine.remaining.length) (begun s))) ∧
      (s.engine.remaining ≠ [] → exec .sweep s = .next (s.answered q .wrongState []))) ∧
    (fires s.now s.engine.sweepDue = true → s.foundBad .station 0 = false → s.marked .station 0 = false →
      (s.engine.remaining = [] → exec .sweepPeriodExpiry s = .next (begun restarted)) ∧
      (s.engine.remaining ≠ [] → exec .sweepPeriodExpiry s = .next restarted)) ∧
    (fires s.now s.engine.sweepDue = true → s.foundBad .station 0 = true →
      let x := occur Src.tableParity 0 (s.setMark .station 0)
      exec .sweepPeriodExpiry s = .next { x with engine := { s.engine with sweepDue := none } }) ∧
    (fires s.now s.engine.sweepDue = false → exec .sweepPeriodExpiry s = .next s) ∧
    (s.foundBad .station 0 = false → s.marked .station 0 = true → exec .sweepPeriodExpiry s = .next s)

/-- A channel becomes STALE when its age timer reaches the maximum age, with CHANNEL_STALE latched and the blocks that
use it told (R56, R57); before that moment nothing happens, and no channel changes but one whose entry a check finds
bad (R37). A notice about the storage or pipeline pressure channel evaluates the compression flag (R99): with both
values usable, it becomes or stays true while storage less pipeline pressure is below the margin, once true below
margin plus hysteresis; a change latches COMPRESSION_CHANGED and is told to the duty controller and the accounts; that
the runs are told before the mode controller, and of a flag change the duty controller before the accounts, is the
model's choice (log entry 11); with a value not usable, or a channel not named, it holds; that an evaluation checks
the entries of both channels, storage before pipeline, is the model's choice (log entry 36). -/
def Obligations.AgeTimerAndCompressionFlag : Prop :=
  (∀ (s : State) (ch : Nat), ch < 64 → s.chans.length = 64 →
    (∀ t0, (s.chan ch).ageStart = some t0 → t0 + (s.chCfg ch).maxAge * 1000 ≤ s.now →
      let u := occur Src.channelStale ch (s.onChan ch fun c => { c with quality := .stale, ageStart := none })
      exec (.ageTimerExpiry ch) s = .next (pressureNotice ch (calorificAged ch u)) ∧
      ((∀ j, s.foundBad .channels j = false) → (pressureNotice ch (calorificAged ch u)).chans = u.chans)) ∧
    (∀ t0, (s.chan ch).ageStart = some t0 → s.now < t0 + (s.chCfg ch).maxAge * 1000 →
      exec (.ageTimerExpiry ch) s = .next s) ∧
    ((s.chan ch).ageStart = none → exec (.ageTimerExpiry ch) s = .next s)) ∧
  ∀ (s : State) (ch : Nat), s.foundBad .station 0 = false →
    let c := s.stationRead
    let usable (j : Nat) (v : Int) : Prop := (s.chCfg j).inUse = true ∧
      ((s.chan j).quality = .good ∨ (s.chan j).quality = .suspect) ∧ (s.chan j).filtered = some v
    (c.storage ≠ some ch → c.pipeline ≠ some ch → pressureNotice ch s = s) ∧
    (c.storage = none ∨ c.pipeline = none → (∀ j, s.foundBad .channels j = false) → pressureNotice ch s = s) ∧
    ∀ a b, c.storage = some a → c.pipeline = some b → ch = a ∨ ch = b →
      pressureNotice ch s = pressureNotice ch (useChannel b (useChannel a s)) ∧
      (s.foundBad .channels a = false → s.foundBad .channels b = false →
        ((∀ v, ¬usable a v) ∨ (∀ v, ¬usable b v) → pressureNotice ch s = s) ∧
        ∀ x y : Int, usable a x → usable b y →
          let flag := decide (x - y < if s.mode.flag then ((c.margin + c.hyst : Nat) : Int) else (c.margin : Int))
          (flag = s.mode.flag → pressureNotice ch s = s) ∧
          (flag ≠ s.mode.flag →
            let u := occur Src.compressionChanged noSubject { s with mode := { s.mode with flag := flag } }
            let v := dutyEvaluation { u with comp := { u.comp with heldFlag := flag } }
            pressureNotice ch s = curtail none { v with acct := { v.acct with flag := flag } }))

/-- READ_STATUS gives the items of R100 and R199 as they stand while it is in service (their codes, order, units, the
pending flag for every table and the one presence octet of a load are the model's choice, log entries 9, 85, 86 and
95); READ_CHANNEL gives the channel's record, after the check of its entry, which sets the quality of one found bad to
BAD (R59, R37), its values in engineering units or as span fractions, rounded half up (R58; the report format it shows
is the model's choice, log entry 63); READ_PEAKS checks the entry too (R31, R37, log entry 36), gives both peaks in
the report format, in engineering units when the entry carries a mark (R58), and makes them absent (R60); a channel
number above 63 is refused. -/
def Obligations.StatusAndChannelReads : Prop :=
  (∀ (n v : Nat) (x : Int) (l : List (List Octet)),
    beOpt n none = 0 :: be n 0 ∧ beOpt n (some v) = 1 :: be n v ∧
    beOptInt n none = 0 :: be n 0 ∧ beOptInt n (some x) = 1 :: beInt n x ∧ beList l = be 1 l.length ++ l.flatten) ∧
  (∀ s : State,
    let left (t : Option Nat) : List Octet := beOpt 4 (t.map (· - s.now))
    let mode : List Octet := match s.mode.mode with
      | .shutIn => [0, 0, 0, 0, 0]
      | .inject => [1, 0, 0, 0, 0]
      | .withdraw => [2, 0, 0, 0, 0]
      | .transition d p => [3, 1] ++ be 1 d.code ++ [1] ++ be 1 p.code
    let load : List Octet := match s.mgmt.load with
      | none => 0 :: be 7 0
      | some l => 1 :: be 1 l.table.code ++ be 2 l.length ++ be 2 (l.written.countP id) ++ be 2 l.crc.toNat
    let committing : Bool := match s.mgmt.service with
      | some (.committing _) => true
      | _ => false
    s.timeStatus = be 6 s.time.count ++ beFlag s.time.unset ++
      beOpt 6 (if s.time.unset then none else some s.time.start) ++ beOpt 7 s.time.next ++
      beOpt 3 (s.time.next.map fun next => s.time.count + s.tables.station.lMin * 60000 - next) ++
      beFlag s.time.stepFlag ++ beFlag s.time.firstFlag ++ be 1 s.tables.station.lMin ++
      beFlag s.ret.pendStation.isSome ++ mode ++ beFlag s.mode.esd ++ beOpt 1 (s.mode.lineup.map Lineup.code) ++
      beFlag s.mode.flag ++ left s.mode.tRundown ++ left s.mode.tQuiet ++ left s.mode.tLineup ∧
    s.partStatus = be 1 s.link.upQ.length ++ be 1 s.link.downQ.length ++ be 1 s.own.length ++ be 1 s.resp.length ++
      beFlag s.tables.link.extended ++ be 1 s.mgmt.waiting.length ++ load ++ beFlag committing ++
      ([TableId.link, .units, .channels, .filters, .runs, .station, .compressors, .dryers, .shippers,
        .events].flatMap fun t => beFlag (s.ret.committed.get t).isSome ++ beFlag (s.ret.pendingOf t).isSome ++
          be 1 ((s.parity.get t).countP (·.mark))) ++
      beFlag s.custody ++ be 3 s.comp.published ++ be 3 s.dry.total ++ be 3 (s.capOf .inject) ++
      be 3 (s.capOf .withdraw) ++ be 1 (if s.acct.closing.isSome then 1 else 0) ++ be 4 s.ret.lastInterval ++
      be 1 (s.ret.history.countP (·.pending)) ++ be 1 s.ev.alerts.length ++ be 1 (s.ev.recs.countP (·.latch)) ++
      beFlag s.mgmt.bootBad) ∧
  (∀ (s : State) (ch : Nat),
    let c := s.chCfg ch
    let x := s.chan ch
    let span := c.spanFormat && !s.marked .channels ch
    s.channelResult ch = beFlag c.inUse ++ be 1 c.cls.code ++ be 1 c.quantity.code ++ beFlag span ++
      beFlag (s.marked .channels ch) ++ s.reported ch x.filtered ++ s.reported ch x.scaled ++ s.reported ch x.lastGood ++
      beInt 3 x.raw ++ [x.rawQ] ++ be 1 (if c.inUse then x.quality else .stale).code ++ beFlag x.cmpA ++ beFlag x.cmpB ++
      be 1 x.request.code ++ beFlag x.custody.isSome ++ beFlag x.pendingItem.isSome ++ beFlag x.unconditioned ++
      beOpt 6 x.lastAccept ++ be 1 x.history.length ∧
    ∀ v, (span = false → s.reported ch v = beOptInt 4 v) ∧
      (span = true → s.reported ch v = beOptInt 2 (v.map (spanFraction c)))) ∧
  (∀ (c : ChannelCfg) (v : Int), c.engMin < c.engMax →
    let width := c.engMax - c.engMin
    let f := spanFraction c v
    2 * width * f ≤ 2 * ((v - c.engMin) * 32767) + width ∧ 2 * ((v - c.engMin) * 32767) + width < 2 * width * (f + 1) ∧
    (c.engMin ≤ v → v ≤ c.engMax → 0 ≤ f ∧ f ≤ 32767)) ∧
  ∀ (s : State) (q : Request) (b : Octet),
    let x := s.chan b.toNat
    let inUse := (s.chCfg b.toNat).inUse
    (s.Asks q 0x01 [] → exec .readStatus s = .next (s.answered q .ok (s.timeStatus ++ s.partStatus))) ∧
    (s.Asks q 0x02 [b] →
      (b.toNat ≤ 63 → s.foundBad .channels b.toNat = false →
        exec .readChannel s = .next (s.answered q .ok (s.channelResult b.toNat))) ∧
      (b.toNat ≤ 63 → s.foundBad .channels b.toNat = true →
        let u := useChannel b.toNat s
        exec .readChannel s = .next (answerRequest q .ok (u.channelResult b.toNat) u) ∧
        (b.toNat < s.chans.length → u.chan b.toNat = { x with
          quality := .bad
          pendingItem := none
          request := if x.request = .waiting then .none else x.request })) ∧
      (63 < b.toNat → exec .readChannel s = .next (s.answered q .badArgument []))) ∧
    (s.Asks q 0x03 [b] →
      (b.toNat ≤ 63 → s.foundBad .channels b.toNat = false →
        let shown (v : Option Int) : List Octet := s.reported b.toNat (if inUse then v else none)
        exec .readPeaks s = .next
          ((s.onChan b.toNat fun c => { c with peakMax := none, peakMin := none }).answered q .ok
            (shown x.peakMax ++ shown x.peakMin))) ∧
      (b.toNat ≤ 63 → s.foundBad .channels b.toNat = true →
        let shown (v : Option Int) : List Octet := beOptInt 4 (if inUse then v else none)
        exec .readPeaks s = .next (answerRequest q .ok (shown x.peakMax ++ shown x.peakMin)
          ((useChannel b.toNat s).onChan b.toNat fun c => { c with peakMax := none, peakMin := none }))) ∧
      (63 < b.toNat → exec .readPeaks s = .next (s.answered q .badArgument [])))

/-! ### Meter runs -/

/-- R69: the volume of a trigger and the residue it leaves. A trigger with q = 0 gives no volume and leaves the
residue; the residue lies in 0 … 359 after every trigger; over any series of triggers the volumes, times 360, with the
final residue, make up the sum of |q| × Δt and the residue before; and the product is at most 3,000,000,000,000. -/
def Obligations.ActualVolumeLosesNothing : Prop :=
  (∀ (q : Int) (dt : Nat), q.natAbs ≤ 50000000 → dt ≤ 60000 → q.natAbs * dt ≤ 3000000000000) ∧
  (∀ (q : Int) (dt r : Nat),
    (actualVolume q dt r).1 = (q.natAbs * dt + r) / 360 ∧ (actualVolume q dt r).2 = (q.natAbs * dt + r) % 360) ∧
  (∀ dt r : Nat, r < 360 → actualVolume 0 dt r = (0, r)) ∧
  (∀ (q : Int) (dt r : Nat), (actualVolume q dt r).2 < 360) ∧
  ∀ (triggers : List (Int × Nat)) (r0 : Nat),
    let done := triggers.foldl
      (fun x t => (x.1 + (actualVolume t.1 t.2 x.2).1, (actualVolume t.1 t.2 x.2).2)) (0, r0)
    done.1 * 360 + done.2 = (triggers.map fun t => t.1.natAbs * t.2).sum + r0

/-- A trigger (R66 to R77). For a run without a parity mark and with a previous mark: the interval is capped (R67),
the volume residue and the energy residue are exact (R69, R75), the standard volume is rounded half up (R72), the
energy goes to the accumulator that the table of R76 gives by role, sign of flow and mode, and saturates there (R62),
and the run's mark becomes the present moment. Where no water is told, GAP_CAPPED, FLOW_SUBSTITUTED, Z_RANGE and
COUNTERFLOW are latched in their cases and no other; energy out of a STATION run tells each of its trains the volume
(R77). The accumulators are numbered: 0 into or consumption, 1 out, 2 transit-in, 3 transit-out. Without a previous
mark, or under a parity mark, only the time is recorded and ESTIMATED set (R66, R81). A RUNS entry found bad at the
trigger is marked, with TABLE_PARITY, and the same follows (R81). -/
def Obligations.TriggerComputesEnergy : Prop :=
  (∀ (s : State) (r : Nat), r < s.runs.length → s.foundBad .runs r = true →
    trigger r s = (occur Src.tableParity r (s.setMark .runs r)).onRun r fun x =>
      { x with mark := some s.now, estimated := true }) ∧
  ∀ (s : State) (r : Nat), r < s.runs.length → s.foundBad .runs r = false →
    let x := s.run r
    let c := s.runCfg r
    ((x.mark = none ∨ s.marked .runs r = true) →
      trigger r s = s.onRun r fun x => { x with mark := some s.now, estimated := true }) ∧
    ∀ m, s.marked .runs r = false → x.mark = some m →
      let y := (trigger r s).run r
      let dt := min (s.now - m) c.gapCap
      ∃ rec, y.last = some rec ∧ y.mark = some s.now ∧ y.role = x.role ∧ y.ref = x.ref ∧ y.refTimer = x.refTimer ∧
        y.lastH = x.lastH ∧ rec.dt = dt ∧ rec.va * 360 + y.rV = rec.q.natAbs * dt + x.rV ∧ y.rV < 360 ∧
        rec.vb = (2 * (rec.va * rec.p * c.tb * c.zb) + c.pb * rec.t * rec.z) / (2 * (c.pb * rec.t * rec.z)) ∧
        rec.e * 1000 + y.rE = rec.vb * rec.h + x.rE ∧ y.rE < 1000 ∧
        (rec.q = 0 ∨ x.role = .unused → rec.acc = none) ∧
        (x.role = .fuel ∨ x.role = .regen → rec.q ≠ 0 → rec.acc = some 0) ∧
        (x.role = .station → 0 < rec.q → rec.acc = some (if s.mode.mode = .inject then 0 else 2)) ∧
        (x.role = .station → rec.q < 0 → rec.acc = some (if s.mode.mode = .withdraw then 1 else 3)) ∧
        (∀ a, rec.acc = some a →
          y.slots = x.slots.modify a fun z => { z with joules := min (2 ^ 64 - 1) (z.joules + rec.e) }) ∧
        (rec.acc = none → y.slots = x.slots) ∧
        (∀ j, j ≠ r → (trigger r s).run j = s.run j) ∧
        (rec.acc ≠ some 1 → s.ev.recs.length = 48 →
          let told (case : Bool) (src : Nat) : Prop := (trigger r s).source src =
            if case then ⟨true, min 255 ((s.source src).count + 1), BitVec.ofNat 8 r⟩ else s.source src
          told (decide (c.gapCap < s.now - m)) Src.gapCapped ∧ told rec.flags.qSubstituted Src.flowSubstituted ∧
          told rec.flags.zClamped Src.zRange ∧
          told (decide (x.role = .station) && (decide (s.mode.mode = .withdraw) && decide (0 < rec.q) ||
            decide (s.mode.mode = .inject) && decide (rec.q < 0))) Src.counterflow) ∧
        (x.role = .station → rec.acc = some 1 → 0 < rec.vb →
          ∃ u : State, u.runs = s.runs.set r y ∧ u.dry = s.dry ∧ u.tables = s.tables ∧
            trigger r s = flowNotice (dryVolume r rec.vb u)) ∧
        (x.role = .station → rec.acc ≠ some 1 → ∃ u : State, u.runs = s.runs.set r y ∧ u.dry = s.dry ∧
          trigger r s = flowNotice u)

/-- The inputs of a trigger that computes, for sound entries of its three channels: the rate (R68), pressure and
temperature with their ages, holds and base values (R70), each limited to its range, the compressibility on a rising
curve (R71) and the calorific value by the reference state (R75); the last good P and T follow GOOD values, and
ESTIMATED is set exactly by the causes of R78. A trigger that finds a channel's entry bad computes as after the
finding (R37); that it checks the flow, pressure and temperature channels, in this order and before all else, is the
model's choice (log entry 36). The reference (R73): a GOOD completion of the calorific channel makes it READY with a
last good H in range and starts the timer, a BAD one makes it FAULT with REF_FAULT, others change nothing; the
channel's age expiry and the stale timer make a READY one STALE with REF_STALE; all are held while the run carries a
mark (R74); a run made UNUSED keeps its running timer (the model's choice, log entry 88). READ_RUN gives the run after
the check of its entry (R82; the form of its items, of the input flags and of the accumulator chosen is the model's
choice, log entries 9, 66 and 87). -/
def Obligations.TriggerInputsAndReference : Prop :=
  (∀ (s : State) (r m : Nat), r < s.runs.length → s.foundBad .runs r = false → s.marked .runs r = false →
    (s.run r).mark = some m →
    let c := s.runCfg r
    let x := s.run r
    let y := (trigger r s).run r
    let reading (ch : Nat) (q : Quality) (v : Int) : Prop :=
      (s.chCfg ch).inUse = true ∧ (s.chan ch).quality = q ∧ (s.chan ch).filtered = some v
    let usable (ch : Nat) (v : Int) : Prop := reading ch .good v ∨ reading ch .suspect v
    let fresh (ch : Nat) : Prop := ∃ t0, (s.chan ch).ageStart = some t0 ∧ s.now - t0 ≤ c.ptMaxAge * 1000
    let whole (ch : Nat) (lo hi : Int) : Prop := ∃ v, reading ch .good v ∧ lo ≤ v ∧ v ≤ hi
    trigger r s = trigger r (useChannel c.temp (useChannel c.press (useChannel c.flow s))) ∧
    ((∀ ch ∈ [c.flow, c.press, c.temp], s.foundBad .channels ch = false) → ∀ rec, y.last = some rec →
      (∀ v, usable c.flow v → rec.q = max (-50000000) (min v 50000000)) ∧
      ((∀ v, ¬usable c.flow v) → rec.q = c.subst ∧ rec.flags.qSubstituted = true) ∧
      ((∃ v, usable c.flow v) → rec.flags.qSubstituted = false) ∧
      (∀ v, usable c.press v → fresh c.press → rec.p = (max 0 (min v 30000000)).toNat) ∧
      ((∀ v, ¬usable c.press v) ∨ ¬fresh c.press → rec.p = x.lastP.getD c.pb) ∧
      (∀ v, usable c.temp v → fresh c.temp → rec.t = (max 20000 (min v 40000)).toNat) ∧
      ((∀ v, ¬usable c.temp v) ∨ ¬fresh c.temp → rec.t = x.lastT.getD c.tb) ∧
      ((∃ v, reading c.press .good v) → fresh c.press → y.lastP = some rec.p) ∧
      ((∀ v, ¬reading c.press .good v) ∨ ¬fresh c.press → y.lastP = x.lastP) ∧
      ((∃ v, reading c.temp .good v) → fresh c.temp → y.lastT = some rec.t) ∧
      ((∀ v, ¬reading c.temp .good v) ∨ ¬fresh c.temp → y.lastT = x.lastT) ∧
      (c.curve.Pairwise (fun a b => a.1 < b.1) →
        (∀ a, c.curve.head? = some a → rec.p < a.1 → rec.z = a.2) ∧
        (∀ a, c.curve.getLast? = some a → a.1 < rec.p → rec.z = a.2) ∧
        (∀ a ∈ c.curve, rec.p = a.1 → rec.z = a.2) ∧
        (∀ i a b, c.curve[i]? = some a → c.curve[i + 1]? = some b → a.1 < rec.p → rec.p < b.1 →
          rec.z = (roundHalfAway (a.2 * ((b.1 : Int) - a.1) + ((b.2 : Int) - a.2) * ((rec.p : Int) - a.1))
            (b.1 - a.1)).toNat) ∧
        (rec.flags.zClamped = true ↔ (∀ a ∈ c.curve, rec.p < a.1) ∨ ∀ a ∈ c.curve, a.1 < rec.p)) ∧
      (x.ref = .ready → c.calCh = none → rec.h = c.fallbackH) ∧
      (∀ h, x.ref = .ready → c.calCh ≠ none → x.lastH = some h → rec.h = h) ∧
      (∀ h, x.ref = .stale → x.lastH = some h → rec.h = h) ∧
      (x.ref = .fault ∨ x.ref = .none → rec.h = c.fallbackH) ∧
      (y.estimated = true ↔ x.estimated = true ∨ c.gapCap < s.now - m ∨ ¬whole c.flow (-50000000) 50000000 ∨
        ¬(whole c.press 0 30000000 ∧ fresh c.press) ∨ ¬(whole c.temp 20000 40000 ∧ fresh c.temp) ∨
        rec.flags.zClamped = true ∨ x.ref ≠ .ready ∨
        ∃ a, rec.acc = some a ∧ 2 ^ 64 - 1 < (x.slots.getD a ⟨0, 0⟩).joules + rec.e))) ∧
  (∀ (s : State) (ch r : Nat), r < 8 → s.runs.length = 8 → s.ev.recs.length = 48 →
    let x := s.run r
    let t := calorificCompletion ch s
    let u := calorificAged ch s
    let named := (s.runCfg r).calCh = some ch ∧ s.marked .runs r = false
    (¬named → t.run r = x ∧ u.run r = x) ∧
    (named →
      (∀ v, (s.chan ch).quality = .good → (s.chan ch).filtered = some v → t.run r = { x with
        ref := .ready
        lastH := some (max 20000 (min v 60000)).toNat
        refTimer := startTimer s.now ((s.runCfg r).refStale * 1000) }) ∧
      ((s.chan ch).quality = .bad → x.ref ≠ .fault →
        t.run r = { x with ref := .fault, refTimer := none } ∧ (t.source Src.refFault).latch = true) ∧
      ((s.chan ch).quality = .bad → x.ref = .fault → t.run r = x) ∧
      (x.ref = .ready → u.run r = { x with ref := .stale, refTimer := none } ∧ (u.source Src.refStale).latch = true) ∧
      (x.ref ≠ .ready → u.run r = x)) ∧
    ((s.chan ch).quality = .suspect ∨ (s.chan ch).quality = .stale → t = s)) ∧
  (∀ (s : State) (r : Nat), r < 8 →
    (fires s.now (s.run r).refTimer = true → s.marked .runs r = false → (s.run r).ref = .ready →
      exec (.refStaleTimerExpiry r) s =
        .next (occur Src.refStale r (s.onRun r fun x => { x with ref := .stale, refTimer := none }))) ∧
    (fires s.now (s.run r).refTimer = false ∨ s.marked .runs r = true ∨ (s.run r).ref ≠ .ready →
      exec (.refStaleTimerExpiry r) s = .next s)) ∧
  (∀ (s : State) (r : Nat),
    let x := s.run r
    let accumulators : Nat := match x.role with
      | .station => 4
      | .fuel => 1
      | .regen => 1
      | .unused => 0
    let record : List Octet := x.last.elim (0 :: be 55 0) fun t => 1 :: (be 2 t.dt ++ beInt 4 t.q ++ be 4 t.p ++
      be 2 t.t ++ be 3 t.z ++ be 2 t.h ++ be 8 t.va ++ be 8 t.vb ++ be 8 t.e ++ beOpt 1 t.acc ++
      [t.flags.dtCapped, t.flags.qSubstituted, t.flags.qClamped, t.flags.pHeld, t.flags.pSubstituted, t.flags.pClamped,
        t.flags.tHeld, t.flags.tSubstituted, t.flags.tClamped, t.flags.zClamped, t.flags.hHeld,
        t.flags.hSubstituted].flatMap beFlag)
    s.runResult r = s.entryImage .runs r ++ be 1 x.role.code ++ beFlag s.ret.pendRuns.isSome ++
      beFlag (s.marked .runs r) ++ be 2 x.rV ++ be 2 x.rE ++
      beList ((x.slots.take accumulators).map fun a => be 8 a.joules ++ be 3 a.carry) ++ beFlag x.estimated ++
      be 1 x.ref.code ++ beOpt 2 x.lastH ++ beOpt 4 x.lastP ++ beOpt 2 x.lastT ++
      beOpt 6 (x.mark.map fun m => s.now - m) ++ record) ∧
  ∀ (s : State) (q : Request) (b : Octet), s.Asks q 0x04 [b] →
    (b.toNat ≤ 7 → s.foundBad .runs b.toNat = false →
      exec .readRun s = .next (s.answered q .ok (s.runResult b.toNat))) ∧
    (b.toNat ≤ 7 → s.foundBad .runs b.toNat = true →
      let u := occur Src.tableParity b.toNat (s.setMark .runs b.toNat)
      exec .readRun s = .next (answerRequest q .ok (u.runResult b.toNat) u)) ∧
    (7 < b.toNat → exec .readRun s = .next (s.answered q .badArgument []))

/-- The handover of a slot divides its joules and carry into whole kWh and a new carry without loss (R79), and a run
hands over every accumulator of its role, leaving residues, mark and reference as they were. The kWh and the ESTIMATED
flag reach the handover group of that boundary number (R167), which opens at its first handover; an UNUSED run hands
over nothing. -/
def Obligations.HandoverLosesNoEnergy : Prop :=
  (∀ a : Slot, a.kWh * 3600000 + a.handedOver.carry = a.joules + a.carry ∧ a.handedOver.carry < 3600000 ∧
    a.handedOver.joules = 0) ∧
  ∀ (num : Nat) (s : State) (r : Nat), r < s.runs.length →
    let x := s.run r
    let t := handover num r s
    let y := t.run r
    let kWh (i : Nat) : Nat := (x.slots.getD i ⟨0, 0⟩).kWh
    let gained (g : Group) : Group := match x.role with
      | .station => { g with
          mInj := g.mInj + kWh 0
          mWd := g.mWd + kWh 1
          tIn := g.tIn + kWh 2
          tOut := g.tOut + kWh 3
          estimated := g.estimated || x.estimated }
      | .fuel => { g with fuel := g.fuel + kWh 0, estimated := g.estimated || x.estimated }
      | .regen => { g with regen := g.regen + kWh 0, estimated := g.estimated || x.estimated }
      | .unused => g
    y = { x with slots := y.slots, estimated := y.estimated } ∧ y.slots.length = x.slots.length ∧
    (∀ i < x.slots.length, i < x.role.accumulators →
      (y.slots.getD i ⟨0, 0⟩) = ⟨0, ((x.slots.getD i ⟨0, 0⟩).joules + (x.slots.getD i ⟨0, 0⟩).carry) % 3600000⟩) ∧
    (∀ i < x.slots.length, x.role.accumulators ≤ i → y.slots.getD i ⟨0, 0⟩ = x.slots.getD i ⟨0, 0⟩) ∧
    (x.role ≠ .unused → y.estimated = false) ∧ (x.role = .unused → y.estimated = x.estimated) ∧
    (x.role = .unused → t = s) ∧
    (∀ older newer g, x.role ≠ .unused → s.acct.groups = older ++ g :: newer → g.num = num →
      (∀ h ∈ older ++ newer, h.num ≠ num) → t.acct.groups = older ++ gained g :: newer) ∧
    (x.role ≠ .unused → (∀ h ∈ s.acct.groups, h.num ≠ num) →
      t.acct.groups = s.acct.groups ++ [gained ⟨num, 0, 0, 0, 0, 0, 0, false, false⟩]) ∧
    (∀ j, j ≠ r → t.run j = s.run j) ∧ t.ret = s.ret ∧ t.tables = s.tables

/-! ### Station time and mode -/

/-- A boundary that is due is raised (R85): its number is one more, the interval that begins starts at the boundary's
time with both flags clear, the next boundary is the least multiple of the interval length above it, and, with no RUNS
image pending, every run hands over (R79); a pending RUNS image takes effect for every run after its handover, which
keeps what R65 says of each changed parameter, and clears every mark (R65, R81); that a running reference stale timer
keeps its end when its time alone changes, and that entries of UNUSED runs are compared as they stand, is the model's
(log entries 71 and 32). The notices go to the meter runs, the Account Engine and the Duty Controller, which writes
all run seconds (R85, R130); that the runs hand over before the account is told is the model's choice (log entry 11).
A pending STATION image then takes effect (R87): it becomes the committed one, its marks go, TABLE_COMMITTED is
latched, the sweep period timer starts again if the period changed, and a new interval length counts for the next
boundary, the caps and the demand. A STATION record found bad at the boundary is treated first (R209). One that is not
due changes nothing. Station time that passes 2^48 - 1 starts again from 0 (R84); once time is set this is a backward
step (R89); the count stands at 2^48 between the millisecond and this step (the model's choice, log entry 52). -/
def Obligations.BoundariesAndTimeWrap : Prop :=
  (∀ s : State,
    (s.time.count < 2 ^ 48 → exec .timeWrap s = .next s) ∧
    (s.time.count = 2 ^ 48 → s.time.unset = true →
      exec .timeWrap s = .next { s with time := { s.time with count := 0 } }) ∧
    (s.time.count = 2 ^ 48 → s.time.unset = false →
      let u := occur Src.timeStep noSubject { s with time := { s.time with count := 0, stepFlag := true } }
      exec .timeWrap s = .next { u with
        time := { u.time with next := some (s.tables.station.lMin * 60000) } }) ∧
    (s.boundaryDue = true → s.ret.pendRuns = none → ∃ t, exec .boundary s = .next t ∧
      t.time = { s.time with
        boundaries := s.time.boundaries + 1
        start := s.time.count
        stepFlag := false
        firstFlag := false
        next := some (leastMultipleAbove s.time.count (t.tables.station.lMin * 60000)) } ∧
      (∀ r < 8, t.run r = (s.run r).handedOver) ∧
      t.mode = s.mode ∧ t.units = s.units ∧ t.chans = s.chans ∧ t.dry = s.dry ∧ t.now = s.now ∧
      t.ret.pendStation = none ∧ (s.ret.pendStation = none → t.tables = s.tables)) ∧
    (∀ img, s.boundaryDue = true → s.ret.pendRuns = some img → s.runs.length = 8 → ∃ t, exec .boundary s = .next t ∧
      t.ret.pendRuns = none ∧ t.tables.runs = decodeEntries .runs decodeRun img.octets ∧
      ∀ r < 8,
        let old := s.runCfg r
        let new := t.runCfg r
        let x := (s.run r).handedOver
        let started := old.flow ≠ new.flow ∨ ¬(old.role = .unused ↔ new.role = .unused)
        t.marked .runs r = false ∧
        t.run r = { x with
          role := new.role
          mark := if started then none else x.mark
          last := if started then none else x.last
          lastP := if old.press ≠ new.press then none else x.lastP
          lastT := if old.temp ≠ new.temp then none else x.lastT
          lastH := if old.cal ≠ new.cal then none else x.lastH
          refTimer := if old.cal ≠ new.cal then none else x.refTimer
          ref := if old.cal ≠ new.cal then if new.cal = none then .ready else .none else x.ref }) ∧
    (s.boundaryDue = true ↔ s.time.unset = false ∧ s.time.count < 2 ^ 48 ∧ ∃ b, s.time.next = some b ∧ b ≤ s.time.count) ∧
    (s.boundaryDue = true → exec .boundary s = .next (raiseBoundary s)) ∧
    (s.boundaryDue = false → exec .boundary s = .next s)) ∧
  ∀ s : State,
    let x := occur Src.tableParity 0 (s.setMark .station 0)
    let w : State := if s.foundBad .station 0 then { x with engine := { s.engine with sweepDue := none } } else s
    let n : Notice := ⟨s.time.boundaries + 1, s.time.start, s.time.count, s.time.stepFlag, s.time.firstFlag⟩
    let begun := { w with time := { s.time with boundaries := n.num } }
    let told := acctBoundary n (handoverAll n.num begun)
    let given := { told with
      ret := { told.ret with runSeconds := told.comp.recs.map (·.runSec) }
      time := { told.time with stepFlag := false, firstFlag := false, start := s.time.count } }
    let onward (y : State) : State :=
      { y with time := { y.time with next := some (leastMultipleAbove s.time.count (y.tables.station.lMin * 60000)) } }
    (s.ret.pendRuns = none →
      handoverAll n.num begun = completeGroup n.num ((List.range 8).foldl (fun y r => handover n.num r y) begun)) ∧
    (s.ret.pendStation = none → raiseBoundary s = onward given) ∧
    ∀ img, s.ret.pendStation = some img →
      let latched := occur Src.tableCommitted noSubject { given with
        tables := given.tables.load .station img.octets
        parity := given.parity.put .station ((given.parity.get .station).map fun _ => EntryParity.sound)
        ret := { given.ret with
          committed := given.ret.committed.put .station (some img)
          pendStation := none } }
      let swept := if latched.stationRead.sweep = given.stationRead.sweep then latched else { latched with
        engine := { latched.engine with sweepDue := startTimer latched.now (latched.stationRead.sweep * 1000) } }
      raiseBoundary s = onward (if swept.tables.station.lMin = given.tables.station.lMin then swept
        else dutyEvaluation (curtail none (reclampAll swept)))

/-- SET_TIME by the cases of R88 and R89, as a request that is answered or as a broadcast that receives no response
(R6): the first one sets the time and raises a boundary; then an equal time changes nothing, a lesser one steps back
and computes the next boundary afresh, a greater one steps forward, and across a boundary it raises one, or is refused
while the accounts are CLOSING. Every OK carries the time set. -/
def Obligations.SetTimeByCase : Prop :=
  ∀ (s : State) (q : Request) (args : List Octet), args.length = 6 →
    s.mgmt.service = some (.taken q) → q.payload = 0x10 :: args → q.noResponse = true ∨ s.resp.length < 2 →
    let new := fieldAt args 0 6
    let done (status : Status) (result : List Octet) (x : State) : State :=
      if q.noResponse = true then
        { x with mgmt := { x.mgmt with waiting := x.mgmt.waiting.tail, service := x.mgmt.waiting.head?.map .taken } }
      else x.answered q status result
    let stepped : State := occur Src.timeStep noSubject { s with time := { s.time with count := new, stepFlag := true } }
    (s.time.unset = true →
      exec .setTime s = .next (done .ok (be 6 new)
        (raiseBoundary { s with time := { s.time with count := new, unset := false } }))) ∧
    (s.time.unset = false → new = s.time.count → exec .setTime s = .next (done .ok (be 6 new) s)) ∧
    (s.time.unset = false → new < s.time.count →
      exec .setTime s = .next (done .ok (be 6 new) { stepped with
        time := { stepped.time with next := some (leastMultipleAbove new (s.tables.station.lMin * 60000)) } })) ∧
    (s.time.unset = false → s.time.count < new → (∀ b, s.time.next = some b → new < b) →
      exec .setTime s = .next (done .ok (be 6 new) stepped)) ∧
    ∀ b, s.time.unset = false → s.time.count < new → s.time.next = some b → b ≤ new →
      (s.acct.closing = none → exec .setTime s = .next (done .ok (be 6 new) (raiseBoundary stepped))) ∧
      (s.acct.closing ≠ none → exec .setTime s = .next (done .closing [] s))

/-- SET_MODE by the cases of R91: SHUT_IN is taken in every mode, under ESD too, offers the shut lineup and latches
MODE_CHANGED (R94; that R94's exception for an entry under ESD is the entry R96 makes, and not this one, is the
model's reading, log entry 40); towards a flow it is refused under ESD, without the station valve set, or for WITHDRAW
without its precondition; it begins a LINEUP from SHUT_IN and a RUNDOWN from the other flow, changes nothing when the
mode is already on its way there, and is refused TRANSITION_BUSY when it is on its way elsewhere. The precondition is
that every train IN_SERVICE or DEGRADED has a bed in ADSORBING or STANDBY (R91). Entry to LINEUP starts the lineup
timer and offers LINEUP for the target, or fails at once without the valve set (R92); entry to RUNDOWN starts the
rundown timer and evaluates the station flow (R93; `flowNotice`, which TransitionTimersExpire spells). A STATION
record found bad where these read it is marked, with TABLE_PARITY, the sweep period timer stops, and the timeouts read
as their defaults (R209). -/
def Obligations.SetModeByCase : Prop :=
  (∀ (s : State) (q : Request) (b : Octet), s.Asks q 0x11 [b] →
    (b.toNat = 0 →
      let t := occur Src.modeChanged noSubject (tellMode .shutIn (offerLineup .shut (stopModeTimers s)))
      exec .setMode s = .next (answerRequest q .ok [0, 0, 0, 0, 0] t) ∧ t.mode.mode = .shutIn) ∧
    (2 < b.toNat → exec .setMode s = .next (s.answered q .badArgument [])) ∧
    ∀ d : Dir, b.toNat = d.code + 1 →
      let flow := match d with
        | .inject => Mode.inject
        | .withdraw => Mode.withdraw
      let allowed := s.mode.esd = false ∧ s.stationPresent = true ∧ (d = .withdraw → s.withdrawalPrecondition = true)
      (¬allowed → exec .setMode s = .next (s.answered q .wrongState [])) ∧
      (allowed → s.mode.mode = .shutIn →
        exec .setMode s = .next (answerRequest q .ok (enterLineup d s).mode.mode.result (enterLineup d s))) ∧
      (allowed → s.mode.mode = flow → exec .setMode s = .next (s.answered q .ok s.mode.mode.result)) ∧
      (allowed → (s.mode.mode = .inject ∨ s.mode.mode = .withdraw) → s.mode.mode ≠ flow →
        exec .setMode s = .next (answerRequest q .ok (enterRundown d s).mode.mode.result (enterRundown d s))) ∧
      ∀ (target : Dir) (p : Phase), allowed → s.mode.mode = .transition target p →
        (target = d → exec .setMode s = .next (s.answered q .ok s.mode.mode.result)) ∧
        (target ≠ d → exec .setMode s = .next (s.answered q .transitionBusy []))) ∧
  (∀ s : State,
    (s.withdrawalPrecondition = true ↔ ∀ i < 2, (s.train i).state = .outOfService ∨
      ∃ x, ((s.train i).bed x).state = .adsorbing ∨ ((s.train i).bed x).state = .standby) ∧
    (let valveSet (e : Nat) : Prop := s.unitInUse e = true ∧ (s.unitCfg e).cls = .stationValves;
      (∀ e < 48, valveSet e → (∀ j < e, ¬valveSet j) →
        (s.stationPresent = true ↔ (s.unit e).attach = .present) ∧ ∀ l, offerLineup l s = offerOwn e (.lineup l) s) ∧
      ((∀ e < 48, ¬valveSet e) → s.stationPresent = false ∧ ∀ l, offerLineup l s = s))) ∧
  ∀ (s : State) (d : Dir),
    let x := occur Src.tableParity 0 (s.setMark .station 0)
    let w : State := if s.foundBad .station 0 then { x with engine := { s.engine with sweepDue := none } } else s
    (s.stationPresent = true → enterLineup d s =
      tellMode (.transition d .lineup) (offerLineup d.lineup { w with
        mode := { s.mode with
          tLineup := startTimer s.now (w.stationRead.lineup * 1000)
          tRundown := none
          tQuiet := none } })) ∧
    (s.stationPresent = false → enterLineup d s =
      occur Src.transitionFailed noSubject (tellMode .shutIn (offerLineup .shut (stopModeTimers w)))) ∧
    enterRundown d s = flowNotice (tellMode (.transition d .rundown) { w with
      mode := { s.mode with
        tLineup := none
        tRundown := startTimer s.now (w.stationRead.rundown * 1000)
        tQuiet := none } })

/-- The timers of a transition (R92, R93, R94): a lineup or rundown timer that runs out fails the transition into
SHUT_IN with its timers stopped; a quiet dwell that runs out fails it too when a WITHDRAW has lost its precondition or
the station valve set is gone, and begins the LINEUP phase otherwise; outside its phase, or before its end, each
changes nothing. The station flow is evaluated in RUNDOWN alone, at its entry and at each trigger of a STATION run
(R93): the sum of |q| over the last trigger records of the STATION runs, at or below the quiet threshold, starts the
quiet dwell timer if it is stopped; a sum above it, or a STATION run without a record, stops it. A STATION record
found bad where these read it is marked first; a marked record is read with every field but the interval length at its
default (R86, R209). -/
def Obligations.TransitionTimersExpire : Prop :=
  (∀ s : State,
    let failed := occur Src.transitionFailed noSubject (tellMode .shutIn (offerLineup .shut (stopModeTimers s)))
    (failed.mode = { s.mode with mode := .shutIn, tLineup := none, tRundown := none, tQuiet := none }) ∧
    (∀ d, s.mode.mode = .transition d .lineup →
      exec .lineupTimerExpiry s = .next (if fires s.now s.mode.tLineup then failed else s) ∧
      exec .rundownTimerExpiry s = .next s ∧ exec .quietDwellExpiry s = .next s) ∧
    (∀ d, s.mode.mode = .transition d .rundown →
      exec .lineupTimerExpiry s = .next s ∧
      exec .rundownTimerExpiry s = .next (if fires s.now s.mode.tRundown then failed else s) ∧
      (fires s.now s.mode.tQuiet = false → exec .quietDwellExpiry s = .next s) ∧
      (fires s.now s.mode.tQuiet = true → s.foundBad .station 0 = false →
        (d = .withdraw → s.withdrawalPrecondition = false → exec .quietDwellExpiry s = .next failed) ∧
        ((d = .withdraw → s.withdrawalPrecondition = true) → s.stationPresent = true →
          exec .quietDwellExpiry s = .next (tellMode (.transition d .lineup) (offerLineup d.lineup { s with
            mode := { s.mode with
              tLineup := startTimer s.now (s.stationRead.lineup * 1000)
              tRundown := none
              tQuiet := none } }))) ∧
        ((d = .withdraw → s.withdrawalPrecondition = true) → s.stationPresent = false →
          exec .quietDwellExpiry s = .next failed)) ∧
      (fires s.now s.mode.tQuiet = true → s.foundBad .station 0 = true →
        (d = .withdraw → s.withdrawalPrecondition = false → exec .quietDwellExpiry s = .next failed) ∧
        ((d = .withdraw → s.withdrawalPrecondition = true) →
          exec .quietDwellExpiry s = .next (enterLineup d s)))) ∧
    ((∀ d p, s.mode.mode ≠ .transition d p) →
      exec .lineupTimerExpiry s = .next s ∧ exec .rundownTimerExpiry s = .next s ∧ exec .quietDwellExpiry s = .next s)) ∧
  (∀ s : State,
    (s.marked .station 0 = false → s.stationRead = s.tables.station) ∧
    (s.marked .station 0 = true → s.stationRead = { s.tables.station with
      sweep := 0
      storage := none
      pipeline := none
      margin := 300000
      hyst := 50000
      quietThreshold := 10000
      quietDwell := 60
      rundown := 1200
      lineup := 300
      cutoff := 80 })) ∧
  ∀ s : State,
    let unknown := ∃ x ∈ s.runs, x.role = .station ∧ x.last = none
    let flow := (s.runs.map fun x => if x.role = .station then (x.last.map fun r => r.q.natAbs).getD 0 else 0).sum
    let x := occur Src.tableParity 0 (s.setMark .station 0)
    let w : State := if s.foundBad .station 0 then { x with engine := { s.engine with sweepDue := none } } else s
    let quiet := ¬unknown ∧ flow ≤ w.stationRead.quietThreshold
    ((∀ d, s.mode.mode ≠ .transition d .rundown) → flowNotice s = s) ∧
    ∀ d, s.mode.mode = .transition d .rundown →
      (quiet → s.mode.tQuiet = none → flowNotice s =
        { w with mode := { s.mode with tQuiet := startTimer s.now (w.stationRead.quietDwell * 1000) } }) ∧
      (quiet → s.mode.tQuiet ≠ none → flowNotice s = w) ∧
      (¬quiet → flowNotice s = { w with mode := { s.mode with tQuiet := none } })

/-- A STATE frame from the station valve set carries a lineup and an ESD indication; a shorter payload says nothing
(R95, R214). ESD active, while it was not, shuts the station in without offering LINEUP(SHUT), withdraws an unsent
LINEUP, tells the duty controller and latches ESD_ACTIVE; while it was, the lineup alone is recorded (R96; that it is,
log entry 67). ESD inactive ends an active ESD; the lineup is recorded and, by the mode, completes the LINEUP phase
(R92), ends a flow mode whose lineup is lost (R94), or does no more (R95). The notices: of a mode change the duty
controller is told before the Drying Controller (the model's choice, log entry 11); the Drying Controller takes the
mode and, at an entry to WITHDRAW, tests the loading and no-bed triggers of each synchronised train without a parity
mark and evaluates its state (R139; the triggers are spelled in WaterLoadingAndTrainState), train 0 before train 1
(the model's choice, log entry 91); the duty controller cancels unsent starts on ESD (R115) and on SHUT_IN re-sorts
its list and gives every unit in use an immediate stop, by its duty state (R114, R119); that the stops follow
ascending compressor number is the model's choice (log entry 72). -/
def Obligations.LineupAndEsdReports : Prop :=
  (∀ (s : State) (f : Frame) (i : Nat), f.kind = kindState → s.present i = true → (s.unitCfg i).cls = .stationValves →
    (f.payload.length < 2 → examine i f s = s) ∧
    ∀ (l e : Octet) (more : List Octet), f.payload = l :: e :: more →
      let lineup := lineupOf l
      let recorded (x : State) : State := { x with mode := { x.mode with lineup := some lineup } }
      let calm := if s.mode.esd = true then dutyEsd false { s with mode := { s.mode with esd := false } } else s
      let v := recorded calm
      (lineup = .shut ↔ l = 0) ∧ (lineup = .inject ↔ l = 1) ∧ (lineup = .withdraw ↔ l = 2) ∧
      (e ≠ 0 → s.mode.esd = true → examine i f s = recorded s) ∧
      (e ≠ 0 → s.mode.esd = false →
        let w := recorded s
        examine i f s = occur Src.esdActive noSubject (tellMode .shutIn (withdrawLineup (stopModeTimers
          (dutyEsd true { w with mode := { w.mode with esd := true } }))))) ∧
      (e = 0 →
        (s.mode.mode = .transition .inject .lineup → lineup = .inject →
          examine i f s = occur Src.modeChanged noSubject (tellMode .inject (stopModeTimers v))) ∧
        (s.mode.mode = .transition .withdraw .lineup → lineup = .withdraw →
          examine i f s = occur Src.modeChanged noSubject (tellMode .withdraw (stopModeTimers v))) ∧
        let lost := s.mode.mode = .inject ∧ (lineup = .shut ∨ lineup = .withdraw) ∨
          s.mode.mode = .withdraw ∧ (lineup = .shut ∨ lineup = .inject)
        (lost → examine i f s =
          occur Src.modeChanged noSubject (tellMode .shutIn (offerLineup .shut (stopModeTimers v)))) ∧
        (¬lost → (s.mode.mode = .transition .inject .lineup → lineup ≠ .inject) →
          (s.mode.mode = .transition .withdraw .lineup → lineup ≠ .withdraw) → examine i f s = v))) ∧
  (∀ (s : State) (m : Mode) (active : Bool),
    tellMode m s = dryMode m (dutyMode m { s with mode := { s.mode with mode := m } }) ∧
    (let v := { s with comp := { s.comp with heldMode := m } };
      (m ≠ .shutIn → dutyMode m s = dutyEvaluation v) ∧
      (m = .shutIn → dutyMode m s = dutyEvaluation (immediateStops
        { v with comp := { v.comp with order := v.sortOrder v.comp.order } }))) ∧
    (let v := { s with dry := { s.dry with heldMode := m } };
      let enters (i : Nat) (x : State) : State :=
        if (x.dryerCfg i).inUse = true ∧ (x.train i).synced = true ∧ x.marked .dryers i = false then
          evalTrain i (noBedTrigger i (loadingTrigger i x))
        else x
      (m ≠ .withdraw ∨ s.dry.heldMode = .withdraw → dryMode m s = v) ∧
      (m = .withdraw → s.dry.heldMode ≠ .withdraw → dryMode m s = enters 1 (enters 0 v))) ∧
    immediateStops s =
      (List.range 6).foldl (fun t k => if (t.compCfg k).inUse = true then immediateStop k t else t) s ∧
    dutyEsd active s = dutyEvaluation
      (let v := { s with comp := { s.comp with heldEsd := active } };
        if active = true then
          (List.range 6).foldl (fun t k => if (t.compRec k).state = .starting ∧ t.unsent (t.compEntry k) isStart = true then
            immediateStop k t else t) v
        else v)) ∧
  ∀ (s : State) (k : Nat),
    let r := s.compRec k
    let unload (x : CompRec) : CompRec := { x with
      state := .unloading
      tStart := if r.state = .starting then none else x.tStart
      tMinRun := if r.state = .running then none else x.tMinRun
      tStop := startTimer s.now ((s.compCfg k).stopConfirm * 1000)
      stopPending := false }
    (r.state = .starting → s.unsent r.entry isStart = true → immediateStop k s =
      (withdrawOwn r.entry isStart s).onComp k fun x =>
        { x with state := .stopped, marks := x.marks.dropLast, tStart := none }) ∧
    (r.state = .starting → s.unsent r.entry isStart = false →
      immediateStop k s = (offerOwn r.entry .stop s).onComp k unload) ∧
    (r.state = .running → s.present r.entry = true →
      immediateStop k s = (withdrawOwn r.entry isSpeed (offerOwn r.entry .stop s)).onComp k unload) ∧
    (r.state = .running → s.present r.entry = false →
      immediateStop k s = s.onComp k fun x => { x with tMinRun := none }) ∧
    (r.state ≠ .starting → r.state ≠ .running → immediateStop k s = s)

/-! ### Compressor duty -/

/-- A STATE frame acts only while its entry is PRESENT (R8). From a compressor it reaches the record in use whose
entry that is, and its condition is recorded; an unnamed code is TRANSIENT, and UNIT_TRIPPED is latched by a TRIPPED
that follows another report (R105). Then by the duty state: a first report settles it (R106); TRIPPED locks the unit
out; RUNNING confirms a start (R110) or is a local start; STOPPED ends a run or an unload in COOLDOWN (R107, R113);
the rest are recorded only, as are all of a record with a parity mark and a TRIPPED in LOCKED_OUT, whose unsent own
STOP stays (the model's choice, log entry 96); an entry found bad locks the unit out first (R128). Each change is
followed by a duty evaluation. -/
def Obligations.CompressorReports : Prop :=
  (∀ (now : Nat) (marks : List Nat),
    (marks.length ≤ 7 → appendMark now marks = marks ++ [now]) ∧
    (marks.length = 8 → appendMark now marks = marks.tail ++ [now])) ∧
  ∀ (s : State) (f : Frame) (i : Nat), f.kind = kindState →
    (s.present i = false → examine i f s = s) ∧
    (s.present i = true → (s.unitCfg i).cls = .compressor →
      (f.payload = [] ∨ s.compOf i = none → examine i f s = s) ∧
      ∀ (b : Octet) (more : List Octet) (k : Nat), f.payload = b :: more → s.compOf i = some k →
        s.comp.recs.length = 6 →
        let c := conditionOf b
        let r := s.compRec k
        let recorded (x : State) : State := x.onComp k fun y => { y with lastReport := some c }
        let v := if c = .tripped ∧ r.lastReport ≠ some .tripped then occur Src.unitTripped k (recorded s) else recorded s
        let ranOn := startTimer s.now ((s.compCfg k).minRun * 1000)
        let lock (x : State) : State := withdrawAll r.entry (x.onComp k fun y => { y with
          state := .lockedOut
          tStart := none
          tStop := none
          tMinRun := none
          tCool := none
          stopPending := false })
        let settled (st : DutyState) : State :=
          dutyEvaluation (v.onComp k fun y => { y with state := st, lostOp := false, lockHeld := false })
        (c = .stopped ↔ b = 0) ∧ (c = .running ↔ b = 2) ∧ (c = .tripped ↔ b = 3) ∧
        (s.foundBad .compressors k = true →
          examine i f s = recorded (dutyEvaluation (lock (markEntry .compressors k k s)))) ∧
        (s.marked .compressors k = true → examine i f s = recorded s) ∧
        (s.foundBad .compressors k = false → s.marked .compressors k = false →
          (r.state = .unavailable →
            (c = .transient → examine i f s = v) ∧
            (c = .tripped ∨ c ≠ .transient ∧ r.lockHeld = true → examine i f s = settled .lockedOut) ∧
            (c = .stopped → r.lockHeld = false → examine i f s = settled .stopped) ∧
            (c = .running → r.lockHeld = false → examine i f s = dutyEvaluation (v.onComp k fun y => { y with
              state := .running
              lostOp := false
              lockHeld := false
              tMinRun := ranOn
              lastSpeed := none }))) ∧
          (r.state = .lockedOut → examine i f s = v) ∧
          (r.state ≠ .unavailable → r.state ≠ .lockedOut → c = .tripped → examine i f s = dutyEvaluation (lock v)) ∧
          (r.state = .stopped ∨ r.state = .cooldown →
            (c = .running → examine i f s = dutyEvaluation (occur Src.localStart k
              ((withdrawOwn r.entry isStop v).onComp k fun y => { y with
                state := .running
                marks := appendMark s.now y.marks
                tMinRun := ranOn
                tCool := none
                lastSpeed := none }))) ∧
            (c = .stopped ∨ c = .transient → examine i f s = v)) ∧
          (r.state = .starting →
            (c = .running → examine i f s = dutyEvaluation ((withdrawOwn r.entry isStart v).onComp k fun y => { y with
              state := .running
              tStart := none
              failures := 0
              tMinRun := ranOn })) ∧
            (c = .stopped ∨ c = .transient → examine i f s = v)) ∧
          (r.state = .running ∨ r.state = .unloading →
            (c = .stopped →
              let cool := (s.compCfg k).cooldown
              examine i f s = dutyEvaluation ((withdrawOwn r.entry isSpeed v).onComp k fun y => { y with
                state := if cool = 0 then .stopped else .cooldown
                tMinRun := none
                tStop := none
                tCool := startTimer s.now (cool * 1000)
                stopPending := false })) ∧
            (c = .running ∨ c = .transient → examine i f s = v))))

/-- The timers of a duty record (R108, R110 to R113): a start not confirmed has failed, the first failure leads to
COOLDOWN and the second to LOCKED_OUT; a stop that waited for the minimum run is then taken; a stop not confirmed
locks the unit out; a unit that has cooled down is STOPPED; marks as old as the window leave the list. Each change of
state is followed by a duty evaluation, and an expiry that is not due changes nothing. -/
def Obligations.DutyTimersExpire : Prop :=
  ∀ (s : State) (k : Nat), k < 6 → s.comp.recs.length = 6 →
    let r := s.compRec k
    let c := s.compCfg k
    let failed (n : Nat) : State := occur Src.startFailed k
      ((offerOwn r.entry .stop s).onComp k fun x => { x with tStart := none, failures := n })
    (¬(r.state = .starting ∧ fires s.now r.tStart = true) → exec (.startConfirmExpiry k) s = .next s) ∧
    (r.state = .starting → fires s.now r.tStart = true → r.failures = 0 →
      exec (.startConfirmExpiry k) s =
        .next (dutyEvaluation ((failed 1).onComp k fun x =>
          if c.cooldown = 0 then { x with state := .stopped, tCool := none }
          else { x with state := .cooldown, tCool := startTimer s.now (c.cooldown * 1000) }))) ∧
    (r.state = .starting → fires s.now r.tStart = true → 1 ≤ r.failures →
      exec (.startConfirmExpiry k) s =
        .next (dutyEvaluation (occur Src.unitLockedOut k ((failed 2).onComp k fun x => { x with state := .lockedOut })))) ∧
    (fires s.now r.tMinRun = false → exec (.minimumRunExpiry k) s = .next s) ∧
    (fires s.now r.tMinRun = true →
      let u := s.onComp k fun x => { x with tMinRun := none }
      (r.stopPending = true → r.state = .running →
        (s.present r.entry = false → exec (.minimumRunExpiry k) s = .next (dutyEvaluation u)) ∧
        (s.present r.entry = true → exec (.minimumRunExpiry k) s = .next (dutyEvaluation
          ((withdrawOwn r.entry isSpeed (offerOwn r.entry .stop u)).onComp k fun x => { x with
            state := .unloading
            tStop := startTimer s.now (c.stopConfirm * 1000)
            stopPending := false })))) ∧
      (r.stopPending = false ∨ r.state ≠ .running → exec (.minimumRunExpiry k) s = .next u)) ∧
    (¬(r.state = .unloading ∧ fires s.now r.tStop = true) → exec (.stopConfirmExpiry k) s = .next s) ∧
    (r.state = .unloading → fires s.now r.tStop = true →
      exec (.stopConfirmExpiry k) s = .next (dutyEvaluation
        (occur Src.stopTimeout k (s.onComp k fun x => { x with state := .lockedOut, tStop := none })))) ∧
    (¬(r.state = .cooldown ∧ fires s.now r.tCool = true) → exec (.cooldownExpiry k) s = .next s) ∧
    (r.state = .cooldown → fires s.now r.tCool = true →
      exec (.cooldownExpiry k) s =
        .next (dutyEvaluation (s.onComp k fun x => { x with state := .stopped, tCool := none }))) ∧
    ((∀ m ∈ r.marks, s.now < m + c.window * 1000) → exec (.startMarkAgeout k) s = .next s) ∧
    ((∃ m ∈ r.marks, m + c.window * 1000 ≤ s.now) →
      exec (.startMarkAgeout k) s = .next (dutyEvaluation (s.onComp k fun x =>
        { x with marks := x.marks.filter fun m => decide (s.now < m + c.window * 1000) })))

/-- The requests on compressors: RESET_UNIT returns a LOCKED_OUT unit that reports STOPPED to STOPPED with no failures
counted (R117); SET_UNIT_AUTO and SET_UNIT_MANUAL set the mode, the unit joining the tail of the duty order list or
leaving it (R118); ROTATE re-sorts the list and answers it (R119); READ_COMPRESSOR gives the record, UNAVAILABLE for
one not in use, with the demand, the published capacity, the demand totals and the list (R129); the widths, the
presence octets and the units of its times are the model's choice (log entries 9, 68, 69 and 75). An entry found bad
is treated first (R128; log entry 82); one of a record not in use is marked alone, the model's choice (log entry 37).
-/
def Obligations.DutyRequests : Prop :=
  (∀ (s : State) (k : Nat),
    let r := s.compRec k
    let shown := if s.compInUse k then r.state else .unavailable
    let report := beOpt 1 (r.lastReport.map Condition.code)
    let left (t : Option Nat) : List Octet := beOpt 4 (t.map (· - s.now))
    s.resetUnitResult k = be 1 shown.code ++ report ++ be 1 r.failures ∧
    s.compressorResult k = s.entryImage .compressors k ++ beFlag (s.compInUse k) ++ beFlag (s.marked .compressors k) ++
      be 1 shown.code ++ be 1 r.mode.code ++ report ++ be 1 r.failures ++
      beList (r.marks.map fun m => be 2 ((s.now - m) / 1000)) ++ be 4 r.runSec ++ beOpt 2 r.lastSpeed ++
      beFlag r.stopPending ++ beFlag r.lostOp ++ beFlag r.lockHeld ++ left r.tStart ++ left r.tStop ++ left r.tMinRun ++
      left r.tCool ++ be 6 s.demand ++ be 3 s.comp.published ++ be 6 s.comp.injTotal ++ be 6 s.comp.wdTotal ++
      beList (s.comp.order.map (be 1))) ∧
  ∀ (s : State) (q : Request) (b : Octet),
    let k := b.toNat
    let named := k ≤ 5 ∧ s.compInUse k = true
    (∀ c ∈ [Instr.resetUnit, .setUnitAuto, .setUnitManual], ∀ code, c.requestCode = some code → s.Asks q code [b] →
      (5 < k → exec c s = .next (s.answered q .badArgument [])) ∧
      (k ≤ 5 → s.compInUse k = false → exec c s = .next (s.answered q .unknownTarget [])) ∧
      (named → s.marked .compressors k = true → exec c s = .next (s.answered q .wrongState []))) ∧
    (s.Asks q 0x19 [b] → named → s.marked .compressors k = false →
      ((s.compRec k).state ≠ .lockedOut ∨ (s.compRec k).lastReport ≠ some .stopped →
        exec .resetUnit s = .next (s.answered q .wrongState [])) ∧
      ((s.compRec k).state = .lockedOut → (s.compRec k).lastReport = some .stopped →
        let t := dutyEvaluation (s.onComp k fun r => { r with state := .stopped, failures := 0 })
        exec .resetUnit s = .next (answerRequest q .ok (t.resetUnitResult k) t))) ∧
    (s.Asks q 0x1B [b] → named → s.marked .compressors k = false →
      ((s.compRec k).mode = .auto → exec .setUnitAuto s = .next (s.answered q .ok [])) ∧
      ((s.compRec k).mode = .manual →
        let u := s.onComp k fun r => { r with mode := .auto }
        exec .setUnitAuto s = .next (answerRequest q .ok []
          (dutyEvaluation { u with comp := { u.comp with order := s.comp.order ++ [k] } })))) ∧
    (s.Asks q 0x1A [b] → named → s.marked .compressors k = false →
      ((s.compRec k).mode = .manual → exec .setUnitManual s = .next (s.answered q .ok [])) ∧
      ((s.compRec k).mode = .auto →
        let u := withdrawOwn (s.compRec k).entry isSpeed
          (s.onComp k fun r => { r with mode := .manual, stopPending := false })
        exec .setUnitManual s = .next (answerRequest q .ok []
          (dutyEvaluation { u with comp := { u.comp with order := s.comp.order.filter fun j => decide (j ≠ k) } })))) ∧
    (s.Asks q 0x18 [] →
      let t := { s with comp := { s.comp with order := s.sortOrder s.comp.order } }
      exec .rotate s = .next (answerRequest q .ok (beList ((s.sortOrder s.comp.order).map (be 1))) (dutyEvaluation t))) ∧
    (s.Asks q 0x06 [b] →
      (5 < k → exec .readCompressor s = .next (s.answered q .badArgument [])) ∧
      (k ≤ 5 → s.foundBad .compressors k = false →
        exec .readCompressor s = .next (s.answered q .ok (s.compressorResult k))) ∧
      (k ≤ 5 → s.foundBad .compressors k = true →
        let x := occur Src.tableParity k (s.setMark .compressors k)
        let t := dutyEvaluation (if s.compInUse k then
            withdrawAll (s.compRec k).entry (x.onComp k fun r => { r with
              state := .lockedOut
              tStart := none
              tStop := none
              tMinRun := none
              tCool := none
              stopPending := false })
          else x)
        exec .readCompressor s = .next (answerRequest q .ok (t.compressorResult k) t)))

/-- The re-sorted duty order list holds the same units in ascending run seconds, the lower number first among equals
(R119). The demand D is the held total of the mode's direction as an hourly rate, 0 outside the flow modes and in
WITHDRAW without the compression flag (R120). The desired set is the shortest run of eligible listed units whose
capacities reach D, or all of them (R121). An evaluation checks the records of the list (the model's choice, log entry
90): one found bad is marked, TABLE_PARITY is latched with its number, and the unit, in use, is LOCKED_OUT with its
timers stopped and its unsent own commands withdrawn (R128; a record not in use is marked alone, log entry 37). Then
the units are acted on, and speeds offered, in the order of the duty list (the model's choice, log entry 89): a wanted
STOPPED unit within its budget is started without ESD (R109), an unwanted RUNNING one is stopped or waits for its
minimum run (R111), each RUNNING unit gets the speed of its load share when that is new or differs by the deadband
(R122; an equal speed does not differ, log entry 34). Then the capacity of the units that can serve is recomputed; a
new value is told to the Account Engine, whose curtailment follows (R123, R158), and sums that this changes are told
back and bring one more round of starts, stops and speeds (R120, R165). That the evaluation comes before the
recomputed capacity is the model's choice (log entry 97). -/
def Obligations.DutyOrderAndEvaluation : Prop :=
  (∀ (s : State) (l : List Nat), l.Nodup →
    (s.sortOrder l).Perm l ∧
    (s.sortOrder l).Pairwise fun j k =>
      (s.compRec j).runSec < (s.compRec k).runSec ∨ ((s.compRec j).runSec = (s.compRec k).runSec ∧ j < k)) ∧
  (∀ s : State,
    let cap (k : Nat) : Nat := (s.compCfg k).capacity
    (s.comp.heldMode = .inject → s.demand = s.comp.injTotal * 60 / s.lMin) ∧
    (s.comp.heldMode = .withdraw → s.comp.heldFlag = true → s.demand = s.comp.wdTotal * 60 / s.lMin) ∧
    (s.comp.heldMode = .withdraw → s.comp.heldFlag = false → s.demand = 0) ∧
    (s.comp.heldMode ≠ .inject → s.comp.heldMode ≠ .withdraw → s.demand = 0) ∧
    (∀ k, s.eligible k = true ↔ s.marked .compressors k = false ∧
      ((s.compRec k).state = .starting ∨ (s.compRec k).state = .running ∨
        ((s.compRec k).state ∈ [DutyState.stopped, .unloading, .cooldown] ∧
          (s.compRec k).marks.length < (s.compCfg k).budget))) ∧
    (∃ rest, s.comp.order.filter s.eligible = s.desired ++ rest ∧
      (rest ≠ [] → s.demand ≤ (s.desired.map cap).sum) ∧
      ∀ pre k post, s.desired = pre ++ k :: post → (pre.map cap).sum < s.demand) ∧
    (let acting (x : State) : State := offerSpeeds (x.comp.order.foldl (fun t k => actOn x.desired k t) x)
     let found (x : State) (k : Nat) : State :=
       let y := occur Src.tableParity k (x.setMark .compressors k)
       if (x.compCfg k).inUse then
         { y.onComp k fun r => { r with
             state := .lockedOut
             stopPending := false
             tStart := none
             tStop := none
             tMinRun := none
             tCool := none } with own := x.own.filter fun e => decide (e.target ≠ (x.compRec k).entry) }
       else y
     let checked := s.comp.order.foldl (fun x k => if x.foundBad .compressors k then found x k else x) s
     let acted := acting checked
     let new := acted.compCapacity
     let told := curtailCore none { acted with
       comp := { acted.comp with published := new }
       acct := { acted.acct with compCap := new } }
     let sum (d : Dir) : Nat := (told.acct.slots.map fun a => if a.dir = d then a.conf else 0).sum
     let same := sum .inject = told.acct.toldInj ∧ sum .withdraw = told.acct.toldWd
     ((∀ k ∈ s.comp.order, s.foundBad .compressors k = false) → checked = s) ∧
     (new = acted.comp.published → dutyEvaluation s = acted) ∧
     (new ≠ acted.comp.published → same → dutyEvaluation s = told) ∧
     (new ≠ acted.comp.published → ¬same → dutyEvaluation s = acting { told with
       acct := { told.acct with toldInj := sum .inject, toldWd := sum .withdraw }
       comp := { told.comp with injTotal := sum .inject, wdTotal := sum .withdraw } })) ∧
    s.compCapacity = ((s.comp.order.filter fun k => !s.marked .compressors k &&
      decide ((s.compRec k).state ≠ .lockedOut ∧ (s.compRec k).state ≠ .unavailable)).map cap).sum ∧
    (dutyEvaluation s).comp.published = (dutyEvaluation s).compCapacity ∧
    (s.acct.compCap = s.comp.published → (dutyEvaluation s).acct.compCap = (dutyEvaluation s).comp.published)) ∧
  (∀ (s : State) (wanted : List Nat) (k : Nat),
    let r := s.compRec k
    let c := s.compCfg k
    (r.state = .stopped →
      (k ∉ wanted ∨ s.comp.heldEsd = true ∨ c.budget ≤ r.marks.length → actOn wanted k s = s) ∧
      (k ∈ wanted → s.comp.heldEsd = false → r.marks.length < c.budget → r.marks.length ≤ 7 →
        (s.present r.entry = true → actOn wanted k s = offerOwn r.entry .start (s.onComp k fun x => { x with
          state := .starting
          marks := x.marks ++ [s.now]
          tStart := startTimer s.now (c.startConfirm * 1000)
          stopPending := false
          lastSpeed := none })) ∧
        (s.present r.entry = false → actOn wanted k s =
          s.onComp k fun x => { x with tStart := none, stopPending := false, lastSpeed := none }))) ∧
    (r.state = .running →
      (k ∈ wanted → actOn wanted k s = s.onComp k fun x => { x with stopPending := false }) ∧
      (k ∉ wanted → r.tMinRun ≠ none → actOn wanted k s = s.onComp k fun x => { x with stopPending := true }) ∧
      (k ∉ wanted → r.tMinRun = none →
        (s.present r.entry = false → actOn wanted k s = s) ∧
        (s.present r.entry = true → actOn wanted k s =
          (withdrawOwn r.entry isSpeed (offerOwn r.entry .stop s)).onComp k fun x => { x with
            state := .unloading
            tStop := startTimer s.now (c.stopConfirm * 1000)
            stopPending := false }))) ∧
    (r.state ≠ .stopped → r.state ≠ .running → actOn wanted k s = s)) ∧
  ∀ s : State,
    let running := ((s.comp.order.filter fun k => decide ((s.compRec k).state = .running)).map fun k =>
      (s.compCfg k).capacity).sum
    (running = 0 → offerSpeeds s = s) ∧
    (running ≠ 0 → offerSpeeds s = s.comp.order.foldl (fun t k => offerSpeed s.demand running k t) s) ∧
    ∀ d k : Nat,
      let r := s.compRec k
      let c := s.compCfg k
      let p := min 1000 (max c.pMin (1000 * d / running))
      let speed := c.sMin + ((c.sMax - c.sMin) * p + 500) / 1000
      let due := r.state = .running ∧ s.present r.entry = true ∧
        ∀ last, r.lastSpeed = some last → speed ≠ last ∧ c.deadband ≤ max speed last - min speed last
      (¬due → offerSpeed d running k s = s) ∧
      (due → offerSpeed d running k s =
        (offerOwn r.entry (.speed speed) s).onComp k fun x => { x with lastSpeed := some speed })

/-! ### Gas drying -/

/-- A STATE frame from a valve set reaches the train in use whose unit it is, and its three positions are recorded; a
payload of fewer says nothing (R136, R214). A marked train records only; an entry found bad is treated first (R153). A
train that is not synchronised waits for a report with no bed MOVING and then takes each bed's state from its
position: the first OPEN bed adsorbs with the resume loading, a CLOSED one stands by, any other OPEN or FAULT one is
out with BED_OUT, its loading kept by the model's choice (log entry 73); in WITHDRAW the triggers follow (R136). A
synchronised train acts bed by bed: the incoming bed OPEN confirms the opening (R141), the outgoing bed CLOSED the
release (R142), one phase a report (log entry 15); a FAULT takes a bed out, as R137 says of a bed that no switch
involves and R143 of the others; a further FAULT of the incoming bed in RELEASING latches BED_OUT again (the model's
choice, log entry 98). -/
def Obligations.ValveReports : Prop :=
  (∀ (s : State) (f : Frame) (i : Nat), f.kind = kindState → s.present i = true → (s.unitCfg i).cls = .dryerValves →
    (f.payload.length < 3 ∨ s.trainOf i = none → examine i f s = s) ∧
    ∀ (a b c : Octet) (more : List Octet) (d : Nat), f.payload = a :: b :: c :: more → s.trainOf i = some d →
      s.dry.trains.length = 2 →
      let p := positionsOf a b c
      let recorded (x : State) : State := x.onTrain d fun t => { t with
        bedA := { t.bedA with report := some (positionOf a) }
        bedB := { t.bedB with report := some (positionOf b) }
        bedC := { t.bedC with report := some (positionOf c) } }
      let v := recorded s
      (s.foundBad .dryers d = true → examine i f s = recorded (useTrain d s)) ∧
      (s.marked .dryers d = true → examine i f s = v) ∧
      (s.foundBad .dryers d = false → s.marked .dryers d = false →
        ((s.train d).synced = false → (∃ x, p x = .moving) → examine i f s = v) ∧
        ((s.train d).synced = false → (∀ x, p x ≠ .moving) →
          let bed (opened : Bool) (x : BedId) (y : Bed) : Bed := match p x with
            | .closed => { y with state := .standby, loading := 0 }
            | .opened =>
              if opened then { y with state := .outOfService }
              else { y with state := .adsorbing, loading := (s.dryerCfg d).resume, adsorbMs := 0, adsorbDone := false }
            | .fault => { y with state := .outOfService }
            | .moving => y
          let openA := decide (p .a = .opened)
          let openB := openA || decide (p .b = .opened)
          let out (opened : Bool) (x : BedId) (y : State) : State :=
            if p x = .fault ∨ opened = true ∧ p x = .opened then occur Src.bedOut d y else y
          let u := evalTrain d (out openB .c (out openA .b (out false .a (v.onTrain d fun t => { t with
            synced := true
            request := false
            switch := none
            bedA := bed false .a t.bedA
            bedB := bed openA .b t.bedB
            bedC := bed openB .c t.bedC }))))
          (s.dry.heldMode ≠ .withdraw → examine i f s = u) ∧
          (s.dry.heldMode = .withdraw → examine i f s = evalTrain d (noBedTrigger d (loadingTrigger d u)))) ∧
        ((s.train d).synced = true →
          let act := actPosition d (s.train d).switch
          examine i f s = act .c (p .c) (act .b (p .b) (act .a (p .a) v))))) ∧
  ∀ (s : State) (d : Nat) (before : Option SwitchOp) (x : BedId),
    let unit := (s.dryerCfg d).unit
    let confirms (phase : SwitchPhase) (bed : SwitchOp → Option BedId) (op : SwitchOp) : Prop :=
      (s.train d).switch = some op ∧ op.phase = phase ∧ bed op = some x ∧
        ∃ old, before = some old ∧ old.phase = phase ∧ bed old = some x
    actPosition d before x .moving s = s ∧
    ((∀ op, ¬confirms .opening (fun op => some op.incoming) op) → actPosition d before x .opened s = s) ∧
    (∀ op, confirms .opening (fun op => some op.incoming) op →
      let v := s.onTrain d fun t => t.onBed x fun y => { y with state := .adsorbing, adsorbMs := 0, adsorbDone := false }
      (op.outgoing = none →
        actPosition d before x .opened s = evalTrain d (endSwitch d (occur Src.bedSwitched d v))) ∧
      ∀ y, op.outgoing = some y → actPosition d before x .opened s =
        evalTrain d ((offerOwn unit (.closeBed y) v).onTrain d fun t =>
          { t.onBed y (fun z => { z with state := .releasing }) with
            switch := some { op with
              phase := .releasing
              valve := s.now + (s.dryerCfg d).valveConfirm * 1000 } })) ∧
    ((∀ op, ¬confirms .releasing SwitchOp.outgoing op) → actPosition d before x .closed s = s) ∧
    (∀ op, confirms .releasing SwitchOp.outgoing op → actPosition d before x .closed s =
      evalTrain d (endSwitch d (occur Src.bedSwitched d (s.onTrain d fun t =>
        t.onBed x fun y => { y with state := .heating, heatMs := 0, heatDone := false })))) ∧
    ((∀ op, (s.train d).switch = some op → op.incoming ≠ x ∧ op.outgoing ≠ some x) →
      let st := ((s.train d).bed x).state
      (st ∈ [BedState.standby, .heating, .cooling] → actPosition d before x .fault s = evalTrain d (bedOut d x s)) ∧
      (st = .adsorbing → actPosition d before x .fault s = evalTrain d (noBedTrigger d (bedOut d x s))) ∧
      (st ∈ [BedState.unsynced, .releasing, .outOfService] → actPosition d before x .fault s = evalTrain d s)) ∧
    (∀ op, (s.train d).switch = some op →
      (op.incoming = x → op.phase = .opening → actPosition d before x .fault s =
        evalTrain d (endSwitch d ((bedOut d x (withdrawOwn unit isOpenBed s)).onTrain d fun t =>
          { t with switch := none, request := true }))) ∧
      (op.incoming = x → op.phase = .releasing → actPosition d before x .fault s = evalTrain d (bedOut d x s)) ∧
      (op.incoming ≠ x → op.outgoing = some x → op.phase = .opening → actPosition d before x .fault s =
        evalTrain d ((bedOut d x s).onTrain d fun t => { t with switch := some { op with outgoing := none } })) ∧
      (op.incoming ≠ x → op.outgoing = some x → op.phase = .releasing → actPosition d before x .fault s =
        evalTrain d (endSwitch d (occur Src.bedOut d ((withdrawOwn unit isCloseBed s).onTrain d fun t =>
          t.onBed x fun y => { y with state := .outOfService }))))) ∧
    bedOut d x s = occur Src.bedOut d (s.onTrain d fun t => t.onBed x fun y => { y with state := .outOfService }) ∧
    endSwitch d s = startTest d (noBedTrigger d (s.onTrain d fun t => { t with switch := none }))

/-- A standard volume of a run goes to each train in use that the run feeds (R77, R138), train 0 before train 1 (the
model's choice, log entry 92): its water joins the ADSORBING bed in whole mg, the residue carried, unless the train
has a parity mark; then the loading trigger is tested and the train state evaluated. The triggers of R139 set the
switch request in WITHDRAW: loading, breakthrough and no bed, the first two not in OPENING. The model's reading, not
R139's or R153's words: a breakthrough of a train with a parity mark is latched and raises no request (log entry 45),
and one without an ADSORBING bed is latched and raises none (log entry 46). The start test begins a switch with the
STANDBY bed of lowest letter when nothing stands against it (R140). The train state and its published capacity follow
the table of R151: a change to DEGRADED is latched, and a changed sum over both trains is told to the Account Engine.
A water channel whose entry is found bad at the reading is treated first (R37); that inlet and outlet are checked, in
this order and before the volume is taken, is the model's choice (log entry 36). -/
def Obligations.WaterLoadingAndTrainState : Prop :=
  (∀ (s : State) (run vb : Nat),
    let feed (i : Nat) (x : State) : State :=
      if (x.dryerCfg i).inUse = true ∧ (x.dryerCfg i).run = run then trainVolume i vb x else x
    dryVolume run vb s = feed 1 (feed 0 s)) ∧
  (∀ (s : State) (i vb : Nat), i < s.dry.trains.length →
    let c := s.dryerCfg i
    let t := s.train i
    let trusts (ch : Nat) : Prop :=
      (s.chCfg ch).inUse = true ∧ ((s.chan ch).quality = .good ∨ (s.chan ch).quality = .suspect)
    (s.foundBad .dryers i = true → trainVolume i vb s = useTrain i s) ∧
    (s.marked .dryers i = true → trainVolume i vb s = s) ∧
    (s.foundBad .dryers i = false → s.marked .dryers i = false →
      trainVolume i vb s = trainVolume i vb (useChannels [c.inlet, c.outlet] s) ∧
      (s.foundBad .channels c.inlet = false → s.foundBad .channels c.outlet = false → ∀ win wout : Int,
        (trusts c.inlet → win = ((s.chan c.inlet).filtered).getD c.defaultInlet) →
        (¬trusts c.inlet → win = c.defaultInlet) →
        (trusts c.outlet → wout = ((s.chan c.outlet).filtered).getD 0) → (¬trusts c.outlet → wout = 0) →
        let limited (v : Int) : Nat := (max 0 (min 10000 v)).toNat
        let x := vb * (limited win - limited wout) + t.residue
        (∀ w, t.adsorbing = some w → trainVolume i vb s = evalTrain i (loadingTrigger i (s.onTrain i fun t =>
          { t.onBed w (fun y => { y with loading := min (2 ^ 64 - 1) (y.loading + x / 1000000) }) with
            residue := x % 1000000 }))) ∧
        (t.adsorbing = none → trainVolume i vb s =
          evalTrain i (loadingTrigger i (s.onTrain i fun t => { t with residue := x % 1000000 })))))) ∧
  (∀ (s : State) (i : Nat),
    let c := s.dryerCfg i
    let t := s.train i
    let raised (x : State) : State := startTest i (x.onTrain i fun t => { t with request := true })
    let replaceable := s.dry.heldMode = .withdraw ∧ t.adsorbing ≠ none ∧ ∀ op, t.switch = some op → op.phase = .releasing
    let full := ∃ w, t.adsorbing = some w ∧ c.bedCapacity * 10 * c.switchPercent ≤ (t.bed w).loading
    let bare := s.dry.heldMode = .withdraw ∧ t.synced = true ∧ s.marked .dryers i = false ∧ t.adsorbing = none ∧
      t.switch = none
    (replaceable ∧ full → loadingTrigger i s = raised s) ∧ (¬(replaceable ∧ full) → loadingTrigger i s = s) ∧
    (replaceable → bedTrigger i s = raised s) ∧ (¬replaceable → bedTrigger i s = s) ∧
    (bare → noBedTrigger i s = raised s) ∧ (¬bare → noBedTrigger i s = s) ∧
    (s.foundBad .dryers i = false →
      let u := occur Src.breakthrough i s
      (s.marked .dryers i = true → breakthrough i s = u) ∧
      (s.marked .dryers i = false → replaceable → breakthrough i s = evalTrain i (raised u)) ∧
      (s.marked .dryers i = false → ¬replaceable → breakthrough i s = evalTrain i u)) ∧
    (s.foundBad .dryers i = true → breakthrough i s = occur Src.breakthrough i (useTrain i s)) ∧
    (let free := t.request = true ∧ t.switch = none ∧ t.held = false ∧ t.synced = true ∧ s.marked .dryers i = false ∧
        s.present c.unit = true;
      (¬free ∨ t.standby = none → startTest i s = s) ∧
      ∀ w, free → t.standby = some w → startTest i s =
        (offerOwn c.unit (.openBed w) s).onTrain i fun t => { t with
          request := false
          switch := some ⟨.opening, w, t.adsorbing, s.now + c.valveConfirm * 1000⟩ })) ∧
  ∀ (s : State) (i : Nat),
    let c := s.dryerCfg i
    let t := s.train i
    let out := c.inUse = false ∨ s.present c.unit = false ∨ s.marked .dryers i = true ∨
      ∀ x, (t.bed x).state = .unsynced ∨ (t.bed x).state = .outOfService
    let waits := (t.request = true ∧ t.switch = none) ∨ ∃ w, t.adsorbing = some w ∧ c.bedCapacity * 1000 < (t.bed w).loading
    let into (st : TrainState) (cap : Nat) : State := s.onTrain i fun t => { t with state := st, published := cap }
    let told (x : State) : State :=
      let sum := (x.dry.trains.map (·.published)).sum
      if sum = s.dry.total then x
      else curtail none { x with dry := { x.dry with total := sum }, acct := { x.acct with dryCap := sum } }
    (out → evalTrain i s = told (into .outOfService 0)) ∧
    (¬out → ¬waits → evalTrain i s = told (into .inService c.capacity)) ∧
    (¬out → waits →
      let u := into .degraded (c.capacity * (100 - c.derate) / 100)
      (t.state = .degraded → evalTrain i s = told u) ∧
      (t.state ≠ .degraded → evalTrain i s = told (occur Src.trainDegraded i u)))

/-- The timers of a train (R139, R141, R142, R146, R147): the adsorb limit raises a switch request where a trigger
may; an opening not confirmed in time has its unsent OPEN_BED withdrawn, the incoming bed is OUT_OF_SERVICE,
VALVE_TIMEOUT and BED_OUT are latched (in that order by the model's choice, log entry 11), the switch ends and the
request is set again (R141); a release not confirmed in time has its unsent CLOSE_BED withdrawn, the outgoing bed is
OUT_OF_SERVICE with its loading kept, VALVE_TIMEOUT is latched and the switch ends (R142); at each end the no-bed
trigger and the start test are taken; a bed heated for the heat time, with its regeneration confirmed, cools; one at
the heat maximum time cools short, with HEAT_SHORT latched; a cooled bed is STANDBY with no loading. The train's state
is then evaluated. Heating is complete when the train has no regen channel, or its regen comparator is true and that
channel GOOD or SUSPECT (R146), the channel's entry checked at that read (R37). An expiry that is not due changes
nothing, and under HOLD_TRAIN (R148) none of a bed's is taken (the model's reading, log entry 48); adsorbDone and
heatDone are the model's own flags (log entry 54). -/
def Obligations.DryerTimersExpire : Prop :=
  ∀ (s : State) (i : Nat) (x : BedId), i < 2 →
    let t := s.train i
    let c := s.dryerCfg i
    let bed := t.bed x
    let outOf (w : BedId) (y : State) (latch : State → State) : State :=
      latch (y.onTrain i fun t => t.onBed w fun z => { z with state := .outOfService })
    let ended (y : State) : State := startTest i (noBedTrigger i (y.onTrain i fun t => { t with switch := none }))
    (t.adsorbing = some x → t.held = false → bed.adsorbDone = false → c.adsorbMax * 1000 ≤ bed.adsorbMs →
      exec (.adsorbLimitExpiry i) s = .next (evalTrain i (bedTrigger i
        (s.onTrain i fun t => t.onBed x fun y => { y with adsorbDone := true })))) ∧
    (t.adsorbing = none ∨ t.held = true → exec (.adsorbLimitExpiry i) s = .next s) ∧
    (t.adsorbing = some x → bed.adsorbDone = true ∨ bed.adsorbMs < c.adsorbMax * 1000 →
      exec (.adsorbLimitExpiry i) s = .next s) ∧
    (∀ op, t.switch = some op → op.phase = .opening → op.valve ≤ s.now →
      exec (.openingValveTimeout i) s = .next (evalTrain i (ended ((outOf op.incoming
        (occur Src.valveTimeout i (withdrawOwn c.unit isOpenBed s)) (occur Src.bedOut i)).onTrain i fun t =>
          { t with switch := none, request := true }))) ∧
      exec (.releasingValveTimeout i) s = .next s) ∧
    (∀ op out, t.switch = some op → op.phase = .releasing → op.valve ≤ s.now → op.outgoing = some out →
      exec (.releasingValveTimeout i) s = .next (evalTrain i (ended (outOf out
        (withdrawOwn c.unit isCloseBed s) (occur Src.valveTimeout i)))) ∧
      exec (.openingValveTimeout i) s = .next s) ∧
    ((∀ op, t.switch = some op → s.now < op.valve) →
      exec (.openingValveTimeout i) s = .next s ∧ exec (.releasingValveTimeout i) s = .next s) ∧
    (t.held = true ∨ (bed.state ≠ .heating ∧ bed.state ≠ .cooling) →
      exec (.heatTimeReached i x) s = .next s ∧ exec (.heatShort i x) s = .next s ∧
      exec (.coolTimerExpiry i x) s = .next s) ∧
    (t.held = false → bed.state = .heating →
      (bed.heatDone = false → c.heat * 1000 ≤ bed.heatMs →
        exec (.heatTimeReached i x) s = .next (evalTrain i (testHeating i x
          (s.onTrain i fun t => t.onBed x fun y => { y with heatDone := true })))) ∧
      (bed.heatMs < c.heat * 1000 → exec (.heatTimeReached i x) s = .next s) ∧
      (bed.heatDone = true → c.heatMax * 1000 ≤ bed.heatMs →
        exec (.heatShort i x) s = .next (evalTrain i ((occur Src.heatShort i s).onTrain i fun t => t.onBed x fun y =>
          { y with state := .cooling, loading := 0, coolMs := 0 }))) ∧
      (bed.heatMs < c.heatMax * 1000 → exec (.heatShort i x) s = .next s)) ∧
    (t.held = false → bed.state = .cooling →
      (c.cool * 1000 ≤ bed.coolMs →
        exec (.coolTimerExpiry i x) s = .next (evalTrain i (startTest i
          (s.onTrain i fun t => t.onBed x fun y => { y with state := .standby, loading := 0 })))) ∧
      (bed.coolMs < c.cool * 1000 → exec (.coolTimerExpiry i x) s = .next s)) ∧
    (let cooling := s.onTrain i fun t => t.onBed x fun y => { y with state := .cooling, loading := 0, coolMs := 0 };
      (bed.state ≠ .heating ∨ bed.heatMs < c.heat * 1000 → testHeating i x s = s) ∧
      (bed.state = .heating → c.heat * 1000 ≤ bed.heatMs →
        (c.regenCh = none → testHeating i x s = cooling) ∧
        ∀ ch, c.regenCh = some ch →
          let reached := (c.regenCmp = some .a ∧ (s.chan ch).cmpA = true ∨ c.regenCmp = some .b ∧ (s.chan ch).cmpB = true) ∧
            (s.chCfg ch).inUse = true ∧ ((s.chan ch).quality = .good ∨ (s.chan ch).quality = .suspect);
          (s.foundBad .channels ch = false → reached → testHeating i x s = cooling) ∧
          (s.foundBad .channels ch = false → ¬reached → testHeating i x s = s) ∧
          (s.foundBad .channels ch = true → testHeating i x s = testHeating i x (useChannel ch s))))

/-- The requests on trains: HOLD_TRAIN and RESUME_TRAIN set and clear HELD (R148), FORCE_SWITCH raises the switch
request in WITHDRAW for a train in service without a switch in flight (R145), RETURN_BED sends a closed bed that is
out of service into HEATING (R149), READ_DRYER gives the train, its switch, its beds and the capacity of both trains,
OUT_OF_SERVICE and UNSYNCED for one not in use (R154; the form and the units are the model's choice, log entries 9 and
75). Each is refused for no such train, and after the check of its entry for a train not in use or one with a parity
mark (R153). A train in use found bad gets its mark, loses its unsent own commands, and has every bed UNSYNCED; one
not in use only gets its mark and TABLE_PARITY, which is the model's choice (log entry 37). The codes 0 for a switch
begun and 1 for one pending are the model's choice (log entry 9). -/
def Obligations.TrainRequests : Prop :=
  (∀ (s : State) (i : Nat),
    let t := s.train i
    let used := (s.dryerCfg i).inUse
    let bedCode (x : BedId) : Nat := match x with
      | .a => 0
      | .b => 1
      | .c => 2
    let elapsed (x : Bed) : Option Nat := match x.state with
      | .adsorbing => some x.adsorbMs
      | .heating => some x.heatMs
      | .cooling => some x.coolMs
      | _ => none
    let bed (x : Bed) : List Octet := be 1 (if used then x.state else .unsynced).code ++ be 8 x.loading ++
      beOpt 1 (x.report.map Position.code) ++ beOpt 4 (if used then elapsed x else none)
    let switch : List Octet := t.switch.elim (0 :: be 8 0) fun op => 1 :: be 1 op.phase.code ++ be 1 (bedCode op.incoming) ++
      beOpt 1 (op.outgoing.map bedCode) ++ be 4 (op.valve - s.now)
    s.dryerResult i = s.entryImage .dryers i ++ beFlag used ++ beFlag (s.marked .dryers i) ++
      be 1 (if used then t.state else .outOfService).code ++ beFlag t.synced ++ beFlag t.held ++ beFlag t.request ++
      be 3 t.residue ++ be 3 t.published ++ switch ++ bed t.bedA ++ bed t.bedB ++ bed t.bedC ++ be 3 s.dry.total) ∧
  ∀ (s : State) (q : Request) (b l : Octet),
    let i := b.toNat
    let t := s.train i
    (∀ c ∈ [Instr.holdTrain, .resumeTrain, .forceSwitch], ∀ code, c.requestCode = some code → s.Asks q code [b] →
      (1 < i → exec c s = .next (s.answered q .badArgument [])) ∧
      (i ≤ 1 → s.trainInUse i = false → exec c s = .next (answerRequest q .unknownTarget [] (useTrain i s))) ∧
      (i ≤ 1 → s.trainInUse i = true → s.foundBad .dryers i = true ∨ s.marked .dryers i = true →
        exec c s = .next (answerRequest q .wrongState [] (useTrain i s)))) ∧
    (s.foundBad .dryers i = false → useTrain i s = s) ∧
    (s.foundBad .dryers i = true → s.trainInUse i = false → useTrain i s = markEntry .dryers i i s) ∧
    (s.foundBad .dryers i = true → s.trainInUse i = true → useTrain i s = evalTrain i
      ((withdrawAll (s.dryerCfg i).unit (markEntry .dryers i i s)).onTrain i fun x => { x with
        synced := false
        request := false
        switch := none
        bedA := { x.bedA with state := .unsynced }
        bedB := { x.bedB with state := .unsynced }
        bedC := { x.bedC with state := .unsynced } })) ∧
    (i ≤ 1 → s.trainInUse i = true → s.marked .dryers i = false → s.foundBad .dryers i = false →
      (s.Asks q 0x28 [b] → i < s.dry.trains.length →
        exec .holdTrain s =
          .next ((s.onTrain i fun x => { x with held := true }).answered q .ok (be 1 t.state.code ++ [1]))) ∧
      (s.Asks q 0x29 [b] →
        let tested (x : State) : State := testHeating i .c (testHeating i .b (testHeating i .a x))
        let u := evalTrain i (startTest i (tested (s.onTrain i fun x => { x with held := false })))
        exec .resumeTrain s = .next (answerRequest q .ok (be 1 (u.train i).state.code ++ beFlag (u.train i).held) u)) ∧
      (s.Asks q 0x2A [b] →
        (s.dry.heldMode ≠ .withdraw ∨ t.state = .outOfService ∨ t.switch ≠ none →
          exec .forceSwitch s = .next (s.answered q .wrongState [])) ∧
        (s.dry.heldMode = .withdraw → t.state ≠ .outOfService → t.switch = none →
          let u := evalTrain i (startTest i (s.onTrain i fun x => { x with request := true }))
          exec .forceSwitch s = .next (answerRequest q .ok
            (be 1 (u.train i).state.code ++ be 1 (if (u.train i).switch.isSome then 0 else 1)) u))) ∧
      (s.Asks q 0x2B [b, l] → ∀ x, bedOf l = some x →
        let free := t.synced = true ∧ (t.bed x).state = .outOfService ∧ (t.bed x).report = some .closed ∧
          ∀ op, t.switch = some op → op.incoming ≠ x ∧ op.outgoing ≠ some x
        (¬free → exec .returnBed s = .next (s.answered q .wrongState [])) ∧
        (free →
          let u := evalTrain i (s.onTrain i fun y => y.onBed x fun z => { z with state := .heating, heatMs := 0, heatDone := false })
          exec .returnBed s = .next (answerRequest q .ok (be 1 ((u.train i).bed x).state.code) u)))) ∧
    (s.Asks q 0x2B [b, l] →
      (2 < l.toNat ∨ 1 < i → exec .returnBed s = .next (s.answered q .badArgument [])) ∧
      (l.toNat ≤ 2 → i ≤ 1 → s.trainInUse i = false →
        exec .returnBed s = .next (answerRequest q .unknownTarget [] (useTrain i s))) ∧
      (l.toNat ≤ 2 → i ≤ 1 → s.trainInUse i = true → s.foundBad .dryers i = true ∨ s.marked .dryers i = true →
        exec .returnBed s = .next (answerRequest q .wrongState [] (useTrain i s)))) ∧
    (s.Asks q 0x07 [b] →
      (1 < i → exec .readDryer s = .next (s.answered q .badArgument [])) ∧
      (i ≤ 1 → s.foundBad .dryers i = false → exec .readDryer s = .next (s.answered q .ok (s.dryerResult i))) ∧
      (i ≤ 1 → s.foundBad .dryers i = true →
        let u := useTrain i s
        exec .readDryer s = .next (answerRequest q .ok (u.dryerResult i) u)))

/-! ### Accounts -/

/-- R162, division by largest remainder, in curtailment and in allocation alike. With weights that sum to W above 0,
every slot receives its floor or its floor plus one; the shares sum to the total; the plus-ones go to the slots first
in the order of remainders, largest first and lowest index among equals, as many as the leftover; fewer than the slots
with a remainder, so that a slot of weight 0 receives nothing; and when the total is at most W no share exceeds its
weight. -/
def Obligations.DivisionByLargestRemainder : Prop :=
  (∀ (s : State) (d : Dir), s.capOf d < ((List.range 32).map (s.askedFirm d)).sum →
    s.confirmations d = divideShares (s.capOf d) ((List.range 32).map (s.askedFirm d))) ∧
  (∀ (slots : List SnapSlot) (g : Group),
    let x := sharesOf slots g
    x.injAsked = divideShares g.mInj (snapWeights .inject slots) ∧
    x.wdAsked = divideShares g.mWd (snapWeights .withdraw slots) ∧
    x.fuelAsked = divideShares g.fuel (plus x.inj x.wd) ∧ x.dryAsked = divideShares g.regen x.wd) ∧
  ∀ (total : Nat) (w : List Nat), 0 < w.sum →
    let share (i : Nat) : Nat := (divideShares total w).getD i 0
    let floor (i : Nat) : Nat := total * w.getD i 0 / w.sum
    let rem (i : Nat) : Nat := total * w.getD i 0 % w.sum
    let leftover := total - ((List.range w.length).map floor).sum
    let before (j i : Nat) : Prop := rem i < rem j ∨ (rem j = rem i ∧ j < i)
    (divideShares total w).length = w.length ∧
    (∀ i < w.length, share i = floor i ∨ share i = floor i + 1) ∧
    (divideShares total w).sum = total ∧
    ((List.range w.length).countP (fun i => decide (share i = floor i + 1))) = leftover ∧
    (∀ i < w.length, ∀ j < w.length, share i = floor i + 1 → before j i → share j = floor j + 1) ∧
    (0 < leftover → leftover < (List.range w.length).countP fun i => decide (0 < rem i)) ∧
    (∀ i < w.length, w.getD i 0 = 0 → share i = 0) ∧
    (total ≤ w.sum → ∀ i < w.length, share i ≤ w.getD i 0)

/-- The capacity of a direction is the floor of the compressor capacity times L / 60 for INJECT, and of the drying
capacity times L / 60 for WITHDRAW, there limited by the compressors' while the compression flag is true (R158). The
confirmed amounts of a direction by the cases of R163, a slot asking its nomination in its direction unless it carries
a parity mark, for slots asking within its capacity, for firm slots only within it, and for firm slots beyond it; in
every case they sum to no more than the capacity and none exceeds what its slot asks. A curtailment computation (R164)
writes these amounts into every slot, 0 for one with a parity mark or a nomination of 0. When a slot stays below its
request, the interval's curtailed flag is set, and CURTAILED is latched once if some such slot has less than before or
is the one just accepted. Its subject is the lowest slot below its request (the model's reading, log entry 24), and
'before' is the amount the slot holds as the computation begins (log entry 38). Changed sums are told to the duty
controller, which evaluates (R165). -/
def Obligations.CurtailmentByCapacity : Prop :=
  (∀ (s : State) (d : Dir),
    let compressors := s.acct.compCap * s.lMin / 60
    let drying := s.acct.dryCap * s.lMin / 60
    let cap := if d = .inject then compressors else if s.acct.flag then min drying compressors else drying
    let asks (i : Nat) : Nat := if s.marked .shippers i = false ∧ (s.slot i).dir = d then (s.slot i).req else 0
    let firmAsks (i : Nat) : Nat := if (s.shipper i).firm then asks i else 0
    let total := ((List.range 32).map asks).sum
    let firm := ((List.range 32).map firmAsks).sum
    let got (i : Nat) : Nat := (s.confirmations d).getD i 0
    let first (j i : Nat) : Prop := (s.shipper j).firm = false ∧
      ((s.shipper j).rank < (s.shipper i).rank ∨ ((s.shipper j).rank = (s.shipper i).rank ∧ j < i))
    s.capOf d = cap ∧ (s.confirmations d).length = 32 ∧ (s.confirmations d).sum ≤ cap ∧ (∀ i < 32, got i ≤ asks i) ∧
    (total ≤ cap → ∀ i < 32, got i = asks i) ∧
    (cap < total → firm ≤ cap →
      (∀ i < 32, (s.shipper i).firm = true → got i = asks i) ∧
      (∀ i < 32, ∀ j < 32, (s.shipper i).firm = false → first j i → 0 < got i → got j = asks j) ∧
      (s.confirmations d).sum = cap) ∧
    (cap < firm →
      (∀ i < 32, (s.shipper i).firm = false → got i = 0) ∧
      s.confirmations d = divideShares cap ((List.range 32).map firmAsks))) ∧
  ∀ (s : State) (just : Option Nat), s.acct.slots.length = 32 →
    let got (i : Nat) : Nat := (s.confirmations (s.slot i).dir).getD i 0
    let cut (i : Nat) : Prop := got i < (s.slot i).req
    let newly := ∃ i < 32, cut i ∧ (got i < (s.slot i).conf ∨ just = some i)
    let t := curtailCore just s
    let sum (d : Dir) : Nat := (t.acct.slots.map fun a => if a.dir = d then a.conf else 0).sum
    (∀ i < 32, t.slot i = { s.slot i with conf := got i }) ∧
    (∀ i < 32, s.marked .shippers i = true ∨ (s.slot i).req = 0 → got i = 0) ∧
    ((∀ i < 32, ¬cut i) → t = { s with acct := { s.acct with slots := t.acct.slots } }) ∧
    (∀ i < 32, cut i → (∀ j < i, ¬cut j) →
      let u := { s with acct := { s.acct with slots := t.acct.slots, curtailed := true } }
      (newly → t = occur Src.curtailed i u) ∧ (¬newly → t = u)) ∧
    (sum .inject = s.acct.toldInj → sum .withdraw = s.acct.toldWd → curtail just s = t) ∧
    (sum .inject ≠ s.acct.toldInj ∨ sum .withdraw ≠ s.acct.toldWd → curtail just s = dutyEvaluation { t with
      acct := { t.acct with toldInj := sum .inject, toldWd := sum .withdraw }
      comp := { t.comp with injTotal := sum .inject, wdTotal := sum .withdraw } })

/-- NOMINATE by its checks in the order of R159 and R181, then the clamp of R160, whose steps stand first: by the
right over the interval, then by what the slot holds or has space for, in its inventory or, during a close, its
projected inventory. A slot whose entry is found bad is marked, with TABLE_PARITY, its current nomination becomes 0
(in the direction it had, the model's choice, log entry 94), its next one is dropped and a curtailment follows; the
answer is then WRONG_STATE, as for a slot already marked (R181); no entry is checked where an earlier row refuses (the
model's choice, log entry 100). A CURRENT nomination replaces the slot's and is followed by a curtailment, a NEXT one
waits for the roll; the answer is CLAMPED when the clamp reduced it, and that of NEXT has no octet for the confirmed
amount (the model's choice, log entry 99). A CURRENT one is LATE once the interval position is at the cutoff's part of
the interval; a cutoff of 100 percent refuses none. A STATION record found bad at that test is marked, with
TABLE_PARITY, the sweep period timer stops, and the cutoff reads as its default (R209). -/
def Obligations.NominateByCase : Prop :=
  (∀ (s : State) (i amount : Nat),
    let base := match s.acct.closing with
      | none => s.inventory i
      | some op => op.projected.getD i 0
    let confirmed (d : Dir) : Nat := if (s.slot i).dir = d then (s.slot i).conf else 0
    let inj := min amount ((s.shipper i).injRight * s.lMin / 60)
    let wd := min amount ((s.shipper i).wdRight * s.lMin / 60)
    s.clampCurrent i .inject amount = min inj ((s.shipper i).space - base) ∧
    s.clampCurrent i .withdraw amount = min wd base ∧
    s.clampNext i .inject amount = min inj ((s.shipper i).space - base - confirmed .inject) ∧
    s.clampNext i .withdraw amount = min wd (base - confirmed .withdraw)) ∧
  (∀ s : State, s.pastCutoff = true ↔ s.stationRead.cutoff < 100 ∧
    ∃ n, s.time.next = some n ∧ s.stationRead.cutoff * (s.lMin * 60000) ≤ 100 * (s.time.count + s.lMin * 60000 - n)) ∧
  ∀ (s : State) (q : Request) (args : List Octet), args.length = 9 → s.Asks q 0x38 args →
    let code := fieldAt args 0 2
    let period := fieldAt args 2 1
    let dir := fieldAt args 3 1
    let amount := fieldAt args 4 5
    (code = 0 ∨ 1 < period ∨ 1 < dir → exec .nominate s = .next (s.answered q .badArgument [])) ∧
    (0 < code → period ≤ 1 → dir ≤ 1 → s.time.unset = true → exec .nominate s = .next (s.answered q .timeUnset [])) ∧
    (0 < code → period ≤ 1 → dir ≤ 1 → s.time.unset = false → s.slotOf code = none →
      exec .nominate s = .next (s.answered q .unknownTarget [])) ∧
    ∀ (i : Nat) (d : Dir), 0 < code → dir = d.code → s.time.unset = false → s.slotOf code = some i →
      (period ≤ 1 → s.marked .shippers i = true → exec .nominate s = .next (s.answered q .wrongState [])) ∧
      (period ≤ 1 → s.foundBad .shippers i = true →
        let x := curtail none ((occur Src.tableParity i (s.setMark .shippers i)).onSlot i fun a =>
          { a with req := 0, next := none })
        exec .nominate s = .next (answerRequest q .wrongState [] x)) ∧
      (s.marked .shippers i = false → s.foundBad .shippers i = false →
        (period = 0 →
          let x := occur Src.tableParity 0 (s.setMark .station 0)
          let w := if s.foundBad .station 0 then { x with engine := { s.engine with sweepDue := none } } else s
          (w.pastCutoff = true → exec .nominate s = .next (answerRequest q .late [] w)) ∧
          (w.pastCutoff = false →
            let got := s.clampCurrent i d amount
            let t := curtail (some i) (w.onSlot i fun a => { a with dir := d, req := got })
            exec .nominate s = .next (answerRequest q (if got < amount then .clamped else .ok)
              (be 5 got ++ be 5 (t.slot i).conf ++ beFlag s.acct.provisional) t) ∧
            (i < s.acct.slots.length → (t.slot i).dir = d ∧ (t.slot i).req = got ∧ (t.slot i).conf ≤ got))) ∧
        (period = 1 →
          let got := s.clampNext i d amount
          exec .nominate s = .next
            ((s.onSlot i fun a => { a with next := some (d, got) }).answered q (if got < amount then .clamped else .ok)
              (be 5 got ++ beFlag s.acct.provisional))))

/-- A boundary notice opens its handover group unless it is open, and begins a close, or is deferred while one is in
flight (R166, R167). A close takes its snapshot, a slot with a parity mark entering with 0, then rolls every used
slot: the next nomination becomes the current one, or 0 does; each is clamped again (R161) against the projected
inventories; CURTAILED is taken back, the confirmations are provisional and are computed anew (R166, R168). An entry
found bad is treated as R181 says; that all slots are checked, with the curtailments their findings bring, before the
snapshot is the model's choice (log entry 76), and so is their order, by ascending slot (log entry 11). A close is
allocated once it has begun and its group is complete, and the group is used up (R167). -/
def Obligations.ClosesBegin : Prop :=
  (∀ (s : State) (n : Notice),
    let grouped := if ∃ g ∈ s.acct.groups, g.num = n.num then s
      else { s with acct := { s.acct with groups := s.acct.groups ++ [⟨n.num, 0, 0, 0, 0, 0, 0, false, false⟩] } }
    (s.acct.closing = none → acctBoundary n s = beginClose n grouped) ∧
    (s.acct.closing ≠ none →
      acctBoundary n s = { grouped with acct := { grouped.acct with deferred := s.acct.deferred ++ [n] } }) ∧
    beginClose n s = beginClose n (checkShippers s) ∧
    checkShippers s = (List.range 32).foldl (fun x i => if x.foundBad .shippers i = true then
        curtail none ((occur Src.tableParity i (x.setMark .shippers i)).onSlot i fun a => { a with req := 0, next := none })
      else x) s) ∧
  (∀ (s : State) (n : Notice), s.acct.slots.length = 32 → (∀ i < 32, s.foundBad .shippers i = false) →
    let snap (i : Nat) : SnapSlot := ⟨(s.slot i).dir, if s.marked .shippers i = true then 0 else (s.slot i).conf,
      s.inventory i, (s.shipper i).space⟩
    let left (i : Nat) : Nat := s.inventory i - (if (snap i).dir = .withdraw then (snap i).conf else 0)
    let op : CloseOp := ⟨n, (List.range 32).map snap, s.ret.oba, s.acct.curtailed, (List.range 32).map left, none⟩
    let c : State := { s with acct := { s.acct with closing := some op } }
    ∃ u : State, beginClose n s = tryAllocate (curtail none u) ∧
      u = { c with acct := { c.acct with slots := u.acct.slots, curtailed := false, provisional := true } } ∧
      ∀ i < 32,
        ((s.shipper i).code = 0 → u.slot i = { s.slot i with
          req := c.clampCurrent i (s.slot i).dir (s.slot i).req }) ∧
        ((s.shipper i).code ≠ 0 → (s.slot i).next = none → u.slot i = { s.slot i with req := 0 }) ∧
        ∀ d amount, (s.shipper i).code ≠ 0 → (s.slot i).next = some (d, amount) → u.slot i = { s.slot i with
          dir := d
          req := c.clampCurrent i d amount
          next := none }) ∧
  (∀ s : State, s.acct.slots.length = 32 →
    reclampAll s = { s with acct := { s.acct with slots := (reclampAll s).acct.slots } } ∧
    ∀ i < 32, (reclampAll s).slot i = { s.slot i with req := s.clampCurrent i (s.slot i).dir (s.slot i).req }) ∧
  ∀ s : State,
    (s.acct.closing = none → tryAllocate s = s) ∧
    (∀ op, s.acct.closing = some op → op.alloc ≠ none → tryAllocate s = s) ∧
    (∀ op, s.acct.closing = some op → (∀ g ∈ s.acct.groups, g.num = op.notice.num → g.complete = false) →
      tryAllocate s = s) ∧
    (∀ op g pre post, s.acct.closing = some op → op.alloc = none → s.acct.groups = pre ++ g :: post →
      g.num = op.notice.num → g.complete = true → (∀ h ∈ pre, h.num ≠ g.num) →
      tryAllocate s = { s with
        acct := { s.acct with
          closing := some { op with alloc := some (allocate s.free op g) }
          groups := (pre ++ post).filter fun h => decide (h.num ≠ g.num) }
        free := s.free + 1 }) ∧
    ∀ num,
      ((∃ g ∈ s.acct.groups, g.num = num) → completeGroup num s = tryAllocate { s with acct := { s.acct with
        groups := s.acct.groups.map fun g => if g.num = num then { g with complete := true } else g } }) ∧
      ((∀ g ∈ s.acct.groups, g.num ≠ num) → completeGroup num s = tryAllocate { s with acct := { s.acct with
        groups := s.acct.groups ++ [⟨num, 0, 0, 0, 0, 0, 0, false, true⟩] } })

/-- A close completes once its allocation is taken (R174), in this order. Inventories, OBA, interval number and a
close record are written as one whole; of eight records the oldest makes place, and CLOSE_OVERWRITTEN is latched if it
was pending (R177). A pending SHIPPERS image is applied unless a slot to which it gives another code holds energy
(R180; that a newly used slot is one of these is the model's reading, log entry 70): a slot with another code begins
with nothing, but keeps its direction (the model's choice, log entry 39), and every other keeps its nominations and
its inventory. Every current nomination is clamped again against the inventories now held (R161), and a curtailment
follows. The provisional flag is cleared, INTERVAL_CLOSED is latched, and ALLOCATION_CAPPED with the slot that the
allocation names (R170, R172). The engine is then IDLE, or begins the close of the oldest deferred boundary (R166).
With no close in flight, or before its allocation, nothing happens. -/
def Obligations.CloseCompletes : Prop :=
  (∀ s : State,
    (s.acct.closing = none → exec .closeComplete s = .next s) ∧
    (∀ op, s.acct.closing = some op → op.alloc = none → exec .closeComplete s = .next s) ∧
    ∀ op r, s.acct.closing = some op → op.alloc = some r → s.ev.recs.length = 48 →
      let num := intervalAfter s.free s.ret.lastInterval
      let written : State := { s with
        acct := { s.acct with closing := none }
        ret := { s.ret with
          inventories := r.inventories
          oba := r.oba
          lastInterval := num
          history := (if s.ret.history.length < 8 then s.ret.history else s.ret.history.tail) ++ [closeRecord num op r] }
        free := s.free + 1 }
      let lost := 8 ≤ s.ret.history.length ∧ ∃ oldest rest, s.ret.history = oldest :: rest ∧ oldest.pending = true
      (s.ret.lastInterval + 1 < 2 ^ 32 → num = s.ret.lastInterval + 1) ∧
      ∃ w u : State,
        (lost → w = occur Src.closeOverwritten noSubject written) ∧ (¬lost → w = written) ∧
        (let x := applyShippers w
         let v := curtail none (reclampAll x)
         let e := occur Src.intervalClosed noSubject { v with acct := { v.acct with provisional := false } }
         (x.acct.slots.length = 32 → ∀ i < 32,
           (reclampAll x).slot i = { x.slot i with req := x.clampCurrent i (x.slot i).dir (x.slot i).req }) ∧
         (r.capped = none → u = e) ∧ (∀ i, r.capped = some i → u = occur Src.allocationCapped i e)) ∧
        (s.acct.deferred = [] → exec .closeComplete s = .next u) ∧
        (∀ n rest, s.acct.deferred = n :: rest →
          exec .closeComplete s = .next (beginClose n { u with acct := { u.acct with deferred := rest } })) ∧
        (u.source Src.intervalClosed).latch = true ∧
        (∀ i, r.capped = some i → (u.source Src.allocationCapped).latch = true ∧
          (u.source Src.allocationCapped).subject = BitVec.ofNat 8 i) ∧
        u.ret = (applyShippers w).ret ∧ u.tables = (applyShippers w).tables ∧
        u.acct.closing = none ∧ u.acct.provisional = false ∧ u.acct.deferred = s.acct.deferred ∧
        u.now = s.now ∧ u.time = s.time ∧ u.mode = s.mode ∧
        u.runs = s.runs ∧ u.dry = s.dry ∧ u.units = s.units ∧ u.chans = s.chans) ∧
  (∀ s : State, s.ret.pendShippers = none → applyShippers s = s) ∧
  ∀ (s : State) (img : StoredImage), s.ret.pendShippers = some img → s.acct.slots.length = 32 →
    s.ret.inventories.length = 32 →
    let new (i : Nat) : ShipperCfg := (decodeEntries .shippers decodeShipper img.octets).getD i .blank
    let held := ∃ i < 32, 0 < s.inventory i ∧ (new i).code ≠ (s.shipper i).code
    let t := applyShippers s
    (held → t = s) ∧
    (¬held →
      t.ret = { s.ret with
        committed := s.ret.committed.put .shippers (some img)
        pendShippers := none
        inventories := t.ret.inventories } ∧
      t.ev = (occur Src.tableCommitted noSubject s).ev ∧
      (∀ i < 32, t.shipper i = new i ∧ t.marked .shippers i = false ∧
        ((new i).code = (s.shipper i).code → t.slot i = s.slot i ∧ t.inventory i = s.inventory i) ∧
        ((new i).code ≠ (s.shipper i).code →
          t.slot i = { s.slot i with req := 0, conf := 0, next := none } ∧ t.inventory i = 0)))

/-- TRANSFER by its checks in the order of R179. A slot whose entry is found bad is marked, with TABLE_PARITY, its
current nomination becomes 0 (in the direction it had, the model's choice, log entry 94), its next one is dropped and
a curtailment follows; the transfer is then refused WRONG_STATE, as for a slot already marked (R181). That the
source's slot is checked before the receiver's, and no slot where an earlier row refuses, is the model's choice (log
entries 11, 100). Otherwise the source's inventory falls and the receiver's rises by the amount, the current
nominations of both slots are clamped again in their directions (R161), a curtailment computation follows, both
inventories are answered, and no other part of the retained store changes. A transfer of 0 changes nothing: that it
takes no new clamp and no curtailment either is the model's reading (log entry 26). -/
def Obligations.TransferMovesEnergy : Prop :=
  ∀ (s : State) (q : Request) (args : List Octet), args.length = 9 → s.Asks q 0x39 args →
    let source := fieldAt args 0 2
    let receiver := fieldAt args 2 2
    let amount := fieldAt args 4 5
    let formed := 0 < source ∧ 0 < receiver ∧ source ≠ receiver
    (¬formed → exec .transfer s = .next (s.answered q .badArgument [])) ∧
    (formed → s.acct.closing ≠ none → exec .transfer s = .next (s.answered q .closing [])) ∧
    (formed → s.acct.closing = none → (s.slotOf source = none ∨ s.slotOf receiver = none) →
      exec .transfer s = .next (s.answered q .unknownTarget [])) ∧
    ∀ i j, formed → s.acct.closing = none → s.slotOf source = some i → s.slotOf receiver = some j →
      let check (k : Nat) (x : State) : State :=
        if x.foundBad .shippers k then
          curtail none ((occur Src.tableParity k (x.setMark .shippers k)).onSlot k fun a => { a with req := 0, next := none })
        else x
      ((s.foundBad .shippers i = true ∨ s.foundBad .shippers j = true) →
        exec .transfer s = .next (answerRequest q .wrongState [] (check j (check i s)))) ∧
      (s.foundBad .shippers i = false → s.foundBad .shippers j = false →
        ((s.marked .shippers i = true ∨ s.marked .shippers j = true) →
          exec .transfer s = .next (s.answered q .wrongState [])) ∧
        (s.marked .shippers i = false → s.marked .shippers j = false →
          (s.inventory i < amount → exec .transfer s = .next (s.answered q .insufficient [])) ∧
          (amount ≤ s.inventory i → (s.shipper j).space < s.inventory j + amount →
            exec .transfer s = .next (s.answered q .noSpace [])) ∧
          (amount ≤ s.inventory i → s.inventory j + amount ≤ (s.shipper j).space → s.ret.inventories.length = 32 →
            let clamp (k : Nat) (x : State) : State := x.onSlot k fun a => { a with req := x.clampCurrent k a.dir a.req }
            let moved := { s with ret := { s.ret with
              inventories := (s.ret.inventories.set i (s.inventory i - amount)).set j (s.inventory j + amount) } }
            let done := if amount = 0 then s else curtail none (clamp j (clamp i moved))
            ∃ t, exec .transfer s = .next t ∧
              t = answerRequest q .ok (be 5 (s.inventory i - amount) ++ be 5 (s.inventory j + amount)) done ∧
              t.ret = { s.ret with inventories := (s.ret.inventories.set i (s.inventory i - amount)).set j (s.inventory j + amount) } ∧
              t.resp = s.resp ++ [responseTo q .ok (be 5 (s.inventory i - amount) ++ be 5 (s.inventory j + amount))] ∧
              t.tables = s.tables ∧ t.dry = s.dry ∧ t.mode = s.mode ∧ t.runs = s.runs)))

/-- READ_SHIPPER gives the slot after the check of its entry, with the engine's state, the OBA, both caps and both
totals (R182); one found bad is marked, with TABLE_PARITY, its current nomination becomes 0 and its next one is
dropped, and a curtailment follows (R181); READ_CLOSE gives the oldest pending record, or the one of an interval
number, from a first line, and the first read of its first line clears its pending flag (R178). A close record is sent
as its head of 60 octets, a count and up to eight lines of 26 octets (R216); the widths of the results and the
presence octets are the model's choice (log entries 9, 99). -/
def Obligations.AccountReads : Prop :=
  (∀ (s : State) (i : Nat),
    let a := s.slot i
    let sum (d : Dir) : Nat := (s.acct.slots.map fun x => if x.dir = d then x.conf else 0).sum
    let nothing : List Octet := 0 :: be 6 0
    s.shipperResult i = s.entryImage .shippers i ++ beFlag (s.marked .shippers i) ++ be 5 (s.inventory i) ++
      be 1 a.dir.code ++ be 5 a.req ++ be 5 a.conf ++
      (a.next.elim nothing fun n => 1 :: be 1 n.1.code ++ be 5 n.2) ++
      beOpt 5 (s.acct.closing.map fun op => op.projected.getD i 0) ++
      be 1 (if s.acct.closing.isSome then 1 else 0) ++ beFlag s.acct.provisional ++ beInt 6 s.ret.oba ++
      be 3 (s.capOf .inject) ++ be 3 (s.capOf .withdraw) ++ be 6 (sum .inject) ++ be 6 (sum .withdraw) ++
      be 4 s.ret.lastInterval ++ be 1 (s.ret.history.countP (·.pending)) ++ beFlag s.ret.pendShippers.isSome) ∧
  (∀ (r : CloseRecord) (first : Nat),
    let flag (b : Bool) (weight : Nat) : Nat := if b then weight else 0
    let head := be 4 r.num ++ be 6 r.start ++ be 6 r.stop ++
      be 1 (flag r.estimated 1 + flag r.timeStep 2 + flag r.first 4 + flag r.curtailed 8 + flag r.pending 16) ++
      be 6 r.mInj ++ be 6 r.mWd ++ be 6 r.tIn ++ be 6 r.tOut ++ be 6 r.fuel ++ be 6 r.regen ++ beInt 6 r.obaDelta ++
      be 1 r.lines.length
    r.result first = head ++ beList (((r.lines.drop first).take 8).map fun l =>
      be 1 l.slot ++ be 5 l.inj ++ be 5 l.wd ++ be 5 l.fuel ++ be 5 l.drying ++ be 5 l.after)) ∧
  (∀ (s : State) (q : Request) (b : Octet), s.Asks q 0x08 [b] →
    (31 < b.toNat → exec .readShipper s = .next (s.answered q .badArgument [])) ∧
    (b.toNat ≤ 31 → s.foundBad .shippers b.toNat = false →
      exec .readShipper s = .next (s.answered q .ok (s.shipperResult b.toNat))) ∧
    (b.toNat ≤ 31 → s.foundBad .shippers b.toNat = true →
      let u := curtail none ((occur Src.tableParity b.toNat (s.setMark .shippers b.toNat)).onSlot b.toNat fun a =>
        { a with req := 0, next := none })
      exec .readShipper s = .next (answerRequest q .ok (u.shipperResult b.toNat) u))) ∧
  ∀ (s : State) (q : Request) (args : List Octet), args.length = 6 → s.Asks q 0x09 args →
    let kind := fieldAt args 0 1
    let first := fieldAt args 5 1
    let chosen (r : CloseRecord) : Bool := if kind = 1 then r.pending else decide (r.num = fieldAt args 1 4)
    (1 < kind ∨ 31 < first → exec .readClose s = .next (s.answered q .badArgument [])) ∧
    (kind ≤ 1 → first ≤ 31 → (∀ r ∈ s.ret.history, chosen r = false) →
      exec .readClose s = .next (s.answered q .unknownTarget [])) ∧
    ∀ (older newer : List CloseRecord) (r : CloseRecord), kind ≤ 1 → first ≤ 31 →
      s.ret.history = older ++ r :: newer → (∀ x ∈ older, chosen x = false) → chosen r = true →
      (r.lines.length ≤ first → 0 < first → exec .readClose s = .next (s.answered q .badArgument [])) ∧
      (first < r.lines.length → 0 < first → exec .readClose s = .next (s.answered q .ok (r.result first))) ∧
      (first = 0 → exec .readClose s =
        .next ({ s with ret := { s.ret with history := older ++ { r with pending := false } :: newer } }.answered q .ok
          (r.result 0)))

/-- An allocation (R169 to R173), slot by slot: each amount is the slot's share by largest remainder, limited:
injection by the room up to the snapshot space right, withdrawal by the inventory after injection, the fuel charge by
what is then left, and the drying charge by what is left after fuel. Its lowest slot with an amount cut is the one
ALLOCATION_CAPPED names, and none when no amount is cut. What was cut off, what no slot had a weight for, and T_in -
T_out go to the OBA. The sum of the changes of all inventories and of the OBA is then M_INJ + T_in - M_WD - T_out - F
- D (R173), for a snapshot whose OBA and its change stay within the signed 48-bit range (log entry 8). No inventory
goes above its space right by it. -/
def Obligations.AllocationConservesEnergy : Prop :=
  ∀ (free : Nat) (op : CloseOp) (g : Group),
    let r := allocate free op g
    let x := sharesOf op.slots g
    let n := op.slots.length
    let confirmed (d : Dir) : List Nat := op.slots.map fun y => if y.dir = d then y.conf else 0
    let moved : List Nat := (List.range n).map fun i => x.inj.getD i 0 + x.wd.getD i 0
    let cut (i : Nat) : Prop := x.inj.getD i 0 < x.injAsked.getD i 0 ∨ x.wd.getD i 0 < x.wdAsked.getD i 0 ∨
      x.fuel.getD i 0 < x.fuelAsked.getD i 0 ∨ x.dry.getD i 0 < x.dryAsked.getD i 0
    let short (asked got : List Nat) : Nat := ((List.range n).map fun i => asked.getD i 0 - got.getD i 0).sum
    let whole (weights : List Nat) (total : Nat) : Nat := if weights.sum = 0 then total else 0
    let change : Int := ((whole (confirmed .inject) g.mInj + short x.injAsked x.inj : Nat) : Int) -
      (whole (confirmed .withdraw) g.mWd + short x.wdAsked x.wd : Nat) - (whole moved g.fuel + short x.fuelAsked x.fuel : Nat) -
      (whole x.wd g.regen + short x.dryAsked x.dry : Nat) + g.tIn - g.tOut
    let measured : Int := (g.mInj : Int) + g.tIn - g.mWd - g.tOut - g.fuel - g.regen
    let held : Nat := (op.slots.map (·.inventory)).sum
    r.inventories.length = n ∧
    x.injAsked = divideShares g.mInj (confirmed .inject) ∧ x.wdAsked = divideShares g.mWd (confirmed .withdraw) ∧
    x.fuelAsked = divideShares g.fuel moved ∧ x.dryAsked = divideShares g.regen x.wd ∧
    (∀ i y, op.slots[i]? = some y →
      let inj := x.inj.getD i 0
      let wd := x.wd.getD i 0
      let fuel := x.fuel.getD i 0
      let dry := x.dry.getD i 0
      inj = min (x.injAsked.getD i 0) (y.space - y.inventory) ∧
      wd = min (x.wdAsked.getD i 0) (y.inventory + inj) ∧
      fuel = min (x.fuelAsked.getD i 0) (y.inventory + inj - wd) ∧
      dry = min (x.dryAsked.getD i 0) (y.inventory + inj - wd - fuel) ∧
      r.inventories.getD i 0 = y.inventory + inj - wd - fuel - dry ∧
      r.inventories.getD i 0 ≤ max y.inventory y.space) ∧
    (r.capped = none ↔ ∀ i < n, ¬cut i) ∧
    (∀ i, r.capped = some i ↔ i < n ∧ cut i ∧ ∀ j < i, ¬cut j) ∧
    (((r.inventories.sum : Int) - held) + change = measured) ∧
    (-(2 ^ 47 : Int) ≤ op.oba + change → op.oba + change < 2 ^ 47 →
      r.oba = op.oba + change ∧ r.obaDelta = change)

/-! ### Events -/

/-- R189: an occurrence of a source that is queued updates the source's entry in place, whatever the mask shows and
whether or not its latch was set, and no second entry is made. -/
def Obligations.QueuedOccurrenceUpdatesInPlace : Prop :=
  ∀ (s : State) (src subject : Nat), src < s.ev.recs.length → queued s.ev.alerts src = true →
    let t := occurPlain src subject s
    let count := min 255 ((s.source src).count + 1)
    (t.source src).latch = true ∧ (t.source src).count = count ∧ (t.source src).subject = BitVec.ofNat 8 subject ∧
    t.ev.alerts.length = s.ev.alerts.length ∧
    ∀ (i : Nat) (a : Alert), s.ev.alerts[i]? = some a →
      t.ev.alerts[i]? = some (if a.source = src then
        { a with count := count, subject := BitVec.ofNat 8 subject, last := s.time.count, unset := s.time.unset } else a)

/-- An offer to the alert queue by the three cases of R190, each entry joining behind those of the same or higher
priority (R188): in an ordered queue the record joins, displaces the last entry of a full queue when its priority is
higher, and is not queued otherwise. An occurrence of a source that is not queued sets its latch, counts one up to 255
and takes the subject over (R185); the offer is made exactly when the latch was clear and the source is alert enabled,
which a source whose EVENTS entry carries a mark is, with priority 0 (R187). An occurrence that finds the entry bad
first marks it and is preceded by one of TABLE_PARITY with the source number (R187). -/
def Obligations.OffersToTheAlertQueue : Prop :=
  (∀ (a : Alert) (l : List Alert), l.Pairwise (fun x y => x.priority ≤ y.priority) → l.length ≤ 32 →
    let joined (m : List Alert) : Prop := ∃ ahead behind, m = ahead ++ behind ∧
      offerAlert a l = ahead ++ a :: behind ∧ (∀ x ∈ ahead, x.priority ≤ a.priority) ∧ ∀ x ∈ behind, a.priority < x.priority
    (l.length < 32 → joined l) ∧
    (∀ last, l.length = 32 → l.getLast? = some last → a.priority < last.priority → joined l.dropLast) ∧
    (∀ last, l.length = 32 → l.getLast? = some last → last.priority ≤ a.priority → offerAlert a l = l)) ∧
  (∀ (s : State) (src subject : Nat), src < s.ev.recs.length → queued s.ev.alerts src = false →
    let t := occurPlain src subject s
    let count := min 255 ((s.source src).count + 1)
    let subj : Octet := BitVec.ofNat 8 subject
    let marked := s.marked .events src = true
    let entry := s.tables.events.getD src .initial
    let offered (priority : Nat) : List Alert :=
      offerAlert ⟨src, priority, count, subj, s.time.count, s.time.count, s.time.unset⟩ s.ev.alerts
    t = { s with ev := t.ev } ∧ t.source src = ⟨true, count, subj⟩ ∧ (∀ j, j ≠ src → t.source j = s.source j) ∧
    ((s.source src).latch = true ∨ (¬marked ∧ entry.alertEnabled = false) → t.ev.alerts = s.ev.alerts) ∧
    ((s.source src).latch = false → marked → t.ev.alerts = offered 0) ∧
    ((s.source src).latch = false → ¬marked → entry.alertEnabled = true → t.ev.alerts = offered entry.priority)) ∧
  ∀ (s : State) (src subject : Nat),
    let m := s.setMark .events src
    (s.foundBad .events src = false → occur src subject s = occurPlain src subject s) ∧
    (s.foundBad .events src = true → m.marked .events src = true ∧ m.foundBad .events src = false ∧
      (src = Src.tableParity → occur src subject s = occurPlain src subject (occurPlain src src m)) ∧
      (src ≠ Src.tableParity →
        occur src subject s = occurPlain src subject (occur Src.tableParity src m) ∧
        (occur Src.tableParity src m).marked .events src = true))

/-- CLEAR_EVENTS clears the sources of its set and no other, leaves the alert queue (R192) and answers every source's
latch, as 48 yes-or-no octets (the model's choice of form, log entry 9); FORCE_EVENT is an occurrence with subject FFh
(R193); READ_EVENTS checks every entry, by ascending source number (the model's choice, which decides the subject
TABLE_PARITY keeps, log entry 11), an entry found bad getting its mark and TABLE_PARITY with its source as subject
(R187), gives latch, count, subject, mask, priority, queued state and parity mark of each source and the length of the
alert queue, and changes nothing else (R194; the mask and priority of a marked entry are the table's own by the
model's choice, log entry 77). -/
def Obligations.EventRequests : Prop :=
  ∀ (s : State) (q : Request),
    (∀ args : List Octet, args.length = 6 → s.Asks q 0x40 args →
      let t := { s with ev := { s.ev with
        recs := s.ev.recs.mapIdx fun n r => if (args.getD (n / 8) 0).getLsbD (n % 8) then ⟨false, 0, 0xFF⟩ else r } }
      exec .clearEvents s = .next (t.answered q .ok (t.ev.recs.flatMap fun r => beFlag r.latch))) ∧
    (∀ b : Octet, s.Asks q 0x41 [b] →
      (47 < b.toNat → exec .forceEvent s = .next (s.answered q .badArgument [])) ∧
      (b.toNat ≤ 47 →
        let t := occur b.toNat 255 s
        exec .forceEvent s = .next (answerRequest q .ok
          (beFlag (t.source b.toNat).latch ++ be 1 (t.source b.toNat).count ++ beFlag (queued t.ev.alerts b.toNat)) t))) ∧
    (s.Asks q 0x0A [] →
      let t := checkEvents s
      exec .readEvents s = .next (answerRequest q .ok t.eventsResult t) ∧
      (t = (List.range 48).foldl (fun x n => if x.foundBad .events n = true then
          if n = Src.tableParity then occurPlain Src.tableParity Src.tableParity (x.setMark .events n)
          else occur Src.tableParity n (x.setMark .events n)
        else x) s) ∧
      (t.eventsResult = (List.range 48).flatMap (fun n =>
          let r := t.source n
          let c := t.tables.events.getD n .initial
          beFlag r.latch ++ be 1 r.count ++ [r.subject] ++ beFlag (!c.alertEnabled) ++ be 1 c.priority ++
            beFlag (queued t.ev.alerts n) ++ beFlag (t.marked .events n)) ++ be 1 t.ev.alerts.length) ∧
      ((∀ n < 48, s.foundBad .events n = false) → t = s))

/-! ### Tables -/

/-- READ_TABLE by selector (R200): the image in effect, unless the entry at its offset carries a mark; the pending
image; the open load of that table; each with its length and CRC, its octets behind a count octet (the model's
reading, log entry 16); the count of octets written stands in the answer of STAGED alone, with no presence octet (the
model's choice, log entry 99). Its own fields are checked first (R198). The image in effect is the committed one as it
was loaded, or the default table's encoding (R200); an entry that a result carries is its octets there (R215). -/
def Obligations.TablesAreRead : Prop :=
  (∀ (s : State) (t : TableId),
    (∀ img, s.ret.committed.get t = some img → s.imageInEffect t = img.octets) ∧
    (s.ret.committed.get t = none → s.imageInEffect t = encodeTable Tables.initial t) ∧
    ∀ i, s.entryImage t i = ((s.imageInEffect t).drop (i * entrySize t)).take (entrySize t)) ∧
  ∀ (s : State) (q : Request) (args : List Octet), args.length = 5 → s.Asks q 0x0B args →
    let selector := fieldAt args 1 1
    let off := fieldAt args 2 2
    let n := fieldAt args 4 1
    let body (image : List Octet) : List Octet := be 1 n ++ (image.drop off).take n
    (9 < fieldAt args 0 1 ∨ 2 < selector ∨ n = 0 ∨ 200 < n → exec .readTable s = .next (s.answered q .badArgument [])) ∧
    ∀ t : TableId, fieldAt args 0 1 = t.code → 1 ≤ n → n ≤ 200 →
      (selector = 0 → s.marked t (off / entrySize t) = true → exec .readTable s = .next (s.answered q .unknownTarget [])) ∧
      (selector = 0 → s.marked t (off / entrySize t) = false →
        (imageLength t < off + n → exec .readTable s = .next (s.answered q .badArgument [])) ∧
        (off + n ≤ imageLength t → exec .readTable s = .next (s.answered q .ok
          (body (s.imageInEffect t) ++ be 2 (s.imageInEffect t).length ++ be 2 (crc16 (s.imageInEffect t)).toNat)))) ∧
      (selector = 1 → s.ret.pendingOf t = none → exec .readTable s = .next (s.answered q .unknownTarget [])) ∧
      (∀ img, selector = 1 → s.ret.pendingOf t = some img →
        (imageLength t < off + n → exec .readTable s = .next (s.answered q .badArgument [])) ∧
        (off + n ≤ imageLength t → exec .readTable s = .next (s.answered q .ok
          (body img.octets ++ be 2 img.octets.length ++ be 2 (crc16 img.octets).toNat)))) ∧
      (selector = 2 → (∀ l, s.mgmt.load = some l → l.table ≠ t) →
        exec .readTable s = .next (s.answered q .unknownTarget [])) ∧
      ∀ l, selector = 2 → s.mgmt.load = some l → l.table = t →
        (imageLength t < off + n → exec .readTable s = .next (s.answered q .badArgument [])) ∧
        (off + n ≤ imageLength t → exec .readTable s = .next (s.answered q .ok
          (body l.octets ++ be 2 l.length ++ be 2 (l.written.countP id) ++ be 2 l.crc.toNat)))

/-- The staging area (R203, R207): LOAD_BEGIN by its checks in order, LOAD_DATA writing its octets and marks from its
offset onward, LOAD_ABORT closing the load; a change of the custody line is taken as its level and nothing else
(R207). -/
def Obligations.LoadsAreStaged : Prop :=
  (∀ (s : State) (b : Bool), exec (.custodyLineChange b) s = .next { s with custody := b }) ∧
  ∀ (s : State) (q : Request) (args : List Octet),
    (args.length = 5 → s.Asks q 0x50 args →
      (9 < fieldAt args 0 1 → exec .loadBegin s = .next (s.answered q .badArgument [])) ∧
      ∀ t : TableId, fieldAt args 0 1 = t.code →
        let length := be 2 (imageLength t)
        let guarded := (t = .runs ∨ t = .station) ∧ s.custody = false
        (fieldAt args 1 2 ≠ imageLength t → exec .loadBegin s = .next (s.answered q .badArgument length)) ∧
        (fieldAt args 1 2 = imageLength t → s.mgmt.load ≠ none → exec .loadBegin s = .next (s.answered q .wrongState [])) ∧
        (fieldAt args 1 2 = imageLength t → s.mgmt.load = none →
          (guarded → exec .loadBegin s = .next (answerRequest q .isProtected [] (occur Src.tableProtected noSubject s))) ∧
          (¬guarded →
            let empty : Load := {
              table := t
              length := imageLength t
              crc := BitVec.ofNat 16 (fieldAt args 3 2)
              octets := List.replicate (imageLength t) 0
              written := List.replicate (imageLength t) false }
            exec .loadBegin s = .next ({ s with mgmt := { s.mgmt with load := some empty } }.answered q .ok length)))) ∧
    (∀ (b1 b2 : Octet) (data : List Octet), args = b1 :: b2 :: BitVec.ofNat 8 data.length :: data → data.length ≤ 255 →
      s.Asks q 0x51 args →
      let off := b1.toNat * 256 + b2.toNat
      (data = [] ∨ 200 < data.length → exec .loadData s = .next (s.answered q .badArgument [])) ∧
      (data ≠ [] → data.length ≤ 200 →
        (s.mgmt.load = none → exec .loadData s = .next (s.answered q .noLoad [])) ∧
        ∀ l, s.mgmt.load = some l →
          (l.length < off + data.length → exec .loadData s = .next (s.answered q .badArgument [])) ∧
          (off + data.length ≤ l.length →
            let filled : Load := { l with
              octets := l.octets.take off ++ data ++ l.octets.drop (off + data.length)
              written := l.written.take off ++ List.replicate data.length true ++ l.written.drop (off + data.length) }
            exec .loadData s = .next ({ s with mgmt := { s.mgmt with load := some filled } }.answered q .ok
              (be 2 (filled.written.countP id)))))) ∧
    (s.Asks q 0x53 [] →
      (s.mgmt.load = none → exec .loadAbort s = .next (s.answered q .noLoad [])) ∧
      (s.mgmt.load ≠ none → exec .loadAbort s = .next ({ s with mgmt := { s.mgmt with load := none } }.answered q .ok [])))

/-- A commit (R204): LOAD_COMMIT without a load is refused NO_LOAD, and with one stays in service; the completion of a
sound image closes the load, answers OK and installs it, or makes it pending for RUNS, STATION and SHIPPERS (R202); a
refused one leaves the load open and answers the first check that fails (the validations stand in
TableEntriesReadBack). The answers 0 for 'took effect' and 1 for 'pending', that the four checks are taken in the
completing step, and that all channels an image names have their entries checked before its validation (R37), are the
model's choices (log entries 9, 22 and 36). The owner of a table then latches TABLE_COMMITTED and compares each entry
with its former one. A UNITS entry of the same in-use flag, address and class keeps its live part; any other, or one
that lost a mark, is reset, and a PRESENT one leaves PRESENT (R20, R28). A CHANNELS entry unchanged keeps its record;
any other is reset, its conditioning void, its sweep place done (R32); one in service shows no request and leaves the
remaining set when its service ends; nothing else changes, so a comparator that falls is told to no block (log entries
50, 64 and 81). A COMPRESSORS record in use with the same unit keeps its live part, less the marks older than a new
window; any other starts anew with run seconds 0 and no millisecond remainder (log entry 43), leaves the duty order or
joins its tail, and loses its unsent own commands; an evaluation follows (R104). A train in use with the same valve
set and run keeps its live part, unsynchronised if it lost a mark, its bed times measured anew, the test at a new heat
time taken again, and passed expiries taken in a fixed order (log entries 49, 54, 74 and 84); any other is reset and
loses its unsent own commands (R135); train 0 is evaluated and its sum told before train 1 (the model's choice, log
entry 93). -/
def Obligations.CommitsCompleteOrAreRefused : Prop :=
  (∀ (s : State) (q : Request), s.Asks q 0x52 [] →
    (s.mgmt.load = none → exec .loadCommit s = .next (s.answered q .noLoad [])) ∧
    (s.mgmt.load ≠ none → exec .loadCommit s = .next { s with
      mgmt := { s.mgmt with service := some (.committing q) } })) ∧
  (∀ s : State, ((∀ q, s.mgmt.service ≠ some (.committing q)) ∨ s.mgmt.load = none) →
    exec .commitComplete s = .next s ∧ exec .commitRefused s = .next s) ∧
  (∀ (s : State) (q : Request) (l : Load), s.mgmt.service = some (.committing q) → s.mgmt.load = some l →
    let img : StoredImage := ⟨l.octets, l.length, l.crc⟩
    let named := namedChannels l.table l.octets
    let v := useChannels named s
    let closed := { v with mgmt := { v.mgmt with load := none } }
    let unwritten := ∃ w ∈ l.written, w = false
    let guarded := (l.table = .runs ∨ l.table = .station) ∧ s.custody = false
    let sound := ¬unwritten ∧ crc16 l.octets = l.crc ∧ firstOffending s l.table l.octets = none ∧ ¬guarded
    (l.table = .runs → named = (List.range 8).flatMap fun i =>
      let r := decodeRun ((l.octets.drop (i * 139)).take 139)
      if r.role = .unused then [] else [r.flow, r.press, r.temp] ++ r.cal.toList) ∧
    (l.table = .station → named = (decodeStation (l.octets.take 23)).storage.toList ++
      (decodeStation (l.octets.take 23)).pipeline.toList) ∧
    (l.table = .dryers → named = (List.range 2).flatMap fun i =>
      let c := decodeDryer ((l.octets.drop (i * 36)).take 36)
      if c.inUse then [c.inlet, c.outlet] ++ c.regenCh.toList else []) ∧
    (l.table ≠ .runs → l.table ≠ .station → l.table ≠ .dryers → named = []) ∧
    ((∀ ch ∈ named, s.foundBad .channels ch = false) → v = s) ∧
    (¬sound → exec .commitComplete s = .next s) ∧ (sound → exec .commitRefused s = .next s) ∧
    (sound → l.table = .runs → exec .commitComplete s =
      .next (answerRequest q .ok [1] { closed with ret := { s.ret with pendRuns := some img } })) ∧
    (sound → l.table = .station → exec .commitComplete s =
      .next (answerRequest q .ok [1] { closed with ret := { s.ret with pendStation := some img } })) ∧
    (sound → l.table = .shippers → exec .commitComplete s =
      .next (answerRequest q .ok [1] { closed with ret := { s.ret with pendShippers := some img } })) ∧
    (sound → l.table ≠ .runs → l.table ≠ .station → l.table ≠ .shippers →
      exec .commitComplete s = .next (answerRequest q .ok [0] (ownerActs l.table closed (installImage l.table img closed))) ∧
      (installImage l.table img closed).ret.committed.get l.table = some img ∧
      (installImage l.table img closed).tables = s.tables.load l.table l.octets ∧
      ∀ i, (installImage l.table img closed).marked l.table i = false) ∧
    (unwritten → exec .commitRefused s = .next (answerRequest q .incomplete (be 2 (l.written.countP id)) s)) ∧
    (¬unwritten → crc16 l.octets ≠ l.crc → exec .commitRefused s = .next (answerRequest q .checkFailed [] s)) ∧
    (∀ i, ¬unwritten → crc16 l.octets = l.crc → firstOffending s l.table l.octets = some i →
      exec .commitRefused s = .next (answerRequest q .invalidTable (be 1 (entryIndex l.table i)) v)) ∧
    (¬unwritten → crc16 l.octets = l.crc → firstOffending s l.table l.octets = none → guarded →
      exec .commitRefused s = .next (answerRequest q .isProtected [] (occur Src.tableProtected noSubject v)))) ∧
  ∀ before s : State, s.ev.recs.length = 48 → s.units.length = 48 → s.chans.length = 64 → s.comp.recs.length = 6 →
    s.dry.trains.length = 2 →
    let told := occur Src.tableCommitted noSubject s
    (∀ tb, tb ≠ .runs → tb ≠ .station → tb ≠ .shippers →
      ((ownerActs tb before s).source Src.tableCommitted).latch = true) ∧
    (∀ tb, tb = .link ∨ tb = .filters ∨ tb = .events → ownerActs tb before s = told) ∧
    (let t := ownerActs .units before s
     let kept (i : Nat) : Prop := (before.unitCfg i).inUse = (s.unitCfg i).inUse ∧
       (before.unitCfg i).addr = (s.unitCfg i).addr ∧ (before.unitCfg i).cls = (s.unitCfg i).cls ∧
       before.marked .units i = false
     ((∀ i < 48, kept i) → t = told) ∧
     ∀ i < 48, (kept i → t.unit i = s.unit i) ∧ (¬kept i → t.unit i = .initial) ∧
       (¬kept i → (s.unit i).attach = .present → (t.source Src.unitDeparted).latch = true) ∧
       (¬kept i → (∀ j < 48, j ≠ i → kept j) →
         let u := told.onUnit i fun _ => .initial
         ((s.unit i).attach ≠ .present → t = u) ∧
         ((s.unit i).attach = .present →
           t = leavePresent i (before.unitCfg i).cls (occur Src.unitDeparted i u)))) ∧
    (let t := ownerActs .channels before s
     let changed (ch : Nat) : Bool := decide (ch < 64 ∧ s.chCfg ch ≠ before.chCfg ch)
     (∀ ch < 64, (changed ch = false → t.chan ch = s.chan ch) ∧
       (changed ch = true → t.chan ch = { ChannelState.initial (if (s.chCfg ch).inUse then some s.now else none) with
         custody := (s.chan ch).custody.map fun k => { k with discard := true } })) ∧
     let left := s.engine.remaining.filter fun ch => !(changed ch && decide ((s.chan ch).request = .waiting))
     let swept : State := if s.engine.remaining ≠ [] ∧ left = [] then occur Src.sweepDone noSubject told else told
     t = { swept with
       chans := t.chans
       engine := { s.engine with
         serving := s.engine.serving.map fun p => if changed p.1 then (p.1, { p.2 with discard := true }) else p
         remaining := left } }) ∧
    (let kept (k : Nat) : Bool := (before.compCfg k).inUse && (s.compCfg k).inUse &&
       decide ((before.compCfg k).unit = (s.compCfg k).unit)
     let joins := (List.range 6).filter fun k => !kept k && (s.compCfg k).inUse && decide ((s.compCfg k).initial = .auto)
     ∃ u : State, ownerActs .compressors before s = dutyEvaluation (occur Src.tableCommitted noSubject u) ∧
       u = { s with
         own := s.own.filter fun e => !(List.range 6).any fun k =>
           (before.compCfg k).inUse && !kept k && decide (e.target = (before.compCfg k).unit)
         comp := { s.comp with recs := u.comp.recs, order := s.comp.order.filter kept ++ joins } } ∧
       ∀ k < 6,
         (kept k = true → u.compRec k = { s.compRec k with
           marks := if (before.compCfg k).window = (s.compCfg k).window then (s.compRec k).marks
             else (s.compRec k).marks.filter fun m => decide (s.now < m + (s.compCfg k).window * 1000) }) ∧
         (kept k = false → u.compRec k = CompRec.initial (s.compCfg k).unit (s.compCfg k).initial 0 0)) ∧
    (let kept (i : Nat) : Bool := (before.dryerCfg i).inUse && (s.dryerCfg i).inUse &&
       decide ((before.dryerCfg i).unit = (s.dryerCfg i).unit) && decide ((before.dryerCfg i).run = (s.dryerCfg i).run)
     let timed (i : Nat) (x : Bed) : Bed :=
       { x with heatDone := x.heatDone && decide ((s.dryerCfg i).heat * 1000 ≤ x.heatMs) }
     let row (x : State) (c : Instr) : State := match exec c x with
       | .next y => y
       | _ => x
     let expired (i : Nat) (x : State) : State := ([.adsorbLimitExpiry i,
       .heatTimeReached i .a, .heatTimeReached i .b, .heatTimeReached i .c,
       .heatShort i .a, .heatShort i .b, .heatShort i .c,
       .coolTimerExpiry i .a, .coolTimerExpiry i .b, .coolTimerExpiry i .c] : List Instr).foldl row x
     let loose (lost : Bool) (x : Bed) : Bed := if lost then { x with state := .unsynced } else x
     ∃ u : State,
       ownerActs .dryers before s = evalTrain 1 (evalTrain 0 (expired 1 (expired 0 u))) ∧
       u = { told with
         own := s.own.filter fun e => !(List.range 2).any fun i =>
           (before.dryerCfg i).inUse && !kept i && decide (e.target = (before.dryerCfg i).unit)
         dry := { s.dry with trains := u.dry.trains } } ∧
       (∀ i < 2,
         let t := s.train i
         let lost := before.marked .dryers i
         (kept i = true → u.train i = { t with
           synced := t.synced && !lost
           request := t.request && !lost
           switch := if lost then none else t.switch
           bedA := timed i (loose lost t.bedA)
           bedB := timed i (loose lost t.bedB)
           bedC := timed i (loose lost t.bedC) }) ∧
         (kept i = false → u.train i = { Train.initial with published := t.published, state := t.state })) ∧
       ((∀ i < 2, (u.train i).held = true ∨
         (∀ x, (u.train i).adsorbing = some x →
           ((u.train i).bed x).adsorbDone = true ∨ ((u.train i).bed x).adsorbMs < (s.dryerCfg i).adsorbMax * 1000) ∧
         ∀ x, (((u.train i).bed x).state = .heating →
             (((u.train i).bed x).heatDone = true ∨ ((u.train i).bed x).heatMs < (s.dryerCfg i).heat * 1000) ∧
             (((u.train i).bed x).heatDone = false ∨ ((u.train i).bed x).heatMs < (s.dryerCfg i).heatMax * 1000)) ∧
           (((u.train i).bed x).state = .cooling → ((u.train i).bed x).coolMs < (s.dryerCfg i).cool * 1000)) →
         ownerActs .dryers before s = evalTrain 1 (evalTrain 0 u)))

/-- An entry of a table whose fields fit their octets is read back from them as it was (R202): own addresses and the
LINK table (R3, R4), unit entries (R19, R20), channels (R31, R32), filter profiles (R53), runs (R63, R64), the STATION
record (R86), compressors (R102), trains (R132, R133), shippers (R156) and events (R186). The validation of each table
accepts exactly the images whose entries meet their owner's conditions, and else names the first entry that does not,
profiles counted from 1: the fields of an entry in use lie in their ranges, octets of yes-or-no, enumerated, presence
and count fields hold one of their values, no two entries in use share an address, a pair of unit entry and local
index, a unit, a code or a flow channel, and what an entry names in another table is there as required: the channels
of runs, of the STATION record and of trains, the units of compressors and trains, and the runs, in effect and
pending, that CHANNELS and DRYERS have to respect. That a condition two entries break together charges both, and the
entries past a class's bound are charged (log entry 12); that the sign octet of an absent filter term is read too (log
entry 13); and that a slot with an inventory is not newly used under another code (log entry 70), are the model's
readings. -/
def Obligations.TableEntriesReadBack : Prop :=
  (∀ e : OwnAddr, decodeOwnAddr (encodeOwnAddr e) = e) ∧
  (∀ ts : Tables, ts.link.own.length = 4 → decodeLink (encodeTable ts .link) = ts.link) ∧
  (∀ u : UnitCfg, u.timeout < 2 ^ 8 → decodeUnit (encodeUnit u) = u) ∧
  (∀ c : ChannelCfg, c.unit < 2 ^ 8 → c.localIx < 2 ^ 8 → -(2 ^ 23 : Int) ≤ c.rawMin → c.rawMin < 2 ^ 23 →
    -(2 ^ 23 : Int) ≤ c.rawMax → c.rawMax < 2 ^ 23 →
    (∀ v ∈ [c.gain, c.offset, c.engMin, c.engMax, c.cmpA.t1, c.cmpA.t2, c.cmpB.t1, c.cmpB.t2],
      -(2 ^ 31 : Int) ≤ v ∧ v < 2 ^ 31) →
    c.profile < 2 ^ 8 → c.minInterval < 2 ^ 16 → c.maxAge < 2 ^ 16 → c.cmpA.hyst < 2 ^ 32 → c.cmpB.hyst < 2 ^ 32 →
    decodeChannel (encodeChannel c) = c) ∧
  (∀ p : Profile, p.taps.length ≤ 8 → (∀ tap ∈ p.taps, tap.length ≤ 3 ∧ ∀ m ∈ tap, m.exp < 2 ^ 8) →
    decodeProfile (encodeProfile p) = p) ∧
  (∀ r : RunCfg, (∀ v ∈ [r.flow, r.press, r.temp], v < 2 ^ 8) → (∀ v ∈ r.cal, v < 2 ^ 8) →
    (∀ v ∈ [r.fallbackH, r.tb, r.gapCap, r.refStale, r.ptMaxAge], v < 2 ^ 16) → r.pb < 2 ^ 24 → r.zb < 2 ^ 24 →
    -(2 ^ 31 : Int) ≤ r.subst → r.subst < 2 ^ 31 → r.curve.length ≤ 16 → (∀ p ∈ r.curve, p.1 < 2 ^ 32 ∧ p.2 < 2 ^ 24) →
    decodeRun (encodeRun r) = r) ∧
  (∀ c : StationCfg, c.lMin < 2 ^ 8 → c.cutoff < 2 ^ 8 → (∀ v ∈ c.storage, v < 2 ^ 8) → (∀ v ∈ c.pipeline, v < 2 ^ 8) →
    (∀ v ∈ [c.sweep, c.quietDwell, c.rundown, c.lineup], v < 2 ^ 16) →
    (∀ v ∈ [c.margin, c.hyst, c.quietThreshold], v < 2 ^ 24) → decodeStation (encodeStation c) = c) ∧
  (∀ c : CompCfg, c.unit < 2 ^ 8 → c.capacity < 2 ^ 24 →
    (∀ v ∈ [c.sMin, c.sMax, c.pMin, c.deadband, c.startConfirm, c.stopConfirm, c.minRun, c.cooldown, c.window], v < 2 ^ 16) →
    c.budget < 2 ^ 8 → decodeComp (encodeComp c) = c) ∧
  (∀ c : DryerCfg, (∀ v ∈ [c.unit, c.run, c.inlet, c.outlet, c.derate, c.switchPercent], v < 2 ^ 8) →
    (∀ v ∈ c.regenCh, v < 2 ^ 8) → (∀ v ∈ [c.defaultInlet, c.heat, c.cool, c.valveConfirm], v < 2 ^ 16) →
    (∀ v ∈ [c.capacity, c.bedCapacity, c.adsorbMax, c.heatMax], v < 2 ^ 24) → c.resume < 2 ^ 32 →
    decodeDryer (encodeDryer c) = c) ∧
  (∀ c : ShipperCfg, c.code < 2 ^ 16 → c.rank < 2 ^ 8 → c.injRight < 2 ^ 24 → c.wdRight < 2 ^ 24 → c.space < 2 ^ 40 →
    decodeShipper (encodeShipper c) = c) ∧
  (∀ e : EventCfg, e.priority < 2 ^ 8 → decodeEvent (encodeEvent e) = e) ∧
  ∀ (s : State) (img : List Octet),
    let entry (size i : Nat) : List Octet := (img.drop (i * size)).take size
    let octet (bs : List Octet) (n : Nat) : Nat := fieldAt bs n 1
    let accepts (tb : TableId) (count : Nat) (ok : Nat → Prop) : Prop :=
      (firstOffending s tb img = none ↔ ∀ i < count, ok i) ∧
      ∀ i, firstOffending s tb img = some i ↔ i < count ∧ ¬ok i ∧ ∀ j < i, ok j
    let used (ch : Nat) (q : Quantity) : Prop :=
      ch < 64 ∧ (s.chCfg ch).inUse = true ∧ (s.chCfg ch).quantity = q
    let unitOf (e : Nat) (c : UnitClass) : Prop :=
      e ≤ 47 ∧ (s.unitCfg e).inUse = true ∧ s.marked .units e = false ∧ (s.unitCfg e).cls = c
    let pendingRun (i : Nat) (r : RunCfg) : Prop :=
      ∃ p, s.ret.pendRuns = some p ∧ r = decodeRun ((p.octets.drop (i * 139)).take 139)
    accepts .link 5 (fun i => let e := entry 4 i;
      if i < 4 then octet e 2 ≤ 1 ∧ octet e 3 ≤ 1 else octet e 0 ≤ 1) ∧
    accepts .units 48 (fun i => let u := fun j => decodeUnit (entry 5 j); let e := entry 5 i;
      octet e 0 ≤ 1 ∧ ((u i).inUse = true →
        octet e 3 ≤ 6 ∧ 5 ≤ (u i).timeout ∧ (u i).timeout ≤ 120 ∧
        (∀ j < 48, j ≠ i → (u j).inUse = true → (u j).addr ≠ (u i).addr) ∧
        let before := (List.range i).countP fun j => (u j).inUse && decide ((u j).cls = (u i).cls);
        ((u i).cls = .compressor → before < 6) ∧ ((u i).cls = .dryerValves → before < 2) ∧
        ((u i).cls = .stationValves → before < 1))) ∧
    accepts .channels 64 (fun i => let c := fun j => decodeChannel (entry 59 j); let e := entry 59 i;
      let comparator := fun (n : Nat) (x : Comparator) =>
        octet e n ≤ 4 ∧ x.hyst ≤ 2147483647 ∧ (x.mode = .inside ∨ x.mode = .outside → x.t1 ≤ x.t2);
      octet e 0 ≤ 1 ∧
      ((c i).inUse = true →
        octet e 3 ≤ 2 ∧ octet e 4 ≤ 5 ∧ octet e 58 ≤ 1 ∧ (c i).unit ≤ 47 ∧ (c i).localIx ≤ 15 ∧
        (c i).rawMin < (c i).rawMax ∧ (c i).engMin < (c i).engMax ∧ (c i).profile ≤ 7 ∧ (c i).minInterval ≤ 60000 ∧
        1 ≤ (c i).maxAge ∧ (c i).maxAge ≤ 600 ∧ comparator 32 (c i).cmpA ∧ comparator 45 (c i).cmpB ∧
        ∀ j < 64, j ≠ i → (c j).inUse = true → ¬((c j).unit = (c i).unit ∧ (c j).localIx = (c i).localIx)) ∧
      ∀ r : RunCfg, (r ∈ s.tables.runs ∨ ∃ j < 8, pendingRun j r) → r.role ≠ .unused →
        (r.flow = i → (c i).inUse = true ∧ (c i).cls = .custody ∧ (c i).quantity = .flowRate) ∧
        (r.press = i → (c i).inUse = true ∧ (c i).cls = .custody ∧ (c i).quantity = .pressure) ∧
        (r.temp = i → (c i).inUse = true ∧ (c i).cls = .custody ∧ (c i).quantity = .temperature)) ∧
    accepts .filters 7 (fun i => let e := entry 73 i;
      1 ≤ octet e 0 ∧ octet e 0 ≤ 8 ∧ ∀ j < octet e 0, ∀ k ∈ [0, 3, 6],
        octet e (1 + 9 * j + k) ≤ 1 ∧ octet e (2 + 9 * j + k) ≤ 1 ∧
        (octet e (1 + 9 * j + k) = 0 ∨ octet e (3 + 9 * j + k) ≤ 15)) ∧
    accepts .runs 8 (fun i => let c := fun j => decodeRun (entry 139 j); let r := c i; let e := entry 139 i;
      octet e 0 ≤ 3 ∧
      (r.role ≠ .unused →
        octet e 4 ≤ 1 ∧ 2 ≤ octet e 16 ∧ octet e 16 ≤ 16 ∧ 20000 ≤ r.fallbackH ∧ r.fallbackH ≤ 60000 ∧
        100000 ≤ r.pb ∧ r.pb ≤ 102000 ∧ 27315 ≤ r.tb ∧ r.tb ≤ 29315 ∧ 500000 ≤ r.zb ∧ r.zb ≤ 1200000 ∧
        (∀ p ∈ r.curve, p.1 ≤ 30000000 ∧ 500000 ≤ p.2 ∧ p.2 ≤ 1200000) ∧
        (∀ k, k + 1 < r.curve.length → (r.curve.getD k (0, 0)).1 < (r.curve.getD (k + 1) (0, 0)).1) ∧
        1000 ≤ r.gapCap ∧ r.gapCap ≤ 60000 ∧ -50000000 ≤ r.subst ∧ r.subst ≤ 50000000 ∧
        60 ≤ r.refStale ∧ r.refStale ≤ 3600 ∧ 1 ≤ r.ptMaxAge ∧ r.ptMaxAge ≤ 600 ∧
        used r.flow .flowRate ∧ (s.chCfg r.flow).cls = .custody ∧
        used r.press .pressure ∧ (s.chCfg r.press).cls = .custody ∧
        used r.temp .temperature ∧ (s.chCfg r.temp).cls = .custody ∧ (∀ ch, r.cal = some ch → used ch .calorific) ∧
        ∀ j < 8, j ≠ i → (c j).role ≠ .unused → (c j).flow ≠ r.flow) ∧
      ∀ d ∈ s.tables.dryers, d.inUse = true → d.run = i → r.role = .station) ∧
    accepts .station 1 (fun _ => let c := decodeStation img;
      octet img 3 ≤ 1 ∧ octet img 5 ≤ 1 ∧ (c.lMin = 15 ∨ c.lMin = 30 ∨ c.lMin = 60) ∧ c.sweep ≤ 3600 ∧
      c.margin ≤ 5000000 ∧ c.hyst ≤ 1000000 ∧ c.quietThreshold ≤ 5000000 ∧ 1 ≤ c.quietDwell ∧ c.quietDwell ≤ 600 ∧
      60 ≤ c.rundown ∧ c.rundown ≤ 3600 ∧ 10 ≤ c.lineup ∧ c.lineup ≤ 1800 ∧ c.cutoff ≤ 100 ∧
      c.quietDwell < c.rundown ∧ (c.storage.isSome ↔ c.pipeline.isSome) ∧
      ∀ ch, c.storage = some ch ∨ c.pipeline = some ch → used ch .pressure ∧ (s.chCfg ch).cls = .process) ∧
    accepts .compressors 6 (fun i => let c := fun j => decodeComp (entry 25 j); let e := entry 25 i;
      octet e 0 ≤ 1 ∧ ((c i).inUse = true →
        octet e 24 ≤ 1 ∧ unitOf (c i).unit .compressor ∧ 1 ≤ (c i).capacity ∧ (c i).capacity ≤ 1000000 ∧
        (c i).sMin ≤ (c i).sMax ∧ (c i).sMax ≤ 20000 ∧ (c i).pMin ≤ 1000 ∧ (c i).deadband ≤ 5000 ∧
        5 ≤ (c i).startConfirm ∧ (c i).startConfirm ≤ 600 ∧ 5 ≤ (c i).stopConfirm ∧ (c i).stopConfirm ≤ 900 ∧
        (c i).minRun ≤ 7200 ∧ (c i).cooldown ≤ 3600 ∧ 1 ≤ (c i).budget ∧ (c i).budget ≤ 6 ∧ 600 ≤ (c i).window ∧
        (c i).window ≤ 14400 ∧ ∀ j < 6, j ≠ i → (c j).inUse = true → (c j).unit ≠ (c i).unit)) ∧
    accepts .dryers 2 (fun i => let c := fun j => decodeDryer (entry 36 j); let e := entry 36 i;
      octet e 0 ≤ 1 ∧ ((c i).inUse = true →
        octet e 5 ≤ 1 ∧ octet e 6 ≤ 1 ∧ octet e 8 ≤ 1 ∧ octet e 9 ≤ 1 ∧ unitOf (c i).unit .dryerValves ∧
        (c i).run ≤ 7 ∧ ((c i).regenCh.isSome ↔ (c i).regenCmp.isSome) ∧ (c i).defaultInlet ≤ 10000 ∧
        1 ≤ (c i).capacity ∧ (c i).capacity ≤ 1000000 ∧ (c i).derate ≤ 100 ∧ 1 ≤ (c i).bedCapacity ∧
        (c i).bedCapacity ≤ 1000000 ∧ 50 ≤ (c i).switchPercent ∧ (c i).switchPercent ≤ 100 ∧
        (c i).resume ≤ (c i).bedCapacity * 1000 ∧ 600 ≤ (c i).adsorbMax ∧ (c i).adsorbMax ≤ 86400 ∧ 600 ≤ (c i).heat ∧
        (c i).heat ≤ 43200 ∧ (c i).heat ≤ (c i).heatMax ∧ (c i).heatMax ≤ 86400 ∧ 300 ≤ (c i).cool ∧
        (c i).cool ≤ 43200 ∧ 10 ≤ (c i).valveConfirm ∧ (c i).valveConfirm ≤ 600 ∧
        (∀ j < 2, j ≠ i → (c j).inUse = true → (c j).unit ≠ (c i).unit) ∧ (s.runCfg (c i).run).role = .station ∧
        (∀ r, pendingRun (c i).run r → r.role = .station) ∧ used (c i).inlet .water ∧ used (c i).outlet .water ∧
        ∀ ch, (c i).regenCh = some ch → used ch .temperature)) ∧
    accepts .shippers 32 (fun i => let c := fun j => decodeShipper (entry 15 j);
      ((c i).code ≠ 0 → octet (entry 15 i) 2 ≤ 1 ∧ (c i).rank ≤ 31 ∧ (c i).injRight ≤ 10000000 ∧
        (c i).wdRight ≤ 10000000 ∧ ∀ j < 32, j ≠ i → (c j).code ≠ (c i).code) ∧
      (0 < s.inventory i → (c i).code = (s.shipper i).code)) ∧
    accepts .events 48 (fun i => octet (entry 2 i) 0 ≤ 1 ∧ octet (entry 2 i) 1 ≤ 3) ∧
    (∀ i, entryIndex .filters i = i + 1) ∧ ∀ tb i, tb ≠ .filters → entryIndex tb i = i

/-! ### Resets -/

/-- RESTART (R201): it is answered OK. The queues of own commands, of responses and of requests are emptied and the
load is closed; every unit entry (a marked one too, log entry 80), channel and train takes its reset state, each duty
record keeps its run seconds alone, and the duty order list is built from the AUTO records; the mode is SHUT_IN with
ESD inactive and the compression flag kept; both capacities are 0, so nothing is confirmed; the Event Unit starts
clear, and only CURTAILED and TABLE_PARITY may be latched again by the restart itself (R195). Station time, the tables
and their parity marks, the retained store, the forward queues, the runs' accumulators, and the accounts with their
nominations and any close in flight stay (R18, R30, R38, R61, R83, R101, R131, R155, R183). The sweep period timer's
start reads the STATION record: one found bad there is marked, TABLE_PARITY latched, and the timer stays stopped
(R209). -/
def Obligations.RestartResetsTheBlocks : Prop :=
  ∀ (s : State) (q : Request), s.Asks q 0x48 [] → s.comp.recs.length = 6 → ∃ t, exec .restart s = .next t ∧
    t.own = [] ∧ t.resp = [responseTo q .ok []] ∧
    t.mgmt = { s.mgmt with waiting := [], service := none, load := none } ∧
    t.link = { s.link with ownRunF := 0, ownRunS := 0 } ∧
    t.units = List.replicate 48 .initial ∧
    t.chans = s.tables.channels.map (fun c => ChannelState.initial (if c.inUse then some s.now else none)) ∧
    t.engine = ⟨none, [], if s.foundBad .station 0 = true then none else startTimer s.now (s.stationRead.sweep * 1000)⟩ ∧
    (s.foundBad .station 0 = true → t.marked .station 0 = true ∧ (t.source Src.tableParity).latch = true) ∧
    t.mode = ⟨.shutIn, false, none, none, none, none, s.mode.flag⟩ ∧
    t.dry = ⟨List.replicate 2 .initial, .shutIn, 0⟩ ∧
    t.comp.heldMode = .shutIn ∧ t.comp.heldEsd = false ∧ t.comp.heldFlag = s.mode.flag ∧ t.comp.published = 0 ∧
    t.comp.order = s.sortOrder ((List.range 6).filter fun k =>
      (s.compCfg k).inUse && decide ((s.compCfg k).initial = .auto)) ∧
    ((∀ k < 6, s.foundBad .compressors k = false) → ∀ k < 6, t.compRec k =
      { CompRec.initial (s.compCfg k).unit (s.compCfg k).initial (s.compRec k).runSec (s.compRec k).runMs with
        state := if s.marked .compressors k = true then .lockedOut else .unavailable }) ∧
    t.acct = { s.acct with
      slots := t.acct.slots
      compCap := 0
      dryCap := 0
      curtailed := t.acct.curtailed
      toldInj := 0
      toldWd := 0 } ∧
    (∀ i < s.acct.slots.length, t.slot i = { s.slot i with conf := 0 }) ∧
    (∀ src, src ≠ Src.curtailed → src ≠ Src.tableParity → t.source src = ⟨false, 0, 0xFF⟩) ∧
    (∀ a ∈ t.ev.alerts, a.source = Src.curtailed ∨ a.source = Src.tableParity) ∧
    (∀ r < s.runs.length, t.run r = { s.run r with
      mark := none
      ref := if (s.runCfg r).cal ≠ none then .none else .ready
      refTimer := none }) ∧
    (∀ tb i, s.marked tb i = true → t.marked tb i = true) ∧
    t.time = s.time ∧ t.tables = s.tables ∧ t.ret = s.ret ∧ t.custody = s.custody ∧ t.now = s.now

/-- POWER_ON_RESET (R212): every block takes the state that its rule gives for it, from the retained images that agree
with their length and CRC; the others are discarded, reported by READ_STATUS and latched as TABLE_PARITY, once for
each. The duty order list is built from the AUTO records by their retained run seconds (R131). From the state after
reset it leaves that state. What waits in the model's queue and the level of the custody line are not the reset's, and
every entry check is sound again, as in the state after reset (the model's choices, log entries 1, 23 and 29). -/
def Obligations.PowerOnResets : Prop :=
  exec .powerOnReset State.reset = .next State.reset ∧
  ∀ s : State, ∃ t, exec .powerOnReset s = .next t ∧
    t = { State.reset with
      pending := s.pending
      custody := s.custody
      free := s.free
      ret := s.ret.checked
      tables := s.ret.checked.committed.tables
      chans := t.chans
      engine := { State.reset.engine with sweepDue := startTimer 0 (t.tables.station.sweep * 1000) }
      runs := t.runs
      comp := { State.reset.comp with recs := t.comp.recs, order := t.comp.order }
      ev := t.ev
      mgmt := { State.reset.mgmt with bootBad := decide (0 < s.ret.failures) } } ∧
    t.chans = t.tables.channels.map (fun c => ChannelState.initial (if c.inUse then some 0 else none)) ∧
    (∀ r < t.tables.runs.length, t.run r = RunState.initial (t.runCfg r).role
      (if (t.runCfg r).cal ≠ none then .none else .ready)) ∧
    (∀ k < 6, t.compRec k = CompRec.initial (t.compCfg k).unit (t.compCfg k).initial (s.ret.runSeconds.getD k 0) 0) ∧
    t.comp.order = t.sortOrder ((List.range 6).filter fun k =>
      (t.compCfg k).inUse && decide ((t.compCfg k).initial = .auto)) ∧
    (t.source Src.tableParity).count = min 255 s.ret.failures ∧ (s.ret.failures = 0 → t.ev = State.reset.ev)

/-! ### What a family of commands can change -/

/-- The timers of duty records change own commands, duty records, the accounts' confirmations, events and parity
marks, and those of trains also trains; the requests on compressors and trains also change the queues of requests and
responses. A test of heating reads the train's regen channel, and so may find that channel's entry bad (R146, R37):
HEAT_TIME_REACHED and RESUME_TRAIN may also change channel records and the engine. No retained energy, table, run or
mode is touched, no channel by any other of them, and no bed by a duty command. -/
def Obligations.DutyAndDryerCommandsChangeOnly : Prop :=
  ∀ (s t : State) (i : Nat) (x : BedId),
    let asked := { s with resp := t.resp, mgmt := { s.mgmt with waiting := t.mgmt.waiting, service := t.mgmt.service } }
    let duty (u : State) : State := { u with own := t.own, parity := t.parity, comp := t.comp, acct := t.acct, ev := t.ev }
    let heats (u : State) : State := { u with chans := t.chans, engine := { s.engine with remaining := t.engine.remaining } }
    (∀ c ∈ [Instr.startConfirmExpiry i, .minimumRunExpiry i, .stopConfirmExpiry i, .cooldownExpiry i, .startMarkAgeout i],
      exec c s = .next t → t = duty s) ∧
    (∀ c ∈ [Instr.resetUnit, .setUnitAuto, .setUnitManual, .rotate, .readCompressor], exec c s = .next t → t = duty asked) ∧
    (∀ c ∈ [Instr.adsorbLimitExpiry i, .openingValveTimeout i, .releasingValveTimeout i, .heatShort i x,
        .coolTimerExpiry i x], exec c s = .next t → t = duty { s with dry := t.dry }) ∧
    (exec (.heatTimeReached i x) s = .next t → t = heats (duty { s with dry := t.dry })) ∧
    (∀ c ∈ [Instr.holdTrain, .forceSwitch, .returnBed, .readDryer], exec c s = .next t →
      t = duty { asked with dry := t.dry }) ∧
    (exec .resumeTrain s = .next t → t = heats (duty { asked with dry := t.dry }))

/-! ### Invariants that every step keeps -/

/-- Every invariant below holds right after reset, and in it the energy on the accounts is 0. -/
def Obligations.ResetStateIsSound : Prop :=
  State.reset.Sized ∧ State.reset.QueuesOk ∧ State.reset.AlertsOk ∧ State.reset.OwnOk ∧ State.reset.MeterOk ∧
    State.reset.BedsOk ∧ State.reset.ModeOk ∧ State.reset.ToldOk ∧ State.reset.DutyOk ∧ State.reset.ConfirmedOk ∧
    State.reset.ret.inventories.length = 32 ∧ State.reset.ret.energy = 0

/-- Every table, record list and parity record keeps its number of entries (spec/00, "Capacities"), and the upstream,
downstream, response and request queues and the close history never hold more than their places, nor a count of own
frames more than 3 (R5, R9, R11, R15, R16, R17, R177). -/
def Obligations.StepKeepsSizesAndQueues : Prop :=
  ∀ s t : State, s.Sized → s.QueuesOk → step s = .next t → t.Sized ∧ t.QueuesOk

/-- The alert queue keeps at most one entry per source, at most 32, in order of priority (R188), and the own-command
queue at most one entry for a target and sort (R12). An own-command queue that is so, and whose targets are nine units
at most, holds at most 18 entries (R12). An offer to a PRESENT target replaces the one unsent entry of its target and
sort in place, or joins the tail; one to any other target is not queued, and a withdrawal takes the owner's entries
out (R12, R13). -/
def Obligations.StepKeepsAlertAndOwnQueues : Prop :=
  (∀ s t : State, s.AlertsOk → s.OwnOk → step s = .next t → t.AlertsOk ∧ t.OwnOk) ∧
  (∀ (s : State) (governed : List Nat), s.OwnOk → governed.length ≤ 9 → (∀ e ∈ s.own, e.target ∈ governed) →
    s.own.length ≤ 18) ∧
  ∀ (s : State) (e : Nat) (c : Command),
    (c.sort = .setpoint ↔ ∃ rpm, c = .speed rpm) ∧
    ((s.unit e).attach ≠ .present → offerOwn e c s = s) ∧
    ((s.unit e).attach = .present →
      ((∀ x ∈ s.own, ¬(x.target = e ∧ x.sort = c.sort)) →
        offerOwn e c s = { s with own := s.own ++ [⟨e, c.sort, c⟩] }) ∧
      ∀ pre x post, s.own = pre ++ x :: post → x.target = e → x.sort = c.sort →
        (∀ y ∈ pre ++ post, ¬(y.target = e ∧ y.sort = c.sort)) →
        offerOwn e c s = { s with own := pre ++ ⟨e, c.sort, c⟩ :: post }) ∧
    ∀ p : Command → Bool, withdrawOwn e p s =
      { s with own := s.own.filter fun x => !(decide (x.target = e) && p x.command) }

/-- For every meter run the residues and carries stay in their ranges (R79). The timers of a duty record run only in
its duty state (R110 to R113), and its counts stay in their ranges (R103, R130). -/
def Obligations.StepKeepsMeterAndDutyRecords : Prop :=
  (∀ s t : State, s.MeterOk → step s = .next t → t.MeterOk) ∧ ∀ s t : State, s.DutyOk → step s = .next t → t.DutyOk

/-- For every train at most one bed is ADSORBING, every STANDBY bed has loading 0 (R134), and the switch in its
OPENING phase names a STANDBY incoming bed and the ADSORBING outgoing one (R140). -/
def Obligations.StepKeepsDryerBeds : Prop := ∀ s t : State, s.BedsOk → step s = .next t → t.BedsOk

/-- ESD active means SHUT_IN and the mode machine's timers run only in their phases (R90 to R96), and what the
controllers and the accounts were told stays what is in force (R90, R99, R120, R123, R139, R151, R158, R165). -/
def Obligations.StepKeepsModeAndNotices : Prop :=
  ∀ s t : State, s.ModeOk → s.ToldOk → step s = .next t → t.ModeOk ∧ t.ToldOk

/-- For each direction the confirmed amounts never exceed the capacity, and no confirmed amount exceeds its request,
which never exceeds the rate right × L / 60 (R163). -/
def Obligations.StepKeepsConfirmedAmounts : Prop :=
  ∀ s t : State, s.Sized → s.ConfirmedOk → step s = .next t → t.ConfirmedOk

/-- Between closes the energy of all shipper inventories and the OBA does not change (R173): no step but the
completion of a close changes it. -/
def Obligations.EnergyChangesOnlyAtCloses : Prop :=
  ∀ s t : State, s.ret.inventories.length = 32 → step s = .next t → s.pending.head? ≠ some .closeComplete →
    t.ret.energy = s.ret.energy ∧ t.ret.inventories.length = 32
end

