-- ==== Sys2Proof/Laws/State.lean ====
section
/-! SUPPORT. What each update of one field of the state leaves: one lemma per field per update. -/

namespace Sys2Proof.Machine

/-! ### setMark -/

@[simp] theorem State.setMark_now (s : State) (t : TableId) (i : Nat) : (s.setMark t i).now = s.now := rfl

@[simp] theorem State.setMark_pending (s : State) (t : TableId) (i : Nat) : (s.setMark t i).pending = s.pending := rfl

@[simp] theorem State.setMark_link (s : State) (t : TableId) (i : Nat) : (s.setMark t i).link = s.link := rfl

@[simp] theorem State.setMark_own (s : State) (t : TableId) (i : Nat) : (s.setMark t i).own = s.own := rfl

@[simp] theorem State.setMark_resp (s : State) (t : TableId) (i : Nat) : (s.setMark t i).resp = s.resp := rfl

@[simp] theorem State.setMark_tables (s : State) (t : TableId) (i : Nat) : (s.setMark t i).tables = s.tables := rfl

@[simp] theorem State.setMark_units (s : State) (t : TableId) (i : Nat) : (s.setMark t i).units = s.units := rfl

@[simp] theorem State.setMark_chans (s : State) (t : TableId) (i : Nat) : (s.setMark t i).chans = s.chans := rfl

@[simp] theorem State.setMark_engine (s : State) (t : TableId) (i : Nat) : (s.setMark t i).engine = s.engine := rfl

@[simp] theorem State.setMark_runs (s : State) (t : TableId) (i : Nat) : (s.setMark t i).runs = s.runs := rfl

@[simp] theorem State.setMark_time (s : State) (t : TableId) (i : Nat) : (s.setMark t i).time = s.time := rfl

@[simp] theorem State.setMark_mode (s : State) (t : TableId) (i : Nat) : (s.setMark t i).mode = s.mode := rfl

@[simp] theorem State.setMark_comp (s : State) (t : TableId) (i : Nat) : (s.setMark t i).comp = s.comp := rfl

@[simp] theorem State.setMark_dry (s : State) (t : TableId) (i : Nat) : (s.setMark t i).dry = s.dry := rfl

@[simp] theorem State.setMark_acct (s : State) (t : TableId) (i : Nat) : (s.setMark t i).acct = s.acct := rfl

@[simp] theorem State.setMark_ev (s : State) (t : TableId) (i : Nat) : (s.setMark t i).ev = s.ev := rfl

@[simp] theorem State.setMark_mgmt (s : State) (t : TableId) (i : Nat) : (s.setMark t i).mgmt = s.mgmt := rfl

@[simp] theorem State.setMark_custody (s : State) (t : TableId) (i : Nat) : (s.setMark t i).custody = s.custody := rfl

@[simp] theorem State.setMark_ret (s : State) (t : TableId) (i : Nat) : (s.setMark t i).ret = s.ret := rfl

@[simp] theorem State.setMark_free (s : State) (t : TableId) (i : Nat) : (s.setMark t i).free = s.free := rfl

/-! ### clearMarks -/

@[simp] theorem State.clearMarks_now (s : State) (t : TableId) : (s.clearMarks t).now = s.now := rfl

@[simp] theorem State.clearMarks_pending (s : State) (t : TableId) : (s.clearMarks t).pending = s.pending := rfl

@[simp] theorem State.clearMarks_link (s : State) (t : TableId) : (s.clearMarks t).link = s.link := rfl

@[simp] theorem State.clearMarks_own (s : State) (t : TableId) : (s.clearMarks t).own = s.own := rfl

@[simp] theorem State.clearMarks_resp (s : State) (t : TableId) : (s.clearMarks t).resp = s.resp := rfl

@[simp] theorem State.clearMarks_tables (s : State) (t : TableId) : (s.clearMarks t).tables = s.tables := rfl

@[simp] theorem State.clearMarks_units (s : State) (t : TableId) : (s.clearMarks t).units = s.units := rfl

@[simp] theorem State.clearMarks_chans (s : State) (t : TableId) : (s.clearMarks t).chans = s.chans := rfl

@[simp] theorem State.clearMarks_engine (s : State) (t : TableId) : (s.clearMarks t).engine = s.engine := rfl

@[simp] theorem State.clearMarks_runs (s : State) (t : TableId) : (s.clearMarks t).runs = s.runs := rfl

@[simp] theorem State.clearMarks_time (s : State) (t : TableId) : (s.clearMarks t).time = s.time := rfl

@[simp] theorem State.clearMarks_mode (s : State) (t : TableId) : (s.clearMarks t).mode = s.mode := rfl

@[simp] theorem State.clearMarks_comp (s : State) (t : TableId) : (s.clearMarks t).comp = s.comp := rfl

@[simp] theorem State.clearMarks_dry (s : State) (t : TableId) : (s.clearMarks t).dry = s.dry := rfl

@[simp] theorem State.clearMarks_acct (s : State) (t : TableId) : (s.clearMarks t).acct = s.acct := rfl

@[simp] theorem State.clearMarks_ev (s : State) (t : TableId) : (s.clearMarks t).ev = s.ev := rfl

@[simp] theorem State.clearMarks_mgmt (s : State) (t : TableId) : (s.clearMarks t).mgmt = s.mgmt := rfl

@[simp] theorem State.clearMarks_custody (s : State) (t : TableId) : (s.clearMarks t).custody = s.custody := rfl

@[simp] theorem State.clearMarks_ret (s : State) (t : TableId) : (s.clearMarks t).ret = s.ret := rfl

@[simp] theorem State.clearMarks_free (s : State) (t : TableId) : (s.clearMarks t).free = s.free := rfl

/-! ### onUnit -/

@[simp] theorem State.onUnit_now (s : State) (i : Nat) (f : UnitLive → UnitLive) : (s.onUnit i f).now = s.now := rfl

@[simp] theorem State.onUnit_pending (s : State) (i : Nat) (f : UnitLive → UnitLive) : (s.onUnit i f).pending = s.pending := rfl

@[simp] theorem State.onUnit_link (s : State) (i : Nat) (f : UnitLive → UnitLive) : (s.onUnit i f).link = s.link := rfl

@[simp] theorem State.onUnit_own (s : State) (i : Nat) (f : UnitLive → UnitLive) : (s.onUnit i f).own = s.own := rfl

@[simp] theorem State.onUnit_resp (s : State) (i : Nat) (f : UnitLive → UnitLive) : (s.onUnit i f).resp = s.resp := rfl

@[simp] theorem State.onUnit_tables (s : State) (i : Nat) (f : UnitLive → UnitLive) : (s.onUnit i f).tables = s.tables := rfl

@[simp] theorem State.onUnit_parity (s : State) (i : Nat) (f : UnitLive → UnitLive) : (s.onUnit i f).parity = s.parity := rfl

@[simp] theorem State.onUnit_chans (s : State) (i : Nat) (f : UnitLive → UnitLive) : (s.onUnit i f).chans = s.chans := rfl

@[simp] theorem State.onUnit_engine (s : State) (i : Nat) (f : UnitLive → UnitLive) : (s.onUnit i f).engine = s.engine := rfl

@[simp] theorem State.onUnit_runs (s : State) (i : Nat) (f : UnitLive → UnitLive) : (s.onUnit i f).runs = s.runs := rfl

@[simp] theorem State.onUnit_time (s : State) (i : Nat) (f : UnitLive → UnitLive) : (s.onUnit i f).time = s.time := rfl

@[simp] theorem State.onUnit_mode (s : State) (i : Nat) (f : UnitLive → UnitLive) : (s.onUnit i f).mode = s.mode := rfl

@[simp] theorem State.onUnit_comp (s : State) (i : Nat) (f : UnitLive → UnitLive) : (s.onUnit i f).comp = s.comp := rfl

@[simp] theorem State.onUnit_dry (s : State) (i : Nat) (f : UnitLive → UnitLive) : (s.onUnit i f).dry = s.dry := rfl

@[simp] theorem State.onUnit_acct (s : State) (i : Nat) (f : UnitLive → UnitLive) : (s.onUnit i f).acct = s.acct := rfl

@[simp] theorem State.onUnit_ev (s : State) (i : Nat) (f : UnitLive → UnitLive) : (s.onUnit i f).ev = s.ev := rfl

@[simp] theorem State.onUnit_mgmt (s : State) (i : Nat) (f : UnitLive → UnitLive) : (s.onUnit i f).mgmt = s.mgmt := rfl

@[simp] theorem State.onUnit_custody (s : State) (i : Nat) (f : UnitLive → UnitLive) : (s.onUnit i f).custody = s.custody := rfl

@[simp] theorem State.onUnit_ret (s : State) (i : Nat) (f : UnitLive → UnitLive) : (s.onUnit i f).ret = s.ret := rfl

@[simp] theorem State.onUnit_free (s : State) (i : Nat) (f : UnitLive → UnitLive) : (s.onUnit i f).free = s.free := rfl

/-! ### onChan -/

@[simp] theorem State.onChan_now (s : State) (i : Nat) (f : ChannelState → ChannelState) : (s.onChan i f).now = s.now := rfl

@[simp] theorem State.onChan_pending (s : State) (i : Nat) (f : ChannelState → ChannelState) : (s.onChan i f).pending = s.pending := rfl

@[simp] theorem State.onChan_link (s : State) (i : Nat) (f : ChannelState → ChannelState) : (s.onChan i f).link = s.link := rfl

@[simp] theorem State.onChan_own (s : State) (i : Nat) (f : ChannelState → ChannelState) : (s.onChan i f).own = s.own := rfl

@[simp] theorem State.onChan_resp (s : State) (i : Nat) (f : ChannelState → ChannelState) : (s.onChan i f).resp = s.resp := rfl

@[simp] theorem State.onChan_tables (s : State) (i : Nat) (f : ChannelState → ChannelState) : (s.onChan i f).tables = s.tables := rfl

@[simp] theorem State.onChan_parity (s : State) (i : Nat) (f : ChannelState → ChannelState) : (s.onChan i f).parity = s.parity := rfl

@[simp] theorem State.onChan_units (s : State) (i : Nat) (f : ChannelState → ChannelState) : (s.onChan i f).units = s.units := rfl

@[simp] theorem State.onChan_engine (s : State) (i : Nat) (f : ChannelState → ChannelState) : (s.onChan i f).engine = s.engine := rfl

@[simp] theorem State.onChan_runs (s : State) (i : Nat) (f : ChannelState → ChannelState) : (s.onChan i f).runs = s.runs := rfl

@[simp] theorem State.onChan_time (s : State) (i : Nat) (f : ChannelState → ChannelState) : (s.onChan i f).time = s.time := rfl

@[simp] theorem State.onChan_mode (s : State) (i : Nat) (f : ChannelState → ChannelState) : (s.onChan i f).mode = s.mode := rfl

@[simp] theorem State.onChan_comp (s : State) (i : Nat) (f : ChannelState → ChannelState) : (s.onChan i f).comp = s.comp := rfl

@[simp] theorem State.onChan_dry (s : State) (i : Nat) (f : ChannelState → ChannelState) : (s.onChan i f).dry = s.dry := rfl

@[simp] theorem State.onChan_acct (s : State) (i : Nat) (f : ChannelState → ChannelState) : (s.onChan i f).acct = s.acct := rfl

@[simp] theorem State.onChan_ev (s : State) (i : Nat) (f : ChannelState → ChannelState) : (s.onChan i f).ev = s.ev := rfl

@[simp] theorem State.onChan_mgmt (s : State) (i : Nat) (f : ChannelState → ChannelState) : (s.onChan i f).mgmt = s.mgmt := rfl

@[simp] theorem State.onChan_custody (s : State) (i : Nat) (f : ChannelState → ChannelState) : (s.onChan i f).custody = s.custody := rfl

@[simp] theorem State.onChan_ret (s : State) (i : Nat) (f : ChannelState → ChannelState) : (s.onChan i f).ret = s.ret := rfl

@[simp] theorem State.onChan_free (s : State) (i : Nat) (f : ChannelState → ChannelState) : (s.onChan i f).free = s.free := rfl

/-! ### onRun -/

@[simp] theorem State.onRun_now (s : State) (i : Nat) (f : RunState → RunState) : (s.onRun i f).now = s.now := rfl

@[simp] theorem State.onRun_pending (s : State) (i : Nat) (f : RunState → RunState) : (s.onRun i f).pending = s.pending := rfl

@[simp] theorem State.onRun_link (s : State) (i : Nat) (f : RunState → RunState) : (s.onRun i f).link = s.link := rfl

@[simp] theorem State.onRun_own (s : State) (i : Nat) (f : RunState → RunState) : (s.onRun i f).own = s.own := rfl

@[simp] theorem State.onRun_resp (s : State) (i : Nat) (f : RunState → RunState) : (s.onRun i f).resp = s.resp := rfl

@[simp] theorem State.onRun_tables (s : State) (i : Nat) (f : RunState → RunState) : (s.onRun i f).tables = s.tables := rfl

@[simp] theorem State.onRun_parity (s : State) (i : Nat) (f : RunState → RunState) : (s.onRun i f).parity = s.parity := rfl

@[simp] theorem State.onRun_units (s : State) (i : Nat) (f : RunState → RunState) : (s.onRun i f).units = s.units := rfl

@[simp] theorem State.onRun_chans (s : State) (i : Nat) (f : RunState → RunState) : (s.onRun i f).chans = s.chans := rfl

@[simp] theorem State.onRun_engine (s : State) (i : Nat) (f : RunState → RunState) : (s.onRun i f).engine = s.engine := rfl

@[simp] theorem State.onRun_time (s : State) (i : Nat) (f : RunState → RunState) : (s.onRun i f).time = s.time := rfl

@[simp] theorem State.onRun_mode (s : State) (i : Nat) (f : RunState → RunState) : (s.onRun i f).mode = s.mode := rfl

@[simp] theorem State.onRun_comp (s : State) (i : Nat) (f : RunState → RunState) : (s.onRun i f).comp = s.comp := rfl

@[simp] theorem State.onRun_dry (s : State) (i : Nat) (f : RunState → RunState) : (s.onRun i f).dry = s.dry := rfl

@[simp] theorem State.onRun_acct (s : State) (i : Nat) (f : RunState → RunState) : (s.onRun i f).acct = s.acct := rfl

@[simp] theorem State.onRun_ev (s : State) (i : Nat) (f : RunState → RunState) : (s.onRun i f).ev = s.ev := rfl

@[simp] theorem State.onRun_mgmt (s : State) (i : Nat) (f : RunState → RunState) : (s.onRun i f).mgmt = s.mgmt := rfl

@[simp] theorem State.onRun_custody (s : State) (i : Nat) (f : RunState → RunState) : (s.onRun i f).custody = s.custody := rfl

@[simp] theorem State.onRun_ret (s : State) (i : Nat) (f : RunState → RunState) : (s.onRun i f).ret = s.ret := rfl

@[simp] theorem State.onRun_free (s : State) (i : Nat) (f : RunState → RunState) : (s.onRun i f).free = s.free := rfl

/-! ### onComp -/

@[simp] theorem State.onComp_now (s : State) (i : Nat) (f : CompRec → CompRec) : (s.onComp i f).now = s.now := rfl

@[simp] theorem State.onComp_pending (s : State) (i : Nat) (f : CompRec → CompRec) : (s.onComp i f).pending = s.pending := rfl

@[simp] theorem State.onComp_link (s : State) (i : Nat) (f : CompRec → CompRec) : (s.onComp i f).link = s.link := rfl

@[simp] theorem State.onComp_own (s : State) (i : Nat) (f : CompRec → CompRec) : (s.onComp i f).own = s.own := rfl

@[simp] theorem State.onComp_resp (s : State) (i : Nat) (f : CompRec → CompRec) : (s.onComp i f).resp = s.resp := rfl

@[simp] theorem State.onComp_tables (s : State) (i : Nat) (f : CompRec → CompRec) : (s.onComp i f).tables = s.tables := rfl

@[simp] theorem State.onComp_parity (s : State) (i : Nat) (f : CompRec → CompRec) : (s.onComp i f).parity = s.parity := rfl

@[simp] theorem State.onComp_units (s : State) (i : Nat) (f : CompRec → CompRec) : (s.onComp i f).units = s.units := rfl

@[simp] theorem State.onComp_chans (s : State) (i : Nat) (f : CompRec → CompRec) : (s.onComp i f).chans = s.chans := rfl

@[simp] theorem State.onComp_engine (s : State) (i : Nat) (f : CompRec → CompRec) : (s.onComp i f).engine = s.engine := rfl

@[simp] theorem State.onComp_runs (s : State) (i : Nat) (f : CompRec → CompRec) : (s.onComp i f).runs = s.runs := rfl

@[simp] theorem State.onComp_time (s : State) (i : Nat) (f : CompRec → CompRec) : (s.onComp i f).time = s.time := rfl

@[simp] theorem State.onComp_mode (s : State) (i : Nat) (f : CompRec → CompRec) : (s.onComp i f).mode = s.mode := rfl

@[simp] theorem State.onComp_dry (s : State) (i : Nat) (f : CompRec → CompRec) : (s.onComp i f).dry = s.dry := rfl

@[simp] theorem State.onComp_acct (s : State) (i : Nat) (f : CompRec → CompRec) : (s.onComp i f).acct = s.acct := rfl

@[simp] theorem State.onComp_ev (s : State) (i : Nat) (f : CompRec → CompRec) : (s.onComp i f).ev = s.ev := rfl

@[simp] theorem State.onComp_mgmt (s : State) (i : Nat) (f : CompRec → CompRec) : (s.onComp i f).mgmt = s.mgmt := rfl

@[simp] theorem State.onComp_custody (s : State) (i : Nat) (f : CompRec → CompRec) : (s.onComp i f).custody = s.custody := rfl

@[simp] theorem State.onComp_ret (s : State) (i : Nat) (f : CompRec → CompRec) : (s.onComp i f).ret = s.ret := rfl

@[simp] theorem State.onComp_free (s : State) (i : Nat) (f : CompRec → CompRec) : (s.onComp i f).free = s.free := rfl

/-! ### onTrain -/

@[simp] theorem State.onTrain_now (s : State) (i : Nat) (f : Train → Train) : (s.onTrain i f).now = s.now := rfl

@[simp] theorem State.onTrain_pending (s : State) (i : Nat) (f : Train → Train) : (s.onTrain i f).pending = s.pending := rfl

@[simp] theorem State.onTrain_link (s : State) (i : Nat) (f : Train → Train) : (s.onTrain i f).link = s.link := rfl

@[simp] theorem State.onTrain_own (s : State) (i : Nat) (f : Train → Train) : (s.onTrain i f).own = s.own := rfl

@[simp] theorem State.onTrain_resp (s : State) (i : Nat) (f : Train → Train) : (s.onTrain i f).resp = s.resp := rfl

@[simp] theorem State.onTrain_tables (s : State) (i : Nat) (f : Train → Train) : (s.onTrain i f).tables = s.tables := rfl

@[simp] theorem State.onTrain_parity (s : State) (i : Nat) (f : Train → Train) : (s.onTrain i f).parity = s.parity := rfl

@[simp] theorem State.onTrain_units (s : State) (i : Nat) (f : Train → Train) : (s.onTrain i f).units = s.units := rfl

@[simp] theorem State.onTrain_chans (s : State) (i : Nat) (f : Train → Train) : (s.onTrain i f).chans = s.chans := rfl

@[simp] theorem State.onTrain_engine (s : State) (i : Nat) (f : Train → Train) : (s.onTrain i f).engine = s.engine := rfl

@[simp] theorem State.onTrain_runs (s : State) (i : Nat) (f : Train → Train) : (s.onTrain i f).runs = s.runs := rfl

@[simp] theorem State.onTrain_time (s : State) (i : Nat) (f : Train → Train) : (s.onTrain i f).time = s.time := rfl

@[simp] theorem State.onTrain_mode (s : State) (i : Nat) (f : Train → Train) : (s.onTrain i f).mode = s.mode := rfl

@[simp] theorem State.onTrain_comp (s : State) (i : Nat) (f : Train → Train) : (s.onTrain i f).comp = s.comp := rfl

@[simp] theorem State.onTrain_acct (s : State) (i : Nat) (f : Train → Train) : (s.onTrain i f).acct = s.acct := rfl

@[simp] theorem State.onTrain_ev (s : State) (i : Nat) (f : Train → Train) : (s.onTrain i f).ev = s.ev := rfl

@[simp] theorem State.onTrain_mgmt (s : State) (i : Nat) (f : Train → Train) : (s.onTrain i f).mgmt = s.mgmt := rfl

@[simp] theorem State.onTrain_custody (s : State) (i : Nat) (f : Train → Train) : (s.onTrain i f).custody = s.custody := rfl

@[simp] theorem State.onTrain_ret (s : State) (i : Nat) (f : Train → Train) : (s.onTrain i f).ret = s.ret := rfl

@[simp] theorem State.onTrain_free (s : State) (i : Nat) (f : Train → Train) : (s.onTrain i f).free = s.free := rfl

/-! ### onSlot -/

@[simp] theorem State.onSlot_now (s : State) (i : Nat) (f : AccSlot → AccSlot) : (s.onSlot i f).now = s.now := rfl

@[simp] theorem State.onSlot_pending (s : State) (i : Nat) (f : AccSlot → AccSlot) : (s.onSlot i f).pending = s.pending := rfl

@[simp] theorem State.onSlot_link (s : State) (i : Nat) (f : AccSlot → AccSlot) : (s.onSlot i f).link = s.link := rfl

@[simp] theorem State.onSlot_own (s : State) (i : Nat) (f : AccSlot → AccSlot) : (s.onSlot i f).own = s.own := rfl

@[simp] theorem State.onSlot_resp (s : State) (i : Nat) (f : AccSlot → AccSlot) : (s.onSlot i f).resp = s.resp := rfl

@[simp] theorem State.onSlot_tables (s : State) (i : Nat) (f : AccSlot → AccSlot) : (s.onSlot i f).tables = s.tables := rfl

@[simp] theorem State.onSlot_parity (s : State) (i : Nat) (f : AccSlot → AccSlot) : (s.onSlot i f).parity = s.parity := rfl

@[simp] theorem State.onSlot_units (s : State) (i : Nat) (f : AccSlot → AccSlot) : (s.onSlot i f).units = s.units := rfl

@[simp] theorem State.onSlot_chans (s : State) (i : Nat) (f : AccSlot → AccSlot) : (s.onSlot i f).chans = s.chans := rfl

@[simp] theorem State.onSlot_engine (s : State) (i : Nat) (f : AccSlot → AccSlot) : (s.onSlot i f).engine = s.engine := rfl

@[simp] theorem State.onSlot_runs (s : State) (i : Nat) (f : AccSlot → AccSlot) : (s.onSlot i f).runs = s.runs := rfl

@[simp] theorem State.onSlot_time (s : State) (i : Nat) (f : AccSlot → AccSlot) : (s.onSlot i f).time = s.time := rfl

@[simp] theorem State.onSlot_mode (s : State) (i : Nat) (f : AccSlot → AccSlot) : (s.onSlot i f).mode = s.mode := rfl

@[simp] theorem State.onSlot_comp (s : State) (i : Nat) (f : AccSlot → AccSlot) : (s.onSlot i f).comp = s.comp := rfl

@[simp] theorem State.onSlot_dry (s : State) (i : Nat) (f : AccSlot → AccSlot) : (s.onSlot i f).dry = s.dry := rfl

@[simp] theorem State.onSlot_ev (s : State) (i : Nat) (f : AccSlot → AccSlot) : (s.onSlot i f).ev = s.ev := rfl

@[simp] theorem State.onSlot_mgmt (s : State) (i : Nat) (f : AccSlot → AccSlot) : (s.onSlot i f).mgmt = s.mgmt := rfl

@[simp] theorem State.onSlot_custody (s : State) (i : Nat) (f : AccSlot → AccSlot) : (s.onSlot i f).custody = s.custody := rfl

@[simp] theorem State.onSlot_ret (s : State) (i : Nat) (f : AccSlot → AccSlot) : (s.onSlot i f).ret = s.ret := rfl

@[simp] theorem State.onSlot_free (s : State) (i : Nat) (f : AccSlot → AccSlot) : (s.onSlot i f).free = s.free := rfl

/-! ### putCommitted -/

@[simp] theorem State.putCommitted_now (s : State) (t : TableId) (i : StoredImage) : (s.putCommitted t i).now = s.now := rfl

@[simp] theorem State.putCommitted_pending (s : State) (t : TableId) (i : StoredImage) : (s.putCommitted t i).pending = s.pending := rfl

@[simp] theorem State.putCommitted_link (s : State) (t : TableId) (i : StoredImage) : (s.putCommitted t i).link = s.link := rfl

@[simp] theorem State.putCommitted_own (s : State) (t : TableId) (i : StoredImage) : (s.putCommitted t i).own = s.own := rfl

@[simp] theorem State.putCommitted_resp (s : State) (t : TableId) (i : StoredImage) : (s.putCommitted t i).resp = s.resp := rfl

@[simp] theorem State.putCommitted_tables (s : State) (t : TableId) (i : StoredImage) : (s.putCommitted t i).tables = s.tables := rfl

@[simp] theorem State.putCommitted_parity (s : State) (t : TableId) (i : StoredImage) : (s.putCommitted t i).parity = s.parity := rfl

@[simp] theorem State.putCommitted_units (s : State) (t : TableId) (i : StoredImage) : (s.putCommitted t i).units = s.units := rfl

@[simp] theorem State.putCommitted_chans (s : State) (t : TableId) (i : StoredImage) : (s.putCommitted t i).chans = s.chans := rfl

@[simp] theorem State.putCommitted_engine (s : State) (t : TableId) (i : StoredImage) : (s.putCommitted t i).engine = s.engine := rfl

@[simp] theorem State.putCommitted_runs (s : State) (t : TableId) (i : StoredImage) : (s.putCommitted t i).runs = s.runs := rfl

@[simp] theorem State.putCommitted_time (s : State) (t : TableId) (i : StoredImage) : (s.putCommitted t i).time = s.time := rfl

@[simp] theorem State.putCommitted_mode (s : State) (t : TableId) (i : StoredImage) : (s.putCommitted t i).mode = s.mode := rfl

@[simp] theorem State.putCommitted_comp (s : State) (t : TableId) (i : StoredImage) : (s.putCommitted t i).comp = s.comp := rfl

@[simp] theorem State.putCommitted_dry (s : State) (t : TableId) (i : StoredImage) : (s.putCommitted t i).dry = s.dry := rfl

@[simp] theorem State.putCommitted_acct (s : State) (t : TableId) (i : StoredImage) : (s.putCommitted t i).acct = s.acct := rfl

@[simp] theorem State.putCommitted_ev (s : State) (t : TableId) (i : StoredImage) : (s.putCommitted t i).ev = s.ev := rfl

@[simp] theorem State.putCommitted_mgmt (s : State) (t : TableId) (i : StoredImage) : (s.putCommitted t i).mgmt = s.mgmt := rfl

@[simp] theorem State.putCommitted_custody (s : State) (t : TableId) (i : StoredImage) : (s.putCommitted t i).custody = s.custody := rfl

@[simp] theorem State.putCommitted_free (s : State) (t : TableId) (i : StoredImage) : (s.putCommitted t i).free = s.free := rfl

/-! ### The updated field itself -/

@[simp] theorem State.onUnit_units (s : State) (i : Nat) (f : UnitLive → UnitLive) :
    (s.onUnit i f).units = s.units.modify i f := rfl

@[simp] theorem State.onChan_chans (s : State) (i : Nat) (f : ChannelState → ChannelState) :
    (s.onChan i f).chans = s.chans.modify i f := rfl

@[simp] theorem State.onRun_runs (s : State) (i : Nat) (f : RunState → RunState) :
    (s.onRun i f).runs = s.runs.modify i f := rfl

@[simp] theorem State.onComp_recs (s : State) (i : Nat) (f : CompRec → CompRec) :
    (s.onComp i f).comp.recs = s.comp.recs.modify i f := rfl

@[simp] theorem State.onTrain_trains (s : State) (i : Nat) (f : Train → Train) :
    (s.onTrain i f).dry.trains = s.dry.trains.modify i f := rfl

@[simp] theorem State.onSlot_slots (s : State) (i : Nat) (f : AccSlot → AccSlot) :
    (s.onSlot i f).acct.slots = s.acct.slots.modify i f := rfl

/-! ### Reading back a record that was written -/

theorem getD_modify {α : Type} (l : List α) (i j : Nat) (f : α → α) (d : α) :
    (l.modify i f).getD j d = if i = j ∧ j < l.length then f (l.getD j d) else l.getD j d := by
  simp only [List.getD_eq_getElem?_getD, List.getElem?_modify]
  by_cases h : i = j
  · subst h
    by_cases hl : i < l.length
    · simp [hl]
    · simp [hl]
  · simp [h]

theorem State.unit_onUnit (s : State) (i j : Nat) (f : UnitLive → UnitLive) :
    (s.onUnit i f).unit j = if i = j ∧ j < s.units.length then f (s.unit j) else s.unit j :=
  getD_modify _ _ _ _ _

theorem State.chan_onChan (s : State) (i j : Nat) (f : ChannelState → ChannelState) :
    (s.onChan i f).chan j = if i = j ∧ j < s.chans.length then f (s.chan j) else s.chan j :=
  getD_modify _ _ _ _ _

theorem State.run_onRun (s : State) (i j : Nat) (f : RunState → RunState) :
    (s.onRun i f).run j = if i = j ∧ j < s.runs.length then f (s.run j) else s.run j :=
  getD_modify _ _ _ _ _

theorem State.compRec_onComp (s : State) (i j : Nat) (f : CompRec → CompRec) :
    (s.onComp i f).compRec j = if i = j ∧ j < s.comp.recs.length then f (s.compRec j) else s.compRec j :=
  getD_modify _ _ _ _ _

theorem State.train_onTrain (s : State) (i j : Nat) (f : Train → Train) :
    (s.onTrain i f).train j = if i = j ∧ j < s.dry.trains.length then f (s.train j) else s.train j :=
  getD_modify _ _ _ _ _

theorem State.slot_onSlot (s : State) (i j : Nat) (f : AccSlot → AccSlot) :
    (s.onSlot i f).slot j = if i = j ∧ j < s.acct.slots.length then f (s.slot j) else s.slot j :=
  getD_modify _ _ _ _ _

end Sys2Proof.Machine
end

