-- ==== Sys2Proof/Laws/Frames.lean ====
section
/-!
SUPPORT. Frames by level. Each block calls the blocks below it: directory, sampling with metering, station, drying,
trains, duty and accounts. `ByX s t` says that `t` differs from `s` only in what an operation of block X, with all the
operations it calls, may change. Every field outside is unchanged, and one lemma per level and field says so.
-/

namespace Sys2Proof.Machine

/-- Nothing differs but events, parity marks (those of LINK and UNITS apart), own commands, duty records and accounts. -/
def ByDuty (s t : State) : Prop :=
  t = { s with
    own := t.own, comp := t.comp, acct := t.acct, ev := t.ev
    parity := { t.parity with link := s.parity.link, units := s.parity.units } }

theorem ByDuty.refl (s : State) : ByDuty s s := rfl

theorem ByDuty.trans {s t u : State} (h : ByDuty s t) (k : ByDuty t u) : ByDuty s u :=
  Eq.trans k (by rw [show t = _ from h])

theorem ByDuty.now {s t : State} (h : ByDuty s t) : t.now = s.now :=
  (congrArg State.now (id h : t = _) :)

theorem ByDuty.pending {s t : State} (h : ByDuty s t) : t.pending = s.pending :=
  (congrArg State.pending (id h : t = _) :)

theorem ByDuty.link {s t : State} (h : ByDuty s t) : t.link = s.link :=
  (congrArg State.link (id h : t = _) :)

theorem ByDuty.resp {s t : State} (h : ByDuty s t) : t.resp = s.resp :=
  (congrArg State.resp (id h : t = _) :)

theorem ByDuty.tables {s t : State} (h : ByDuty s t) : t.tables = s.tables :=
  (congrArg State.tables (id h : t = _) :)

theorem ByDuty.units {s t : State} (h : ByDuty s t) : t.units = s.units :=
  (congrArg State.units (id h : t = _) :)

theorem ByDuty.chans {s t : State} (h : ByDuty s t) : t.chans = s.chans :=
  (congrArg State.chans (id h : t = _) :)

theorem ByDuty.engine {s t : State} (h : ByDuty s t) : t.engine = s.engine :=
  (congrArg State.engine (id h : t = _) :)

theorem ByDuty.runs {s t : State} (h : ByDuty s t) : t.runs = s.runs :=
  (congrArg State.runs (id h : t = _) :)

theorem ByDuty.time {s t : State} (h : ByDuty s t) : t.time = s.time :=
  (congrArg State.time (id h : t = _) :)

theorem ByDuty.mode {s t : State} (h : ByDuty s t) : t.mode = s.mode :=
  (congrArg State.mode (id h : t = _) :)

theorem ByDuty.dry {s t : State} (h : ByDuty s t) : t.dry = s.dry :=
  (congrArg State.dry (id h : t = _) :)

theorem ByDuty.mgmt {s t : State} (h : ByDuty s t) : t.mgmt = s.mgmt :=
  (congrArg State.mgmt (id h : t = _) :)

theorem ByDuty.custody {s t : State} (h : ByDuty s t) : t.custody = s.custody :=
  (congrArg State.custody (id h : t = _) :)

theorem ByDuty.ret {s t : State} (h : ByDuty s t) : t.ret = s.ret :=
  (congrArg State.ret (id h : t = _) :)

theorem ByDuty.free {s t : State} (h : ByDuty s t) : t.free = s.free :=
  (congrArg State.free (id h : t = _) :)

theorem ByDuty.linkParity {s t : State} (h : ByDuty s t) : t.parity.link = s.parity.link :=
  (congrArg (·.parity.link) (id h : t = _) :)

theorem ByDuty.unitsParity {s t : State} (h : ByDuty s t) : t.parity.units = s.parity.units :=
  (congrArg (·.parity.units) (id h : t = _) :)

theorem ByDuty.foldl {α : Type} {f : State → α → State} (h : ∀ s a, ByDuty s (f s a)) (l : List α) (s : State) :
    ByDuty s (l.foldl f s) := by
  induction l generalizing s with
  | nil => exact .refl s
  | cons a l ih => exact (h s a).trans (ih _)

theorem ByDuty.ite {c : Prop} [Decidable c] {s t u : State} (h : ByDuty s t) (k : ByDuty s u) :
    ByDuty s (if c then t else u) := by
  split
  · exact h
  · exact k

/-- Nothing differs but what a duty operation may change, and the dryer trains. -/
def ByTrain (s t : State) : Prop :=
  t = { s with
    own := t.own, comp := t.comp, acct := t.acct, ev := t.ev, dry := t.dry
    parity := { t.parity with link := s.parity.link, units := s.parity.units } }

theorem ByTrain.refl (s : State) : ByTrain s s := rfl

theorem ByTrain.trans {s t u : State} (h : ByTrain s t) (k : ByTrain t u) : ByTrain s u :=
  Eq.trans k (by rw [show t = _ from h])

theorem ByDuty.up {s t : State} (h : ByDuty s t) : ByTrain s t := Eq.trans h (by rw [show t = _ from h])

theorem ByTrain.now {s t : State} (h : ByTrain s t) : t.now = s.now :=
  (congrArg State.now (id h : t = _) :)

theorem ByTrain.pending {s t : State} (h : ByTrain s t) : t.pending = s.pending :=
  (congrArg State.pending (id h : t = _) :)

theorem ByTrain.link {s t : State} (h : ByTrain s t) : t.link = s.link :=
  (congrArg State.link (id h : t = _) :)

theorem ByTrain.resp {s t : State} (h : ByTrain s t) : t.resp = s.resp :=
  (congrArg State.resp (id h : t = _) :)

theorem ByTrain.tables {s t : State} (h : ByTrain s t) : t.tables = s.tables :=
  (congrArg State.tables (id h : t = _) :)

theorem ByTrain.units {s t : State} (h : ByTrain s t) : t.units = s.units :=
  (congrArg State.units (id h : t = _) :)

theorem ByTrain.chans {s t : State} (h : ByTrain s t) : t.chans = s.chans :=
  (congrArg State.chans (id h : t = _) :)

theorem ByTrain.engine {s t : State} (h : ByTrain s t) : t.engine = s.engine :=
  (congrArg State.engine (id h : t = _) :)

theorem ByTrain.runs {s t : State} (h : ByTrain s t) : t.runs = s.runs :=
  (congrArg State.runs (id h : t = _) :)

theorem ByTrain.time {s t : State} (h : ByTrain s t) : t.time = s.time :=
  (congrArg State.time (id h : t = _) :)

theorem ByTrain.mode {s t : State} (h : ByTrain s t) : t.mode = s.mode :=
  (congrArg State.mode (id h : t = _) :)

theorem ByTrain.mgmt {s t : State} (h : ByTrain s t) : t.mgmt = s.mgmt :=
  (congrArg State.mgmt (id h : t = _) :)

theorem ByTrain.custody {s t : State} (h : ByTrain s t) : t.custody = s.custody :=
  (congrArg State.custody (id h : t = _) :)

theorem ByTrain.ret {s t : State} (h : ByTrain s t) : t.ret = s.ret :=
  (congrArg State.ret (id h : t = _) :)

theorem ByTrain.free {s t : State} (h : ByTrain s t) : t.free = s.free :=
  (congrArg State.free (id h : t = _) :)

theorem ByTrain.linkParity {s t : State} (h : ByTrain s t) : t.parity.link = s.parity.link :=
  (congrArg (·.parity.link) (id h : t = _) :)

theorem ByTrain.unitsParity {s t : State} (h : ByTrain s t) : t.parity.units = s.parity.units :=
  (congrArg (·.parity.units) (id h : t = _) :)

theorem ByTrain.foldl {α : Type} {f : State → α → State} (h : ∀ s a, ByTrain s (f s a)) (l : List α) (s : State) :
    ByTrain s (l.foldl f s) := by
  induction l generalizing s with
  | nil => exact .refl s
  | cons a l ih => exact (h s a).trans (ih _)

theorem ByTrain.ite {c : Prop} [Decidable c] {s t u : State} (h : ByTrain s t) (k : ByTrain s u) :
    ByTrain s (if c then t else u) := by
  split
  · exact h
  · exact k

/-- Nothing differs but what an operation on trains may change, and the channels with the engine: a read of a channel checks
its entry. -/
def ByDrying (s t : State) : Prop :=
  t = { s with
    own := t.own, comp := t.comp, acct := t.acct, ev := t.ev
    parity := { t.parity with link := s.parity.link, units := s.parity.units }
    dry := t.dry, chans := t.chans, engine := t.engine }

theorem ByDrying.refl (s : State) : ByDrying s s := rfl

theorem ByDrying.trans {s t u : State} (h : ByDrying s t) (k : ByDrying t u) : ByDrying s u :=
  Eq.trans k (by rw [show t = _ from h])

theorem ByTrain.up {s t : State} (h : ByTrain s t) : ByDrying s t := Eq.trans h (by rw [show t = _ from h])

theorem ByDrying.now {s t : State} (h : ByDrying s t) : t.now = s.now :=
  (congrArg State.now (id h : t = _) :)

theorem ByDrying.pending {s t : State} (h : ByDrying s t) : t.pending = s.pending :=
  (congrArg State.pending (id h : t = _) :)

theorem ByDrying.link {s t : State} (h : ByDrying s t) : t.link = s.link :=
  (congrArg State.link (id h : t = _) :)

theorem ByDrying.resp {s t : State} (h : ByDrying s t) : t.resp = s.resp :=
  (congrArg State.resp (id h : t = _) :)

theorem ByDrying.tables {s t : State} (h : ByDrying s t) : t.tables = s.tables :=
  (congrArg State.tables (id h : t = _) :)

theorem ByDrying.units {s t : State} (h : ByDrying s t) : t.units = s.units :=
  (congrArg State.units (id h : t = _) :)

theorem ByDrying.runs {s t : State} (h : ByDrying s t) : t.runs = s.runs :=
  (congrArg State.runs (id h : t = _) :)

theorem ByDrying.time {s t : State} (h : ByDrying s t) : t.time = s.time :=
  (congrArg State.time (id h : t = _) :)

theorem ByDrying.mode {s t : State} (h : ByDrying s t) : t.mode = s.mode :=
  (congrArg State.mode (id h : t = _) :)

theorem ByDrying.mgmt {s t : State} (h : ByDrying s t) : t.mgmt = s.mgmt :=
  (congrArg State.mgmt (id h : t = _) :)

theorem ByDrying.custody {s t : State} (h : ByDrying s t) : t.custody = s.custody :=
  (congrArg State.custody (id h : t = _) :)

theorem ByDrying.ret {s t : State} (h : ByDrying s t) : t.ret = s.ret :=
  (congrArg State.ret (id h : t = _) :)

theorem ByDrying.free {s t : State} (h : ByDrying s t) : t.free = s.free :=
  (congrArg State.free (id h : t = _) :)

theorem ByDrying.linkParity {s t : State} (h : ByDrying s t) : t.parity.link = s.parity.link :=
  (congrArg (·.parity.link) (id h : t = _) :)

theorem ByDrying.unitsParity {s t : State} (h : ByDrying s t) : t.parity.units = s.parity.units :=
  (congrArg (·.parity.units) (id h : t = _) :)

theorem ByDrying.foldl {α : Type} {f : State → α → State} (h : ∀ s a, ByDrying s (f s a)) (l : List α) (s : State) :
    ByDrying s (l.foldl f s) := by
  induction l generalizing s with
  | nil => exact .refl s
  | cons a l ih => exact (h s a).trans (ih _)

theorem ByDrying.ite {c : Prop} [Decidable c] {s t u : State} (h : ByDrying s t) (k : ByDrying s u) :
    ByDrying s (if c then t else u) := by
  split
  · exact h
  · exact k

/-- Nothing differs but what a drying operation may change, and the mode machine. -/
def ByStation (s t : State) : Prop :=
  t = { s with
    own := t.own, comp := t.comp, acct := t.acct, ev := t.ev
    parity := { t.parity with link := s.parity.link, units := s.parity.units }
    dry := t.dry, chans := t.chans, engine := t.engine, mode := t.mode }

theorem ByStation.refl (s : State) : ByStation s s := rfl

theorem ByStation.trans {s t u : State} (h : ByStation s t) (k : ByStation t u) : ByStation s u :=
  Eq.trans k (by rw [show t = _ from h])

theorem ByDrying.up {s t : State} (h : ByDrying s t) : ByStation s t := Eq.trans h (by rw [show t = _ from h])

theorem ByStation.now {s t : State} (h : ByStation s t) : t.now = s.now :=
  (congrArg State.now (id h : t = _) :)

theorem ByStation.pending {s t : State} (h : ByStation s t) : t.pending = s.pending :=
  (congrArg State.pending (id h : t = _) :)

theorem ByStation.link {s t : State} (h : ByStation s t) : t.link = s.link :=
  (congrArg State.link (id h : t = _) :)

theorem ByStation.resp {s t : State} (h : ByStation s t) : t.resp = s.resp :=
  (congrArg State.resp (id h : t = _) :)

theorem ByStation.tables {s t : State} (h : ByStation s t) : t.tables = s.tables :=
  (congrArg State.tables (id h : t = _) :)

theorem ByStation.units {s t : State} (h : ByStation s t) : t.units = s.units :=
  (congrArg State.units (id h : t = _) :)

theorem ByStation.runs {s t : State} (h : ByStation s t) : t.runs = s.runs :=
  (congrArg State.runs (id h : t = _) :)

theorem ByStation.time {s t : State} (h : ByStation s t) : t.time = s.time :=
  (congrArg State.time (id h : t = _) :)

theorem ByStation.mgmt {s t : State} (h : ByStation s t) : t.mgmt = s.mgmt :=
  (congrArg State.mgmt (id h : t = _) :)

theorem ByStation.custody {s t : State} (h : ByStation s t) : t.custody = s.custody :=
  (congrArg State.custody (id h : t = _) :)

theorem ByStation.ret {s t : State} (h : ByStation s t) : t.ret = s.ret :=
  (congrArg State.ret (id h : t = _) :)

theorem ByStation.free {s t : State} (h : ByStation s t) : t.free = s.free :=
  (congrArg State.free (id h : t = _) :)

theorem ByStation.linkParity {s t : State} (h : ByStation s t) : t.parity.link = s.parity.link :=
  (congrArg (·.parity.link) (id h : t = _) :)

theorem ByStation.unitsParity {s t : State} (h : ByStation s t) : t.parity.units = s.parity.units :=
  (congrArg (·.parity.units) (id h : t = _) :)

theorem ByStation.foldl {α : Type} {f : State → α → State} (h : ∀ s a, ByStation s (f s a)) (l : List α) (s : State) :
    ByStation s (l.foldl f s) := by
  induction l generalizing s with
  | nil => exact .refl s
  | cons a l ih => exact (h s a).trans (ih _)

theorem ByStation.ite {c : Prop} [Decidable c] {s t u : State} (h : ByStation s t) (k : ByStation s u) :
    ByStation s (if c then t else u) := by
  split
  · exact h
  · exact k

/-- Nothing differs but what a mode operation may change, and the meter runs: sampling reaches no further. -/
def ByMetering (s t : State) : Prop :=
  t = { s with
    own := t.own, comp := t.comp, acct := t.acct, ev := t.ev, dry := t.dry
    parity := { t.parity with link := s.parity.link, units := s.parity.units }
    chans := t.chans, engine := t.engine, mode := t.mode, runs := t.runs }

theorem ByMetering.refl (s : State) : ByMetering s s := rfl

theorem ByMetering.trans {s t u : State} (h : ByMetering s t) (k : ByMetering t u) : ByMetering s u :=
  Eq.trans k (by rw [show t = _ from h])

theorem ByStation.up {s t : State} (h : ByStation s t) : ByMetering s t := Eq.trans h (by rw [show t = _ from h])

theorem ByMetering.now {s t : State} (h : ByMetering s t) : t.now = s.now :=
  (congrArg State.now (id h : t = _) :)

theorem ByMetering.pending {s t : State} (h : ByMetering s t) : t.pending = s.pending :=
  (congrArg State.pending (id h : t = _) :)

theorem ByMetering.link {s t : State} (h : ByMetering s t) : t.link = s.link :=
  (congrArg State.link (id h : t = _) :)

theorem ByMetering.resp {s t : State} (h : ByMetering s t) : t.resp = s.resp :=
  (congrArg State.resp (id h : t = _) :)

theorem ByMetering.tables {s t : State} (h : ByMetering s t) : t.tables = s.tables :=
  (congrArg State.tables (id h : t = _) :)

theorem ByMetering.units {s t : State} (h : ByMetering s t) : t.units = s.units :=
  (congrArg State.units (id h : t = _) :)

theorem ByMetering.time {s t : State} (h : ByMetering s t) : t.time = s.time :=
  (congrArg State.time (id h : t = _) :)

theorem ByMetering.mgmt {s t : State} (h : ByMetering s t) : t.mgmt = s.mgmt :=
  (congrArg State.mgmt (id h : t = _) :)

theorem ByMetering.custody {s t : State} (h : ByMetering s t) : t.custody = s.custody :=
  (congrArg State.custody (id h : t = _) :)

theorem ByMetering.ret {s t : State} (h : ByMetering s t) : t.ret = s.ret :=
  (congrArg State.ret (id h : t = _) :)

theorem ByMetering.free {s t : State} (h : ByMetering s t) : t.free = s.free :=
  (congrArg State.free (id h : t = _) :)

theorem ByMetering.linkParity {s t : State} (h : ByMetering s t) : t.parity.link = s.parity.link :=
  (congrArg (·.parity.link) (id h : t = _) :)

theorem ByMetering.unitsParity {s t : State} (h : ByMetering s t) : t.parity.units = s.parity.units :=
  (congrArg (·.parity.units) (id h : t = _) :)

theorem ByMetering.foldl {α : Type} {f : State → α → State} (h : ∀ s a, ByMetering s (f s a)) (l : List α) (s : State) :
    ByMetering s (l.foldl f s) := by
  induction l generalizing s with
  | nil => exact .refl s
  | cons a l ih => exact (h s a).trans (ih _)

theorem ByMetering.ite {c : Prop} [Decidable c] {s t u : State} (h : ByMetering s t) (k : ByMetering s u) :
    ByMetering s (if c then t else u) := by
  split
  · exact h
  · exact k

/-- Nothing differs but what a metering or sampling operation may change, and the unit entries with their marks. -/
def ByDirectory (s t : State) : Prop :=
  t = { s with
    own := t.own, comp := t.comp, acct := t.acct, ev := t.ev, dry := t.dry
    parity := { t.parity with link := s.parity.link }
    chans := t.chans, engine := t.engine, mode := t.mode, runs := t.runs, units := t.units }

theorem ByDirectory.refl (s : State) : ByDirectory s s := rfl

theorem ByDirectory.trans {s t u : State} (h : ByDirectory s t) (k : ByDirectory t u) : ByDirectory s u :=
  Eq.trans k (by rw [show t = _ from h])

theorem ByMetering.up {s t : State} (h : ByMetering s t) : ByDirectory s t := Eq.trans h (by rw [show t = _ from h])

theorem ByDirectory.now {s t : State} (h : ByDirectory s t) : t.now = s.now :=
  (congrArg State.now (id h : t = _) :)

theorem ByDirectory.pending {s t : State} (h : ByDirectory s t) : t.pending = s.pending :=
  (congrArg State.pending (id h : t = _) :)

theorem ByDirectory.link {s t : State} (h : ByDirectory s t) : t.link = s.link :=
  (congrArg State.link (id h : t = _) :)

theorem ByDirectory.resp {s t : State} (h : ByDirectory s t) : t.resp = s.resp :=
  (congrArg State.resp (id h : t = _) :)

theorem ByDirectory.tables {s t : State} (h : ByDirectory s t) : t.tables = s.tables :=
  (congrArg State.tables (id h : t = _) :)

theorem ByDirectory.time {s t : State} (h : ByDirectory s t) : t.time = s.time :=
  (congrArg State.time (id h : t = _) :)

theorem ByDirectory.mgmt {s t : State} (h : ByDirectory s t) : t.mgmt = s.mgmt :=
  (congrArg State.mgmt (id h : t = _) :)

theorem ByDirectory.custody {s t : State} (h : ByDirectory s t) : t.custody = s.custody :=
  (congrArg State.custody (id h : t = _) :)

theorem ByDirectory.ret {s t : State} (h : ByDirectory s t) : t.ret = s.ret :=
  (congrArg State.ret (id h : t = _) :)

theorem ByDirectory.free {s t : State} (h : ByDirectory s t) : t.free = s.free :=
  (congrArg State.free (id h : t = _) :)

theorem ByDirectory.linkParity {s t : State} (h : ByDirectory s t) : t.parity.link = s.parity.link :=
  (congrArg (·.parity.link) (id h : t = _) :)

theorem ByDirectory.foldl {α : Type} {f : State → α → State} (h : ∀ s a, ByDirectory s (f s a)) (l : List α) (s : State) :
    ByDirectory s (l.foldl f s) := by
  induction l generalizing s with
  | nil => exact .refl s
  | cons a l ih => exact (h s a).trans (ih _)

theorem ByDirectory.ite {c : Prop} [Decidable c] {s t u : State} (h : ByDirectory s t) (k : ByDirectory s u) :
    ByDirectory s (if c then t else u) := by
  split
  · exact h
  · exact k

end Sys2Proof.Machine
end

