-- ==== Sys2Proof/Laws/Duty.lean ====
section
/-!
SUPPORT. The operations of the Event Unit, the own-command queue, the duty controller and the accounts change nothing
but events, parity marks, own commands, duty records and accounts.
-/

namespace Sys2Proof.Machine

/-! ### Events and parity marks -/

theorem occurPlain_frame (a b : Nat) (s : State) : ByDuty s (occurPlain a b s) := rfl

theorem setMark_frame {t : TableId} (i : Nat) (s : State) (h : t ≠ .link ∧ t ≠ .units) : ByDuty s (s.setMark t i) := by
  cases t
  case link => exact absurd rfl h.1
  case units => exact absurd rfl h.2
  all_goals rfl

theorem occurParity_frame (a : Nat) (s : State) : ByDuty s (occurParity a s) := by
  unfold occurParity; split
  · exact ((setMark_frame _ _ (by decide)).trans (occurPlain_frame _ _ _)).trans (occurPlain_frame _ _ _)
  · exact occurPlain_frame _ _ _

theorem occur_frame (a b : Nat) (s : State) : ByDuty s (occur a b s) := by
  unfold occur; repeat' split
  · exact occurParity_frame _ _
  · exact ((setMark_frame _ _ (by decide)).trans (occurParity_frame _ _)).trans (occurPlain_frame _ _ _)
  · exact occurPlain_frame _ _ _

theorem occurIf_frame (c : Bool) (a b : Nat) (s : State) : ByDuty s (occurIf c a b s) :=
  .ite (occur_frame _ _ _) (.refl _)

theorem markEntry_frame {t : TableId} (i j : Nat) (s : State) (h : t ≠ .link ∧ t ≠ .units) : ByDuty s (markEntry t i j s) :=
  (setMark_frame _ _ h).trans (occurParity_frame _ _)

theorem checkEventEntry_frame (a : Nat) (s : State) : ByDuty s (checkEventEntry a s) := by
  unfold checkEventEntry; repeat' split
  · exact (setMark_frame _ _ (by decide)).trans (occurPlain_frame _ _ _)
  · exact (setMark_frame _ _ (by decide)).trans (occurParity_frame _ _)
  · exact .refl _

theorem checkEvents_frame (s : State) : ByDuty s (checkEvents s) := .foldl (fun _ _ => checkEventEntry_frame _ _) _ _

/-- A mark on an entry of any table changes events and parity marks alone. -/
theorem markEntry_only (t : TableId) (i j : Nat) (s : State) :
    markEntry t i j s = { s with parity := (markEntry t i j s).parity, ev := (markEntry t i j s).ev } := by
  unfold markEntry occurParity; split <;> rfl

theorem checkOwnEntry_only (i : Nat) (s : State) :
    checkOwnEntry i s = { s with parity := (checkOwnEntry i s).parity, ev := (checkOwnEntry i s).ev } := by
  unfold checkOwnEntry; split
  · exact markEntry_only _ _ _ _
  · rfl

/-- The own-address check of a frame arrival changes events and parity marks alone. -/
theorem checkOwnTable_only (s : State) :
    checkOwnTable s = { s with parity := (checkOwnTable s).parity, ev := (checkOwnTable s).ev } := by
  unfold checkOwnTable
  rw [checkOwnEntry_only 3, checkOwnEntry_only 2, checkOwnEntry_only 1, checkOwnEntry_only 0]

/-! ### Own commands -/

theorem offerOwn_frame (e : Nat) (c : Command) (s : State) : ByDuty s (offerOwn e c s) := .ite rfl rfl

theorem withdrawOwn_frame (e : Nat) (p : Command → Bool) (s : State) : ByDuty s (withdrawOwn e p s) := rfl

theorem withdrawAll_frame (e : Nat) (s : State) : ByDuty s (withdrawAll e s) := rfl

/-! ### Duty records -/

theorem onComp_frame (k : Nat) (f : CompRec → CompRec) (s : State) : ByDuty s (s.onComp k f) := rfl

theorem lockByParity_frame (k : Nat) (s : State) : ByDuty s (lockByParity k s) := rfl

theorem checkComp_frame (k : Nat) (s : State) : ByDuty s (checkComp k s) := by
  unfold checkComp; repeat' split
  · exact (markEntry_frame _ _ _ (by decide)).trans (lockByParity_frame _ _)
  · exact markEntry_frame _ _ _ (by decide)
  · exact .refl _

theorem beginStart_frame (k : Nat) (s : State) : ByDuty s (beginStart k s) := rfl

theorem ownStart_frame (k : Nat) (s : State) : ByDuty s (ownStart k s) := by
  unfold ownStart; repeat' split
  · exact .refl _
  · exact (beginStart_frame _ _).trans (offerOwn_frame _ _ _)
  · rfl

theorem takeStop_frame (k : Nat) (s : State) : ByDuty s (takeStop k s) := by
  unfold takeStop; split
  · exact ((offerOwn_frame _ _ _).trans (withdrawOwn_frame _ _ _)).trans (onComp_frame _ _ _)
  · exact .refl _

theorem cancelStart_frame (k : Nat) (s : State) : ByDuty s (cancelStart k s) := rfl

theorem immediateStop_frame (k : Nat) (s : State) : ByDuty s (immediateStop k s) := by
  unfold immediateStop; repeat' split
  · exact cancelStart_frame _ _
  · exact (offerOwn_frame _ _ _).trans (onComp_frame _ _ _)
  · exact (takeStop_frame _ _).trans (onComp_frame _ _ _)
  · exact .refl _

theorem immediateStops_frame (s : State) : ByDuty s (immediateStops s) :=
  .foldl (fun _ _ => .ite (immediateStop_frame _ _) (.refl _)) _ _

theorem cancelUnsentStarts_frame (s : State) : ByDuty s (cancelUnsentStarts s) :=
  .foldl (fun _ _ => .ite (cancelStart_frame _ _) (.refl _)) _ _

theorem resort_frame (s : State) : ByDuty s (resort s) := rfl

theorem buildOrder_frame (s : State) : ByDuty s (buildOrder s) := rfl

theorem actOn_frame (w : List Nat) (k : Nat) (s : State) : ByDuty s (actOn w k s) := by
  unfold actOn; repeat' split
  all_goals first | exact ownStart_frame _ _ | exact takeStop_frame _ _ | rfl

theorem offerSpeed_frame (d r k : Nat) (s : State) : ByDuty s (offerSpeed d r k s) :=
  .ite ((offerOwn_frame _ _ _).trans (onComp_frame _ _ _)) (.refl _)

theorem offerSpeeds_frame (s : State) : ByDuty s (offerSpeeds s) :=
  .ite (.refl _) (.foldl (fun _ _ => offerSpeed_frame _ _ _ _) _ _)

theorem checkOrder_frame (s : State) : ByDuty s (checkOrder s) := .foldl (fun _ _ => checkComp_frame _ _) _ _

theorem evalCore_frame (s : State) : ByDuty s (evalCore s) :=
  (ByDuty.foldl (fun _ _ => actOn_frame _ _ _) _ _).trans (offerSpeeds_frame _)

/-! ### Confirmation and its coupling with duty -/

theorem onSlot_frame (i : Nat) (f : AccSlot → AccSlot) (s : State) : ByDuty s (s.onSlot i f) := rfl

theorem reclamp_frame (i : Nat) (s : State) : ByDuty s (reclamp i s) := rfl

theorem reclampAll_frame (s : State) : ByDuty s (reclampAll s) := .foldl (fun _ _ => reclamp_frame _ _) _ _

theorem confirmAll_frame (s : State) : ByDuty s (confirmAll s) := rfl

theorem curtailCore_frame (j : Option Nat) (s : State) : ByDuty s (curtailCore j s) := by
  unfold curtailCore; dsimp only; split
  · exact confirmAll_frame _
  · exact ByDuty.trans (t := { confirmAll s with acct := { (confirmAll s).acct with curtailed := true } })
      rfl (occurIf_frame _ _ _ _)

theorem tellSums_frame (s : State) : ByDuty s (tellSums s) := rfl

theorem publish_frame (s : State) : ByDuty s (publish s) := by
  unfold publish; dsimp only
  have h : ByDuty s (curtailCore none
      { s with comp := { s.comp with published := s.compCapacity }, acct := { s.acct with compCap := s.compCapacity } }) :=
    ByDuty.trans (t := { s with
      comp := { s.comp with published := s.compCapacity }, acct := { s.acct with compCap := s.compCapacity } })
      rfl (curtailCore_frame _ _)
  repeat' split
  · exact .refl _
  · exact (h.trans (tellSums_frame _)).trans (evalCore_frame _)
  · exact h

theorem dutyEvaluation_frame (s : State) : ByDuty s (dutyEvaluation s) :=
  ((checkOrder_frame s).trans (evalCore_frame _)).trans (publish_frame _)

theorem curtail_frame (j : Option Nat) (s : State) : ByDuty s (curtail j s) := by
  unfold curtail; dsimp only; split
  · exact ((curtailCore_frame _ _).trans (tellSums_frame _)).trans (dutyEvaluation_frame _)
  · exact curtailCore_frame _ _

theorem checkShipper_frame (i : Nat) (s : State) : ByDuty s (checkShipper i s) :=
  .ite (((markEntry_frame _ _ _ (by decide)).trans (onSlot_frame _ _ _)).trans (curtail_frame _ _)) (.refl _)

theorem checkShippers_frame (s : State) : ByDuty s (checkShippers s) := .foldl (fun _ _ => checkShipper_frame _ _) _ _

theorem acctDrying_frame (c : Nat) (s : State) : ByDuty s (acctDrying c s) :=
  ByDuty.trans (t := { s with acct := { s.acct with dryCap := c } }) rfl (curtail_frame _ _)

theorem acctCompressor_frame (c : Nat) (s : State) : ByDuty s (acctCompressor c s) :=
  ByDuty.trans (t := { s with acct := { s.acct with compCap := c } }) rfl (curtail_frame _ _)

theorem acctFlag_frame (c : Bool) (s : State) : ByDuty s (acctFlag c s) :=
  ByDuty.trans (t := { s with acct := { s.acct with flag := c } }) rfl (curtail_frame _ _)

theorem acctIntervalLength_frame (s : State) : ByDuty s (acctIntervalLength s) :=
  (reclampAll_frame s).trans (curtail_frame _ _)

theorem openGroup_frame (n : Nat) (s : State) : ByDuty s (openGroup n s) := .ite (.refl _) rfl

theorem onGroup_frame (n : Nat) (f : Group → Group) (s : State) : ByDuty s (onGroup n f s) := rfl

theorem rollSlots_frame (s : State) : ByDuty s (rollSlots s) := rfl

/-! ### Compressor events -/

theorem tripLock_frame (k : Nat) (s : State) : ByDuty s (tripLock k s) := rfl

theorem settleFirst_frame (k : Nat) (d : DutyState) (s : State) : ByDuty s (settleFirst k d s) := rfl

theorem firstReport_frame (k : Nat) (c : Condition) (s : State) : ByDuty s (firstReport k c s) := by
  unfold firstReport; repeat' split
  all_goals first
    | with_reducible exact .refl _
    | refine ByDuty.trans ?_ (dutyEvaluation_frame _)
  all_goals first
    | with_reducible exact settleFirst_frame _ _ _
    | rfl

theorem localStart_frame (k : Nat) (s : State) : ByDuty s (localStart k s) :=
  ((withdrawOwn_frame _ _ _).trans (onComp_frame _ _ _)).trans (occur_frame _ _ _)

theorem stoppedReport_frame (k : Nat) (s : State) : ByDuty s (stoppedReport k s) := rfl

theorem confirmStart_frame (k : Nat) (s : State) : ByDuty s (confirmStart k s) := rfl

theorem actReport_frame (k : Nat) (c : Condition) (s : State) : ByDuty s (actReport k c s) := by
  unfold actReport; split
  all_goals first
    | with_reducible exact firstReport_frame _ _ _
    | with_reducible exact .refl _
    | refine ByDuty.trans ?_ (dutyEvaluation_frame _)
  all_goals first
    | with_reducible exact tripLock_frame _ _
    | with_reducible exact localStart_frame _ _
    | with_reducible exact confirmStart_frame _ _
    | with_reducible exact stoppedReport_frame _ _

theorem useComp_frame (k : Nat) (s : State) : ByDuty s (useComp k s) :=
  .ite ((checkComp_frame _ _).trans (dutyEvaluation_frame _)) (.refl _)

theorem reportTo_frame (k : Nat) (c : Condition) (s : State) : ByDuty s (reportTo k c s) := by
  unfold reportTo; dsimp only
  have h := ((useComp_frame k s).trans (onComp_frame k (fun r => { r with lastReport := some c }) _)).trans
    (occurIf_frame (!(useComp k s).marked .compressors k && decide (c = .tripped) &&
      decide (((useComp k s).compRec k).lastReport ≠ some .tripped)) Src.unitTripped k _)
  split
  · exact h
  · exact h.trans (actReport_frame _ _ _)

theorem compressorReport_frame (e : Nat) (p : List Octet) (s : State) : ByDuty s (compressorReport e p s) := by
  unfold compressorReport; split
  · exact reportTo_frame _ _ _
  · exact .refl _

theorem compDeparted_frame (e : Nat) (s : State) : ByDuty s (compDeparted e s) := by
  unfold compDeparted; dsimp only; split
  · exact .refl _
  · refine ByDuty.trans ?_ (dutyEvaluation_frame _)
    refine ByDuty.trans ?_ (occurIf_frame _ _ _ _)
    rfl

theorem dutyMode_frame (m : Mode) (s : State) : ByDuty s (dutyMode m s) := by
  unfold dutyMode; dsimp only
  have h : ByDuty s { s with comp := { s.comp with heldMode := m } } := rfl
  split
  · exact ((h.trans (resort_frame _)).trans (immediateStops_frame _)).trans (dutyEvaluation_frame _)
  · exact h.trans (dutyEvaluation_frame _)

theorem dutyEsd_frame (a : Bool) (s : State) : ByDuty s (dutyEsd a s) := by
  unfold dutyEsd; dsimp only
  have h : ByDuty s { s with comp := { s.comp with heldEsd := a } } := rfl
  split
  · exact (h.trans (cancelUnsentStarts_frame _)).trans (dutyEvaluation_frame _)
  · exact h.trans (dutyEvaluation_frame _)

theorem dutyFlag_frame (a : Bool) (s : State) : ByDuty s (dutyFlag a s) :=
  ByDuty.trans (t := { s with comp := { s.comp with heldFlag := a } }) rfl (dutyEvaluation_frame _)

theorem becomeManual_frame (k : Nat) (s : State) : ByDuty s (becomeManual k s) := .ite (.refl _) rfl

theorem becomeAuto_frame (k : Nat) (s : State) : ByDuty s (becomeAuto k s) := .ite (.refl _) rfl

theorem supervisorStop_frame (k : Nat) (s : State) : ByDuty s (supervisorStop k s).1 := by
  unfold supervisorStop; dsimp only
  refine ByDuty.trans ?_ (dutyEvaluation_frame _)
  exact (immediateStop_frame _ _).trans (becomeManual_frame _ _)

theorem supervisorStart_frame (k : Nat) (s : State) : ByDuty s (supervisorStart k s).1 := by
  unfold supervisorStart; split
  · exact .refl _
  · exact (beginStart_frame _ _).trans (dutyEvaluation_frame _)

theorem supervisorSpeed_frame (k : Nat) (p : List Octet) (s : State) : ByDuty s (supervisorSpeed k p s).1 := by
  unfold supervisorSpeed; dsimp only; repeat' split
  · exact .refl _
  · rfl
  · dsimp only
    exact ByDuty.trans (t := s.onComp k _) rfl (occur_frame _ _ _)

theorem judgeComp_frame (k : Nat) (p : List Octet) (s : State) : ByDuty s (judgeComp k p s).1 := by
  unfold judgeComp; dsimp only; repeat' split
  · exact useComp_frame _ _
  · exact (useComp_frame _ _).trans (supervisorStop_frame _ _)
  · exact (useComp_frame _ _).trans (supervisorStart_frame _ _)
  · exact (useComp_frame _ _).trans (supervisorSpeed_frame _ _ _)
  · exact useComp_frame _ _

theorem compressorCommand_frame (e : Nat) (p : List Octet) (s : State) : ByDuty s (compressorCommand e p s).1 := by
  unfold compressorCommand; split
  · exact .refl _
  · exact judgeComp_frame _ _ _

theorem failStart_frame (k : Nat) (s : State) : ByDuty s (failStart k s) := by
  unfold failStart; dsimp only
  have h := ((offerOwn_frame (s.compEntry k) .stop s).trans (onComp_frame k
    (fun r => { r with tStart := none, failures := min 2 (r.failures + 1) }) _)).trans (occur_frame Src.startFailed k _)
  split
  · exact ((h.trans (onComp_frame _ _ _)).trans (occur_frame _ _ _)).trans (dutyEvaluation_frame _)
  · exact (h.trans (onComp_frame _ _ _)).trans (dutyEvaluation_frame _)

theorem minimumRunOver_frame (k : Nat) (s : State) : ByDuty s (minimumRunOver k s) := by
  unfold minimumRunOver; dsimp only; split
  · exact ((onComp_frame _ _ _).trans (takeStop_frame _ _)).trans (dutyEvaluation_frame _)
  · exact onComp_frame _ _ _

theorem stopTimedOut_frame (k : Nat) (s : State) : ByDuty s (stopTimedOut k s) :=
  ((onComp_frame _ _ _).trans (occur_frame _ _ _)).trans (dutyEvaluation_frame _)

theorem cooledDown_frame (k : Nat) (s : State) : ByDuty s (cooledDown k s) :=
  (onComp_frame _ _ _).trans (dutyEvaluation_frame _)

theorem markAgeout_frame (k : Nat) (s : State) :
    ByDuty s (dutyEvaluation (s.onComp k fun r => { r with marks := youngMarks s.now (s.compCfg k).window r.marks })) :=
  (onComp_frame _ _ _).trans (dutyEvaluation_frame _)

/-! ### Requests on compressors -/

theorem withComp_frame (a : List Octet) (s : State) (f : Nat → Reply) (h : ∀ k, ByDuty s (f k).state) :
    ByDuty s (withComp a s f).state := by
  unfold withComp; dsimp only; repeat' split
  · exact .refl _
  · exact .refl _
  · exact h _

theorem resetUnit_frame (a : List Octet) (s : State) : ByDuty s (resetUnit a s).state := by
  refine withComp_frame _ _ _ fun k => ?_
  dsimp only; split
  · exact .refl _
  · exact (onComp_frame _ _ _).trans (dutyEvaluation_frame _)

theorem setUnitMode_frame (m : UnitMode) (a : List Octet) (s : State) : ByDuty s (setUnitMode m a s).state := by
  refine withComp_frame _ _ _ fun k => ?_
  by_cases h1 : s.marked .compressors k = true
  · rw [if_pos h1]; exact ByDuty.refl s
  · rw [if_neg h1]
    by_cases h2 : (s.compRec k).mode = m
    · rw [if_pos h2]; exact ByDuty.refl s
    · rw [if_neg h2]
      refine ByDuty.trans ?_ (dutyEvaluation_frame _)
      cases m
      · exact becomeAuto_frame k s
      · exact becomeManual_frame k s

theorem rotate_frame (a : List Octet) (s : State) : ByDuty s (rotate a s).state :=
  (resort_frame s).trans (dutyEvaluation_frame _)

theorem readCompressor_frame (a : List Octet) (s : State) : ByDuty s (readCompressor a s).state := by
  unfold readCompressor; dsimp only; split
  · exact .refl _
  · exact useComp_frame _ _

theorem withdrawFormer_frame (o : List CompCfg) (s : State) : ByDuty s (withdrawFormer o s) :=
  .foldl (fun _ _ => .ite (withdrawAll_frame _ _) (.refl _)) _ _

theorem compressorsTakeEffect_frame (o : List CompCfg) (s : State) : ByDuty s (compressorsTakeEffect o s) := by
  unfold compressorsTakeEffect; dsimp only
  refine ByDuty.trans ?_ (dutyEvaluation_frame _)
  refine ByDuty.trans ?_ (occur_frame _ _ _)
  exact (withdrawFormer_frame o s).trans rfl

theorem compRestart_frame (s : State) : ByDuty s (compRestart s) := rfl

theorem compPowerOn_frame (s : State) : ByDuty s (compPowerOn s) := rfl

/-! ### Requests on accounts and events -/

theorem nominateNext_frame (i : Nat) (d : Dir) (n : Nat) (s : State) : ByDuty s (nominateNext i d n s).state := rfl

theorem readShipper_frame (a : List Octet) (s : State) : ByDuty s (readShipper a s).state := by
  unfold readShipper; dsimp only; split
  · exact .refl _
  · exact checkShipper_frame _ _

theorem clearEvents_frame (a : List Octet) (s : State) : ByDuty s (clearEvents a s).state := rfl

theorem forceEvent_frame (a : List Octet) (s : State) : ByDuty s (forceEvent a s).state := by
  unfold forceEvent
  by_cases h : 47 < fieldAt a 0 1
  · rw [if_pos h]; exact ByDuty.refl s
  · rw [if_neg h]; exact occur_frame (fieldAt a 0 1) noSubject s

theorem readEvents_frame (a : List Octet) (s : State) : ByDuty s (readEvents a s).state := by
  unfold readEvents; dsimp only; exact checkEvents_frame s

end Sys2Proof.Machine
end

