-- ==== Sys2Proof/Laws/Drying.lean ====
section
/-!
SUPPORT. The operations of the Drying Controller change nothing but what a duty operation may change, the dryer trains
and, where they read a channel, the channels with the engine.
-/

namespace Sys2Proof.Machine

/-! ### Train state and capacity -/

theorem onTrain_frame (i : Nat) (f : Train → Train) (s : State) : ByTrain s (s.onTrain i f) := rfl

theorem tellDrying_frame (s : State) : ByTrain s (tellDrying s) :=
  .ite (.refl _)
    (ByTrain.trans (t := { s with dry := { s.dry with total := s.dryingSum } }) rfl (acctDrying_frame _ _).up)

theorem evalTrain_frame (i : Nat) (s : State) : ByTrain s (evalTrain i s) :=
  ((onTrain_frame _ _ _).trans (occurIf_frame _ _ _ _).up).trans (tellDrying_frame _)

/-! ### Switches -/

theorem startTest_frame (i : Nat) (s : State) : ByTrain s (startTest i s) := by
  unfold startTest; dsimp only; repeat' split
  · exact .refl _
  · exact (offerOwn_frame _ _ _).up.trans (onTrain_frame _ _ _)
  · exact .refl _

theorem raiseRequest_frame (i : Nat) (s : State) : ByTrain s (raiseRequest i s) :=
  (onTrain_frame _ _ _).trans (startTest_frame _ _)

theorem bedTrigger_frame (i : Nat) (s : State) : ByTrain s (bedTrigger i s) := .ite (raiseRequest_frame _ _) (.refl _)

theorem loadingTrigger_frame (i : Nat) (s : State) : ByTrain s (loadingTrigger i s) :=
  .ite (bedTrigger_frame _ _) (.refl _)

theorem noBedTrigger_frame (i : Nat) (s : State) : ByTrain s (noBedTrigger i s) :=
  .ite (raiseRequest_frame _ _) (.refl _)

theorem endSwitch_frame (i : Nat) (s : State) : ByTrain s (endSwitch i s) :=
  ((onTrain_frame _ _ _).trans (noBedTrigger_frame _ _)).trans (startTest_frame _ _)

theorem bedOut_frame (i : Nat) (x : BedId) (s : State) : ByTrain s (bedOut i x s) :=
  (onTrain_frame _ _ _).trans (occur_frame _ _ _).up

theorem confirmOpening_frame (i : Nat) (op : SwitchOp) (s : State) : ByTrain s (confirmOpening i op s) := by
  unfold confirmOpening; dsimp only; split
  · exact ((onTrain_frame _ _ _).trans (occur_frame _ _ _).up).trans (endSwitch_frame _ _)
  · exact ((onTrain_frame _ _ _).trans (offerOwn_frame _ _ _).up).trans (onTrain_frame _ _ _)

theorem failOpening_frame (b : Bool) (i : Nat) (op : SwitchOp) (s : State) : ByTrain s (failOpening b i op s) :=
  ((((withdrawOwn_frame _ _ _).trans (occurIf_frame _ _ _ _)).up.trans (bedOut_frame _ _ _)).trans
    (onTrain_frame _ _ _)).trans (endSwitch_frame _ _)

theorem confirmRelease_frame (i : Nat) (x : BedId) (s : State) : ByTrain s (confirmRelease i x s) :=
  ((onTrain_frame _ _ _).trans (occur_frame _ _ _).up).trans (endSwitch_frame _ _)

theorem failRelease_frame (b : Bool) (i : Nat) (x : BedId) (s : State) : ByTrain s (failRelease b i x s) :=
  (((withdrawOwn_frame _ _ _).up.trans (onTrain_frame _ _ _)).trans (occur_frame _ _ _).up).trans (endSwitch_frame _ _)

/-! ### Parity and reports -/

theorem useTrain_frame (i : Nat) (s : State) : ByTrain s (useTrain i s) := by
  unfold useTrain; repeat' split
  · exact (((markEntry_frame _ _ _ (by decide)).trans (withdrawAll_frame _ _)).up.trans (onTrain_frame _ _ _)).trans
      (evalTrain_frame _ _)
  · exact (markEntry_frame _ _ _ (by decide)).up
  · exact .refl _

theorem entryTriggers_frame (i : Nat) (s : State) : ByTrain s (entryTriggers i s) :=
  (loadingTrigger_frame _ _).trans (noBedTrigger_frame _ _)

theorem synchronise_frame (i : Nat) (p : BedId → Position) (s : State) : ByTrain s (synchronise i p s) := by
  unfold synchronise; dsimp only; split
  all_goals
    have h {f : Train → Train} {a b c : Bool} : ByTrain s (evalTrain i (occurIf a Src.bedOut i
        (occurIf b Src.bedOut i (occurIf c Src.bedOut i (s.onTrain i f))))) :=
      ((((onTrain_frame i f s).trans (occurIf_frame _ _ _ _).up).trans (occurIf_frame _ _ _ _).up).trans
        (occurIf_frame _ _ _ _).up).trans (evalTrain_frame _ _)
  · exact (h.trans (entryTriggers_frame _ _)).trans (evalTrain_frame _ _)
  · exact h

theorem faultPlain_frame (i : Nat) (x : BedId) (s : State) : ByTrain s (faultPlain i x s) := by
  unfold faultPlain; split
  · exact bedOut_frame _ _ _
  · exact (bedOut_frame _ _ _).trans (noBedTrigger_frame _ _)
  · exact bedOut_frame _ _ _
  · exact bedOut_frame _ _ _
  all_goals exact .refl _

theorem faultAt_frame (i : Nat) (x : BedId) (s : State) : ByTrain s (faultAt i x s) := by
  unfold faultAt; repeat' split
  · exact faultPlain_frame _ _ _
  · exact failOpening_frame _ _ _ _
  · exact bedOut_frame _ _ _
  · exact (bedOut_frame _ _ _).trans (onTrain_frame _ _ _)
  · exact failRelease_frame _ _ _ _
  · exact faultPlain_frame _ _ _

theorem actPosition_frame (i : Nat) (op : Option SwitchOp) (x : BedId) (p : Position) (s : State) :
    ByTrain s (actPosition i op x p s) := by
  unfold actPosition; repeat' split
  · exact .refl _
  · exact (faultAt_frame _ _ _).trans (evalTrain_frame _ _)
  · exact (confirmOpening_frame _ _ _).trans (evalTrain_frame _ _)
  · exact .refl _
  · exact .refl _
  · exact (confirmRelease_frame _ _ _).trans (evalTrain_frame _ _)
  · exact .refl _
  · exact .refl _

theorem recordPositions_frame (i : Nat) (p : BedId → Position) (s : State) : ByTrain s (recordPositions i p s) := rfl

theorem trainReport_frame (i : Nat) (p : BedId → Position) (s : State) : ByTrain s (trainReport i p s) := by
  have h := (useTrain_frame i s).trans (recordPositions_frame i p _)
  unfold trainReport; dsimp only; repeat' split
  · exact h
  · exact ((h.trans (actPosition_frame _ _ _ _ _)).trans (actPosition_frame _ _ _ _ _)).trans (actPosition_frame _ _ _ _ _)
  · exact h
  · exact h.trans (synchronise_frame _ _ _)

theorem dryerReport_frame (e : Nat) (p : List Octet) (s : State) : ByTrain s (dryerReport e p s) := by
  unfold dryerReport; split
  · exact trainReport_frame _ _ _
  · exact .refl _

/-! ### Notices -/

theorem sweepCounts_frame (c : Nat) (s : State) : ByDrying s (sweepCounts c s) := by
  unfold sweepCounts; dsimp only; split
  · exact ByDrying.trans (t := { s with engine := { s.engine with remaining := s.engine.remaining.filter fun d => decide (d ≠ c) } })
      rfl (occurIf_frame _ _ _ _).up.up
  · exact .refl _

theorem withdrawRequest_frame (c : Nat) (s : State) : ByDrying s (withdrawRequest c s) :=
  .ite (ByDrying.trans (t := s.onChan c fun x => { x with request := .none }) rfl (sweepCounts_frame _ _)) (.refl _)

theorem dropPending_frame (c : Nat) (s : State) : ByDrying s (dropPending c s) := rfl

theorem useChannel_frame (c : Nat) (s : State) : ByDrying s (useChannel c s) :=
  .ite ((((markEntry_frame _ _ _ (by decide)).up.up.trans (dropPending_frame _ _)).trans (withdrawRequest_frame _ _)).trans rfl)
    (.refl _)

theorem useChannels_frame (l : List Nat) (s : State) : ByDrying s (useChannels l s) :=
  .foldl (fun _ _ => useChannel_frame _ _) _ _

theorem trainVolume_frame (i n : Nat) (s : State) : ByDrying s (trainVolume i n s) := by
  unfold trainVolume; dsimp only; split
  · exact (useTrain_frame _ _).up
  · exact ((useTrain_frame _ _).up.trans (useChannels_frame _ _)).trans
      (((onTrain_frame _ _ _).trans (loadingTrigger_frame _ _)).trans (evalTrain_frame _ _)).up

theorem dryVolume_frame (r n : Nat) (s : State) : ByDrying s (dryVolume r n s) :=
  .foldl (fun _ _ => .ite (trainVolume_frame _ _ _) (.refl _)) _ _

theorem breakthrough_frame (i : Nat) (s : State) : ByTrain s (breakthrough i s) := by
  have h := (useTrain_frame i s).trans (occur_frame Src.breakthrough i _).up
  unfold breakthrough; dsimp only; split
  · exact h
  · exact (h.trans (bedTrigger_frame _ _)).trans (evalTrain_frame _ _)

theorem testHeating_frame (i : Nat) (x : BedId) (s : State) : ByDrying s (testHeating i x s) := by
  unfold testHeating; dsimp only; repeat' split
  · exact (useChannels_frame _ _).trans (onTrain_frame _ _ _).up
  · exact useChannels_frame _ _
  · exact .refl _

theorem testAllHeating_frame (i : Nat) (s : State) : ByDrying s (testAllHeating i s) :=
  .foldl (fun _ _ => testHeating_frame _ _ _) _ _

theorem regenChanged_frame (i : Nat) (s : State) : ByDrying s (regenChanged i s) := by
  unfold regenChanged; dsimp only; split
  · exact (useTrain_frame _ _).up
  · exact ((useTrain_frame _ _).up.trans (testAllHeating_frame _ _)).trans (evalTrain_frame _ _).up

theorem trainComparator_frame (i c : Nat) (x : CmpId) (o : Bool) (s : State) : ByDrying s (trainComparator i c x o s) := by
  unfold trainComparator; dsimp only; split
  · refine ByDrying.trans ?_ (.ite (regenChanged_frame _ _) (.refl _))
    exact .ite (breakthrough_frame _ _).up (.ite (useTrain_frame _ _).up (.refl _))
  · exact .refl _

theorem dryComparator_frame (c : Nat) (x : CmpId) (o : Bool) (s : State) : ByDrying s (dryComparator c x o s) :=
  (trainComparator_frame _ _ _ _ _).trans (trainComparator_frame _ _ _ _ _)

theorem dryMode_frame (m : Mode) (s : State) : ByTrain s (dryMode m s) := by
  have h : ByTrain s { s with dry := { s.dry with heldMode := m } } := rfl
  unfold dryMode; dsimp only; split
  · exact h.trans (.foldl (fun _ _ => .ite ((entryTriggers_frame _ _).trans (evalTrain_frame _ _)) (.refl _)) _ _)
  · exact h

theorem dryDeparted_frame (e : Nat) (s : State) : ByTrain s (dryDeparted e s) := by
  unfold dryDeparted; split
  · exact .refl _
  · exact ((onTrain_frame _ _ _).trans (occurIf_frame _ _ _ _).up).trans (evalTrain_frame _ _)

theorem dryerCommand_frame (e : Nat) (p : List Octet) (s : State) : ByTrain s (dryerCommand e p s).1 := by
  unfold dryerCommand; dsimp only; repeat' split
  · exact .refl _
  all_goals exact useTrain_frame _ _

/-! ### Timers -/

theorem adsorbLimit_frame (i : Nat) (s : State) : ByTrain s (adsorbLimit i s) := by
  unfold adsorbLimit; split
  · exact .refl _
  · exact ((onTrain_frame _ _ _).trans (bedTrigger_frame _ _)).trans (evalTrain_frame _ _)

theorem heatReached_frame (i : Nat) (x : BedId) (s : State) : ByDrying s (heatReached i x s) :=
  ((onTrain_frame _ _ _).up.trans (testHeating_frame _ _ _)).trans (evalTrain_frame _ _).up

theorem heatShort_frame (i : Nat) (x : BedId) (s : State) : ByTrain s (heatShort i x s) :=
  ((occur_frame _ _ _).up.trans (onTrain_frame _ _ _)).trans (evalTrain_frame _ _)

theorem cooled_frame (i : Nat) (x : BedId) (s : State) : ByTrain s (cooled i x s) :=
  ((onTrain_frame _ _ _).trans (startTest_frame _ _)).trans (evalTrain_frame _ _)

/-! ### Requests and commit -/

theorem withTrain_frame (i : Nat) (s : State) (f : State → Reply) (h : ∀ t, ByTrain t (f t).state) :
    ByTrain s (withTrain i s f).state := by
  unfold withTrain; dsimp only; repeat' split
  · exact .refl _
  · exact useTrain_frame _ _
  · exact useTrain_frame _ _
  · exact (useTrain_frame _ _).trans (h _)

theorem holdTrain_frame (a : List Octet) (s : State) : ByTrain s (holdTrain a s).state :=
  withTrain_frame _ _ _ fun _ => onTrain_frame _ _ _

theorem resumeTrain_frame (a : List Octet) (s : State) : ByDrying s (resumeTrain a s).state := by
  unfold resumeTrain withTrain; dsimp only; repeat' split
  · exact .refl _
  · exact (useTrain_frame _ _).up
  · exact (useTrain_frame _ _).up
  · dsimp only
    exact (((useTrain_frame _ _).trans (onTrain_frame _ _ _)).up.trans (testAllHeating_frame _ _)).trans
      ((startTest_frame _ _).trans (evalTrain_frame _ _)).up

theorem forceSwitch_frame (a : List Octet) (s : State) : ByTrain s (forceSwitch a s).state := by
  refine withTrain_frame _ _ _ fun t => ?_
  split
  · exact .refl _
  · exact (raiseRequest_frame _ _).trans (evalTrain_frame _ _)

theorem returnBed_frame (a : List Octet) (s : State) : ByTrain s (returnBed a s).state := by
  unfold returnBed; dsimp only; split
  · exact .refl _
  · refine withTrain_frame _ _ _ fun t => ?_
    split
    · exact .refl _
    · exact (onTrain_frame _ _ _).trans (evalTrain_frame _ _)

theorem readDryer_frame (a : List Octet) (s : State) : ByTrain s (readDryer a s).state := by
  unfold readDryer; dsimp only; split
  · exact .refl _
  · exact useTrain_frame _ _

theorem passedExpiries_frame (i : Nat) (s : State) : ByDrying s (passedExpiries i s) := by
  unfold passedExpiries; dsimp only
  refine ByDrying.trans ?_ (.foldl (fun _ _ => .ite (cooled_frame _ _ _).up (.refl _)) _ _)
  refine ByDrying.trans ?_ (.foldl (fun _ _ => .ite (heatShort_frame _ _ _).up (.refl _)) _ _)
  refine ByDrying.trans ?_ (.foldl (fun _ _ => .ite (heatReached_frame _ _ _) (.refl _)) _ _)
  exact .ite (adsorbLimit_frame _ _).up (.refl _)

theorem dryersTakeEffect_frame (o : List DryerCfg) (w : Nat → Bool) (s : State) :
    ByDrying s (dryersTakeEffect o w s) := by
  unfold dryersTakeEffect; dsimp only
  refine ByDrying.trans (ByDrying.trans ?_ (evalTrain_frame _ _).up) (evalTrain_frame _ _).up
  refine ByDrying.trans (ByDrying.trans ?_ (passedExpiries_frame _ _)) (passedExpiries_frame _ _)
  refine ByDrying.trans (t := (List.range 2).foldl (fun s i =>
    if (o.getD i .blank).inUse && !keepsTrain (o.getD i .blank) (s.dryerCfg i) then
      withdrawAll (o.getD i .blank).unit s
    else s) (occur Src.tableCommitted noSubject s)) ?_ rfl
  exact (occur_frame _ _ s).up.up.trans (.foldl (fun _ _ => .ite (withdrawAll_frame _ _).up.up (.refl _)) _ _)

theorem dryReset_frame (s : State) : ByTrain s (dryReset s) := rfl

end Sys2Proof.Machine
end

