-- ==== Sys2Proof/Laws/Channels.lean ====
section
/-!
SUPPORT. What a use of a channel's entry can do, said once (R37): a sound or already marked entry changes nothing; one
found bad is marked, its pending item dropped, its waiting request withdrawn and its quality BAD with the values held.
-/

namespace Sys2Proof.Machine

/-- A use that finds nothing changes nothing. -/
theorem useChannel_of_sound {s : State} {ch : Nat} (h : s.foundBad .channels ch = false) : useChannel ch s = s := by
  simp [useChannel, h]

/-- A record of a state after an update of one channel. -/
theorem onChan_chan (f : ChannelState → ChannelState) (ch j : Nat) (s : State) :
    (s.onChan ch f).chan j = if ch = j ∧ j < s.chans.length then f (s.chan j) else s.chan j := by
  simp only [State.onChan, State.chan, List.getD_eq_getElem?_getD, List.getElem?_modify]
  cases hj : s.chans[j]? with
  | none => simp [Nat.not_lt.mpr (List.getElem?_eq_none_iff.mp hj)]
  | some c =>
    have hl : j < s.chans.length := (List.getElem?_eq_some_iff.mp hj).1
    by_cases e : ch = j <;> simp [e, hl]

/-- The record of a channel whose entry a use has found bad (R37). -/
def ChannelState.found (c : ChannelState) : ChannelState :=
  { c with quality := .bad, pendingItem := none, request := if c.request = .waiting then .none else c.request }

/-- A use of a channel's entry leaves every record but that of the channel whose entry it finds bad (R37). -/
theorem useChannel_chan (ch j : Nat) (s : State) :
    (useChannel ch s).chan j =
      if s.foundBad .channels ch = true ∧ ch = j ∧ j < s.chans.length then (s.chan j).found else s.chan j := by
  have counts (u : State) : (sweepCounts ch u).chans = u.chans := by
    unfold sweepCounts; dsimp only; split
    · exact (occurIf_frame _ _ _ _).chans
    · rfl
  have mark : (markEntry .channels ch ch s).chans = s.chans := (markEntry_frame ch ch s (by decide)).chans
  have drop (i : Nat) : (dropPending ch (markEntry .channels ch ch s)).chan i =
      if ch = i ∧ i < s.chans.length then { s.chan i with pendingItem := none } else s.chan i := by
    have h := onChan_chan (fun c => { c with pendingItem := none }) ch i (markEntry .channels ch ch s)
    rw [mark] at h
    rw [show dropPending ch (markEntry .channels ch ch s) = (markEntry .channels ch ch s).onChan ch
      (fun c => { c with pendingItem := none }) from rfl, h]
    simp only [State.chan, mark]
  have dlen : (dropPending ch (markEntry .channels ch ch s)).chans.length = s.chans.length := by
    simp [dropPending, State.onChan, mark]
  have wlen : (withdrawRequest ch (dropPending ch (markEntry .channels ch ch s))).chans.length = s.chans.length := by
    unfold withdrawRequest; split
    · rw [counts]; simp [State.onChan, dlen]
    · exact dlen
  have wd (i : Nat) : (withdrawRequest ch (dropPending ch (markEntry .channels ch ch s))).chan i =
      if ch = i ∧ i < s.chans.length then
        { s.chan i with
          pendingItem := none
          request := if (s.chan i).request = .waiting then .none else (s.chan i).request }
      else s.chan i := by
    unfold withdrawRequest
    split
    · rename_i hw
      have hr := hw
      rw [show ∀ u : State, (sweepCounts ch u).chan i = u.chan i from fun u => by simp only [State.chan, counts],
        onChan_chan, dlen, drop i]
      rw [drop ch] at hr
      by_cases e : ch = i ∧ i < s.chans.length
      · obtain ⟨rfl, l⟩ := e
        simp only [l, and_self, if_true] at hr ⊢
        simp [hr]
      · simp [e]
    · rename_i hw
      rw [drop i]
      rw [drop ch] at hw
      by_cases e : ch = i ∧ i < s.chans.length
      · obtain ⟨rfl, l⟩ := e
        simp only [l, and_self, if_true] at hw ⊢
        simp [hw]
      · simp [e]
  unfold useChannel
  by_cases hb : s.foundBad .channels ch = true
  · rw [if_pos hb, setBad, onChan_chan, wlen, wd j]
    by_cases e : ch = j ∧ j < s.chans.length
    · obtain ⟨rfl, l⟩ := e
      simp [l, hb, ChannelState.found]
    · simp [e]
  · simp [hb]

/-- A use of one channel leaves the record of every other. -/
theorem useChannel_other {ch j : Nat} (s : State) (h : ch ≠ j) : (useChannel ch s).chan j = s.chan j := by
  simp [useChannel_chan, h]

/-- A consumer reads another channel the same whether the check of an entry found something or not. -/
theorem useChannel_readChannel {ch j : Nat} (s : State) (h : ch ≠ j) :
    (useChannel ch s).readChannel j = s.readChannel j := by
  have t : (useChannel ch s).chCfg j = s.chCfg j := by unfold State.chCfg; rw [(useChannel_frame ch s).tables]
  unfold State.readChannel
  rw [t, useChannel_other s h]

theorem useChannels_readChannel {l : List Nat} {j : Nat} (s : State) (h : j ∉ l) :
    (useChannels l s).readChannel j = s.readChannel j := by
  induction l generalizing s with
  | nil => rfl
  | cons c l ih =>
    have h' : j ≠ c ∧ j ∉ l := by simpa using h
    exact (ih (useChannel c s) h'.2).trans (useChannel_readChannel s fun e => h'.1 e.symm)

/-- Consumers that read sound or marked entries change nothing. -/
theorem useChannels_of_sound {s : State} {l : List Nat} (h : ∀ c ∈ l, s.foundBad .channels c = false) :
    useChannels l s = s := by
  induction l generalizing s with
  | nil => rfl
  | cons c l ih =>
    have hc : useChannel c s = s := useChannel_of_sound (h c (by simp))
    exact (congrArg (useChannels l) hc).trans (ih fun d hd => h d (List.mem_cons_of_mem _ hd))

end Sys2Proof.Machine
end

