-- ==== Sys2Proof/Laws/Images.lean ====
section
/-!
SUPPORT. What the validations of table images test (spec/10 R202, R204): the checks of an octet, a range and a pair of
entries as propositions, the entry a table's decoding gives, and the answer of `firstOffending` from the test it makes of
each entry.
-/

namespace Sys2Proof.Machine

theorem codeOk_iff (bs : List Octet) (off n : Nat) : codeOk bs off (n + 1) = true ↔ fieldAt bs off 1 ≤ n := by
  unfold codeOk
  simp only [decide_eq_true_eq]
  omega

theorem within_iff (lo hi v : Nat) : within lo hi v = true ↔ lo ≤ v ∧ v ≤ hi := by
  unfold within
  simp only [Bool.and_eq_true, decide_eq_true_eq]

theorem anyOther_eq_false (n i : Nat) (p : Nat → Bool) : anyOther n i p = false ↔ ∀ j < n, j ≠ i → p j = false := by
  unfold anyOther
  simp

/-- Entry `i` of a decoded image is what its octets spell. -/
theorem getD_decodeEntries {α : Type} (t : TableId) (f : List Octet → α) (d : α) (image : List Octet) {i : Nat}
    (hi : i < entryCount t) : (decodeEntries t f image).getD i d = f (entryOctets t image i) := by
  simp [decodeEntries, List.getD, hi]

/-- A comparator of a CHANNELS entry (R31, R32). -/
theorem comparatorOk_iff (bs : List Octet) (off : Nat) (c : Comparator) : comparatorOk bs off c = true ↔
    fieldAt bs off 1 ≤ 4 ∧ c.hyst ≤ 2147483647 ∧ (c.mode = .inside ∨ c.mode = .outside → c.t1 ≤ c.t2) := by
  unfold comparatorOk
  simp only [Bool.and_eq_true, codeOk_iff, and_assoc, decide_eq_true_eq]
  refine and_congr Iff.rfl (and_congr Iff.rfl ?_)
  cases c.mode <;> simp

/-- A curve has its points in their ranges and its pressures rising (R63). -/
theorem curveOk_iff (c : List (Nat × Nat)) : curveOk c = true ↔
    (∀ p ∈ c, p.1 ≤ 30000000 ∧ 500000 ≤ p.2 ∧ p.2 ≤ 1200000) ∧
      ∀ k, k + 1 < c.length → (c.getD k (0, 0)).1 < (c.getD (k + 1) (0, 0)).1 := by
  unfold curveOk
  simp only [Bool.and_eq_true, List.all_eq_true, decide_eq_true_eq, within_iff]
  refine and_congr Iff.rfl ?_
  induction c with
  | nil => simp
  | cons a c ih =>
    cases c with
    | nil => simp
    | cons b c =>
      simp only [List.tail_cons, List.zip_cons_cons, List.mem_cons, forall_eq_or_imp] at ih ⊢
      rw [ih]
      constructor
      · rintro ⟨h1, h2⟩ k hk
        cases k with
        | zero => exact h1
        | succ k => exact h2 k (by simpa using hk)
      · intro h
        exact ⟨h 0 (by simp), fun k hk => h (k + 1) (by simpa using hk)⟩

/-- A table whose entry `i` offends exactly when `ok i` fails: its image is accepted when all are ok, and else the first
that is not is named (R204). -/
theorem firstOffending_spec {s : State} {t : TableId} {image : List Octet} {n : Nat} {p : Nat → Bool} {ok : Nat → Prop}
    (hf : firstOffending s t image = (List.range n).find? p) (h : ∀ i < n, p i = false ↔ ok i) :
    (firstOffending s t image = none ↔ ∀ i < n, ok i) ∧
      ∀ i, firstOffending s t image = some i ↔ i < n ∧ ¬ok i ∧ ∀ j < i, ok j := by
  rw [hf]
  refine ⟨?_, fun i => ?_⟩
  · rw [List.find?_eq_none]
    constructor
    · intro a i hi
      exact (h i hi).1 (by simpa using a i (by simpa using hi))
    · intro a i hi
      have := (h i (by simpa using hi)).2 (a i (by simpa using hi))
      simp [this]
  · rw [List.find?_range_eq_some]
    constructor
    · rintro ⟨a, b, c⟩
      have hi : i < n := by simpa using b
      exact ⟨hi, fun q => (by rw [(h i hi).2 q] at a; cases a), fun j hj => (h j (by omega)).1 (by simpa using c j hj)⟩
    · rintro ⟨a, b, c⟩
      refine ⟨?_, by simpa using a, fun j hj => by rw [(h j (by omega)).2 (c j hj)]; rfl⟩
      by_contra q
      exact b ((h i a).1 (by simpa using q))

end Sys2Proof.Machine
end

