-- ==== Sys2Proof/Laws/Ops.lean ====
section
/-!
SUPPORT. What each shared operation can do, said once: octet strings, rounding, timers, entry checks of tables, the
alert queue and its occurrences, the own-command queue, and the answer to a request.
-/

namespace Sys2Proof.Machine

/-! ### Octet strings -/

@[simp] theorem be_length (n v : Nat) : (be n v).length = n := by
  induction n with
  | zero => rfl
  | succ n ih => simp [be, ih]

theorem foldl_be (n v a : Nat) :
    (be n v).foldl (fun acc b => acc * 256 + b.toNat) a = a * 256 ^ n + v % 256 ^ n := by
  induction n generalizing a with
  | zero => simp [be, Nat.mod_one]
  | succ n ih =>
    simp only [be, List.foldl_cons, ih, BitVec.toNat_ofNat]
    have h : v % 256 ^ (n + 1) = v / 256 ^ n % 256 * 256 ^ n + v % 256 ^ n := by
      rw [Nat.pow_succ, Nat.mod_mul, Nat.mul_comm (v / 256 ^ n % 256)]
      omega
    rw [h, show (2 : Nat) ^ 8 = 256 from rfl, Nat.pow_succ, Nat.add_mul, Nat.mul_assoc, Nat.mul_comm 256]
    omega

/-- A number within `n` octets is read back from them (R213). -/
theorem ofBe_be (n v : Nat) (h : v < 256 ^ n) : ofBe (be n v) = v := by
  simp [ofBe, foldl_be, Nat.mod_eq_of_lt h]

/-! ### Numbers -/

/-- The next boundary lies above the time, at most one interval away, on a multiple of it (R85). -/
theorem leastMultipleAbove_spec (t : Nat) {step : Nat} (h : 0 < step) :
    t < leastMultipleAbove t step ∧ leastMultipleAbove t step ≤ t + step ∧ step ∣ leastMultipleAbove t step := by
  have h1 := Nat.div_add_mod t step
  have h2 := Nat.mod_lt t h
  have h3 : (t / step + 1) * step = step * (t / step) + step := by
    rw [Nat.add_mul, Nat.mul_comm, Nat.one_mul]
  unfold leastMultipleAbove
  refine ⟨?_, ?_, Nat.dvd_mul_left _ _⟩ <;> omega

/-- A value held to a range lies in it, and one within the range is kept. -/
theorem clampInt_spec {lo hi : Int} (v : Int) (h : lo ≤ hi) :
    lo ≤ clampInt lo hi v ∧ clampInt lo hi v ≤ hi ∧ (lo ≤ v → v ≤ hi → clampInt lo hi v = v) := by
  unfold clampInt
  refine ⟨?_, ?_, ?_⟩ <;> (repeat' split) <;> omega

/-! ### Timers -/

theorem fires_iff (now : Nat) (t : Option Nat) : fires now t = true ↔ ∃ e, t = some e ∧ e ≤ now := by
  cases t <;> simp [fires]

/-- A timer that was just started does not run out at once. -/
theorem fires_startTimer (now dur : Nat) : fires now (startTimer now dur) = false := by
  unfold startTimer
  split
  · rfl
  · simp [fires]; omega

/-! ### Entry checks of tables (R208) -/

theorem Parity.get_put (p : Parity) (t u : TableId) (l : List EntryParity) :
    (p.put t l).get u = if t = u then l else p.get u := by
  cases t <;> cases u <;> rfl

theorem Committed.get_put (c : Committed) (t u : TableId) (i : Option StoredImage) :
    (c.put t i).get u = if t = u then i else c.get u := by
  cases t <;> cases u <;> rfl

/-- A mark is set on the entry found bad and on no other; a marked entry is not found bad again. -/
theorem setMark_spec (s : State) (t u : TableId) (i j : Nat) (h : i < (s.parity.get t).length) :
    (s.setMark t i).marked u j = (s.marked u j || (decide (t = u) && decide (i = j))) ∧
    (s.setMark t i).foundBad u j = (s.foundBad u j && !(decide (t = u) && decide (i = j))) := by
  unfold State.marked State.foundBad State.setMark
  by_cases ht : t = u
  · subst ht
    by_cases hi : i = j
    · subst hi
      simp [Parity.get_put, h]
    · simp [Parity.get_put, hi]
  · simp [Parity.get_put, ht]

/-- Taking effect of an image removes every mark of its table and leaves every entry sound. -/
theorem clearMarks_spec (s : State) (t u : TableId) (j : Nat) :
    (s.clearMarks t).marked u j = (s.marked u j && !decide (t = u)) ∧
    (s.clearMarks t).foundBad u j = (s.foundBad u j && !decide (t = u)) := by
  unfold State.marked State.foundBad State.clearMarks
  by_cases ht : t = u
  · subst ht
    simp only [Parity.get_put, if_true, List.getD_eq_getElem?_getD, List.getElem?_map, decide_true, Bool.not_true,
      Bool.and_false]
    cases (s.parity.get t)[j]? <;> simp [EntryParity.sound]
  · simp [Parity.get_put, ht]

/-! ### The alert queue (R188, R189) -/

/-- A record joins at one place, every entry kept. -/
theorem joinAlert_eq (a : Alert) (l : List Alert) : ∃ x y, l = x ++ y ∧ joinAlert a l = x ++ a :: y := by
  induction l with
  | nil => exact ⟨[], [], rfl, rfl⟩
  | cons b l ih =>
    unfold joinAlert
    split
    · exact ⟨[], b :: l, rfl, rfl⟩
    · obtain ⟨x, y, h1, h2⟩ := ih
      exact ⟨b :: x, y, by rw [h1]; rfl, by rw [h2]; rfl⟩

@[simp] theorem joinAlert_length (a : Alert) (l : List Alert) : (joinAlert a l).length = l.length + 1 := by
  obtain ⟨x, y, h1, h2⟩ := joinAlert_eq a l
  rw [h2, h1]; simp; omega

@[simp] theorem mem_joinAlert (a b : Alert) (l : List Alert) : b ∈ joinAlert a l ↔ b = a ∨ b ∈ l := by
  obtain ⟨x, y, h1, h2⟩ := joinAlert_eq a l
  rw [h2, h1]; simp; tauto

/-- An update in place keeps the queue's sources and priorities, place by place. -/
@[simp] theorem updateAlert_length (n c : Nat) (b : Octet) (t : Nat) (u : Bool) (l : List Alert) :
    (updateAlert n c b t u l).length = l.length := by simp [updateAlert]

@[simp] theorem updateAlert_sources (n c : Nat) (b : Octet) (t : Nat) (u : Bool) (l : List Alert) :
    (updateAlert n c b t u l).map (·.source) = l.map (·.source) := by
  simp only [updateAlert, List.map_map]
  exact List.map_congr_left fun a _ => by simp only [Function.comp]; split <;> rfl

@[simp] theorem updateAlert_priorities (n c : Nat) (b : Octet) (t : Nat) (u : Bool) (l : List Alert) :
    (updateAlert n c b t u l).map (·.priority) = l.map (·.priority) := by
  simp only [updateAlert, List.map_map]
  exact List.map_congr_left fun a _ => by simp only [Function.comp]; split <;> rfl

/-! ### Occurrences (R185, R187) -/

@[simp] theorem occurPlain_recs (n b : Nat) (s : State) :
    (occurPlain n b s).ev.recs = s.ev.recs.set n ⟨true, min 255 ((s.source n).count + 1), BitVec.ofNat 8 b⟩ := rfl

@[simp] theorem occurPlain_parity (n b : Nat) (s : State) : (occurPlain n b s).parity = s.parity := rfl

/-- A latched source is latched by plain occurrences alone, after the parity mark of its EVENTS entry where the check
finds that entry bad: its own one, and those of TABLE_PARITY that the finding raises. -/
theorem occur_cases (n b : Nat) (s : State) :
    (s.foundBad .events n = false ∧ occur n b s = occurPlain n b s) ∨
    (s.foundBad .events n = true ∧ n = Src.tableParity ∧
      occur n b s = occurPlain n b (occurPlain n n (s.setMark .events n))) ∨
    (s.foundBad .events n = true ∧ n ≠ Src.tableParity ∧
      occur n b s = occurPlain n b (occurParity n (s.setMark .events n))) := by
  unfold occur
  by_cases h : n = Src.tableParity
  · subst h
    unfold occurParity
    cases hf : s.foundBad .events Src.tableParity <;> simp
  · cases hf : s.foundBad .events n <;> simp [h]

/-- An occurrence writes event records, alert queue and parity marks alone. -/
theorem occur_only (n b : Nat) (s : State) :
    occur n b s = { s with parity := (occur n b s).parity, ev := (occur n b s).ev } := by
  rcases occur_cases n b s with ⟨-, h⟩ | ⟨-, -, h⟩ | ⟨-, -, h⟩ <;> rw [h]
  · rfl
  · rfl
  · unfold occurParity; split <;> rfl

/-- An occurrence marks no entry but of the EVENTS table, and finds none of another table bad or sound. -/
theorem occur_parity (n b : Nat) (s : State) {t : TableId} (h : t ≠ .events) :
    (occur n b s).parity.get t = s.parity.get t := by
  have k : ∀ (i : Nat) (s : State), (s.setMark .events i).parity.get t = s.parity.get t := fun i s => by
    unfold State.setMark
    rw [Parity.get_put, if_neg h.symm]
  rcases occur_cases n b s with ⟨-, h⟩ | ⟨-, -, h⟩ | ⟨-, -, h⟩ <;> rw [h]
  · rfl
  · exact k n s
  · unfold occurParity
    split
    · exact (k _ _).trans (k n s)
    · exact k n s

/-- A finding is the mark and an occurrence of TABLE_PARITY (R208). -/
theorem markEntry_eq_occur (t : TableId) (i b : Nat) (s : State) :
    markEntry t i b s = occur Src.tableParity b (s.setMark t i) := by
  unfold markEntry occur
  rw [if_pos rfl]

/-- An entry found bad, of any table but EVENTS, gets its mark, and no other entry of such a table changes. -/
theorem markEntry_spec (s : State) {t u : TableId} (i j b : Nat) (h : s.foundBad t i = true) (hu : u ≠ .events) :
    (markEntry t i b s).marked u j = (s.marked u j || (decide (t = u) && decide (i = j))) ∧
    (markEntry t i b s).foundBad u j = (s.foundBad u j && !(decide (t = u) && decide (i = j))) := by
  have hi : i < (s.parity.get t).length := by
    refine Nat.lt_of_not_le fun hn => ?_
    unfold State.foundBad at h
    rw [List.getD_eq_default _ _ hn] at h
    exact absurd h (by decide)
  have k := setMark_spec s t u i j hi
  rw [markEntry_eq_occur]
  have hp := occur_parity Src.tableParity b (s.setMark t i) hu
  unfold State.marked State.foundBad at k ⊢
  rwa [hp]

/-! ### Own commands (R12, R13) -/

/-- An offer that is taken replaces the unsent entry of its target and sort in place, or joins the tail. -/
theorem offerOwn_cases (e : Nat) (c : Command) (s : State) :
    (s.present e = false ∧ offerOwn e c s = s) ∨
    (s.present e = true ∧ s.own.any (OwnEntry.isFor e c.sort) = true ∧ offerOwn e c s =
      { s with own := s.own.map fun x => if x.isFor e c.sort then { x with command := c } else x }) ∨
    (s.present e = true ∧ s.own.any (OwnEntry.isFor e c.sort) = false ∧
      offerOwn e c s = { s with own := s.own ++ [⟨e, c.sort, c⟩] }) := by
  unfold offerOwn State.accepts joinOwn
  cases hp : s.present e
  · simp
  · cases ha : s.own.any (OwnEntry.isFor e c.sort) <;> simp

/-- No target and sort enters the queue but those of the offer. -/
theorem mem_joinOwn {e : Nat} {c : Command} {q : List OwnEntry} {x : OwnEntry} (h : x ∈ joinOwn e c q) :
    x ∈ q ∨ (x.target = e ∧ x.command = c) := by
  unfold joinOwn at h
  split at h
  · obtain ⟨y, hy, rfl⟩ := List.mem_map.mp h
    split
    · rename_i hf
      simp only [OwnEntry.isFor, Bool.and_eq_true, decide_eq_true_eq] at hf
      exact .inr ⟨hf.1, rfl⟩
    · exact .inl hy
  · rcases List.mem_append.mp h with h | h
    · exact .inl h
    · rw [List.mem_singleton] at h; subst h; exact .inr ⟨rfl, rfl⟩

@[simp] theorem mem_withdrawOwn (e : Nat) (p : Command → Bool) (s : State) (x : OwnEntry) :
    x ∈ (withdrawOwn e p s).own ↔ x ∈ s.own ∧ ¬(x.target = e ∧ p x.command = true) := by
  simp [withdrawOwn, imp_iff_not_or]

/-! ### Requests and answers (R15, R196, R197) -/

/-- One request enters service, or none does. -/
theorem enterService_cases (s : State) :
    ((s.mgmt.service ≠ none ∨ s.mgmt.waiting = []) ∧ enterService s = s) ∨
    ∃ q rest, s.mgmt.service = none ∧ s.mgmt.waiting = q :: rest ∧
      enterService s = { s with mgmt := { s.mgmt with service := some (.taken q), waiting := rest } } := by
  unfold enterService
  cases hs : s.mgmt.service with
  | some v => exact .inl ⟨.inl (by simp), by cases s.mgmt.waiting <;> rfl⟩
  | none =>
    cases hw : s.mgmt.waiting with
    | nil => exact .inl ⟨.inr rfl, rfl⟩
    | cons q rest => exact .inr ⟨q, rest, rfl, rfl, rfl⟩

/-- The next request waiting, if there is one, is in service in place of the one that has left it. -/
theorem leaveService_eq (s : State) : leaveService s =
    { s with mgmt := { s.mgmt with waiting := s.mgmt.waiting.tail, service := s.mgmt.waiting.head?.map .taken } } := by
  obtain ⟨⟩ := s
  rename_i mgmt _ _ _
  obtain ⟨waiting, _, _, _⟩ := mgmt
  cases waiting <;> rfl

/-- A response joins the queue and its request leaves service, or it is held in service while the queue is full. -/
theorem offerResponse_cases (r : Response) (s : State) :
    (s.resp.length < 2 ∧ offerResponse r s = leaveService { s with resp := s.resp ++ [r] }) ∨
    (2 ≤ s.resp.length ∧ offerResponse r s = { s with mgmt := { s.mgmt with service := some (.holding r) } }) := by
  unfold offerResponse State.respRoom
  by_cases h : s.resp.length < 2
  · exact .inl ⟨h, by simp [h]⟩
  · exact .inr ⟨Nat.le_of_not_lt h, by simp [h]⟩

/-- An answer changes the response queue and the requests in service and waiting, and nothing else. -/
theorem answerRequest_frame (q : Request) (st : Status) (r : List Octet) (s : State) :
    answerRequest q st r s = { s with
      resp := (answerRequest q st r s).resp
      mgmt := { s.mgmt with
        waiting := (answerRequest q st r s).mgmt.waiting
        service := (answerRequest q st r s).mgmt.service } } := by
  unfold answerRequest
  split
  · rw [leaveService_eq]
  · rcases offerResponse_cases (responseTo q st r) s with ⟨-, h⟩ | ⟨-, h⟩ <;> rw [h]
    rw [leaveService_eq]

/-- A response held in service is offered again, and nothing else happens. -/
theorem reoffer_cases (s : State) :
    ((∀ r, s.mgmt.service ≠ some (.holding r)) ∧ reoffer s = s) ∨
    ∃ r, s.mgmt.service = some (.holding r) ∧ reoffer s = offerResponse r s := by
  unfold reoffer
  cases h : s.mgmt.service with
  | none => exact .inl ⟨by simp, rfl⟩
  | some v =>
    cases v with
    | holding r => exact .inr ⟨r, rfl, rfl⟩
    | committing q => exact .inl ⟨by simp, rfl⟩
    | taken q => exact .inl ⟨by simp, rfl⟩

end Sys2Proof.Machine
end

