-- ==== Sys2Proof/Laws/PerInstr.lean ====
section
/-!
SUPPORT. Two facts about the commands as syntax, one lemma per constructor each: a command is well formed exactly when
every numbered thing it names is one the part has (spec/00, "Capacities"), and a request's code is one of R215.
-/

namespace Sys2Proof

/-- The number a command names with the number of such things in the part, if it names one. -/
def Laws.named : Instr → Option (Nat × Nat)
  | .silenceTimeout i => some (i, 48)
  | .intervalTimerExpiry i => some (i, 64)
  | .custodyConditioningDone i => some (i, 64)
  | .ageTimerExpiry i => some (i, 64)
  | .refStaleTimerExpiry i => some (i, 8)
  | .startConfirmExpiry i => some (i, 6)
  | .minimumRunExpiry i => some (i, 6)
  | .stopConfirmExpiry i => some (i, 6)
  | .cooldownExpiry i => some (i, 6)
  | .startMarkAgeout i => some (i, 6)
  | .adsorbLimitExpiry i => some (i, 2)
  | .openingValveTimeout i => some (i, 2)
  | .releasingValveTimeout i => some (i, 2)
  | .heatTimeReached i _ => some (i, 2)
  | .heatShort i _ => some (i, 2)
  | .coolTimerExpiry i _ => some (i, 2)
  | _ => none

/-- The command is well formed exactly when the number it names is below its bound. -/
def Laws.OperandRange.Statement (i : Instr) : Prop := i.wellFormed = true ↔ ∀ p ∈ Laws.named i, p.1 < p.2

/-- A request's code is one of the codes of R215. -/
def Laws.RequestCode.Statement (i : Instr) : Prop := ∀ code, i.requestCode = some code → Machine.knownRequests.contains code = true

theorem Laws.OperandRange.of_none {i : Instr} (h : i.wellFormed = true) (k : Laws.named i = none) :
    Laws.OperandRange.Statement i := by
  simp [Laws.OperandRange.Statement, h, k]

theorem Laws.OperandRange.of_named {i : Instr} {n m : Nat} (h : i.wellFormed = decide (n < m))
    (k : Laws.named i = some (n, m)) : Laws.OperandRange.Statement i := by
  simp [Laws.OperandRange.Statement, h, k]

theorem Laws.RequestCode.of_none {i : Instr} (h : i.requestCode = none) : Laws.RequestCode.Statement i := by
  simp [Laws.RequestCode.Statement, h]

theorem Laws.RequestCode.of_some {i : Instr} {code : Octet} (h : i.requestCode = some code)
    (k : Machine.knownRequests.contains code = true) : Laws.RequestCode.Statement i := by
  intro c hc
  rw [h] at hc
  cases hc
  exact k

theorem Laws.OperandRange.powerOnReset : Laws.OperandRange.Statement .powerOnReset := Laws.OperandRange.of_none rfl rfl

theorem Laws.OperandRange.custodyLineChange (asserted : Bool) : Laws.OperandRange.Statement (.custodyLineChange asserted) := Laws.OperandRange.of_none rfl rfl

theorem Laws.OperandRange.frameArrivalPortF (run : LineRun) : Laws.OperandRange.Statement (.frameArrivalPortF run) := Laws.OperandRange.of_none rfl rfl

theorem Laws.OperandRange.frameArrivalPortS (run : LineRun) : Laws.OperandRange.Statement (.frameArrivalPortS run) := Laws.OperandRange.of_none rfl rfl

theorem Laws.OperandRange.portSSelect : Laws.OperandRange.Statement .portSSelect := Laws.OperandRange.of_none rfl rfl

theorem Laws.OperandRange.portSTransmitEnd : Laws.OperandRange.Statement .portSTransmitEnd := Laws.OperandRange.of_none rfl rfl

theorem Laws.OperandRange.portFSelect : Laws.OperandRange.Statement .portFSelect := Laws.OperandRange.of_none rfl rfl

theorem Laws.OperandRange.portFTransmitEnd : Laws.OperandRange.Statement .portFTransmitEnd := Laws.OperandRange.of_none rfl rfl

theorem Laws.OperandRange.silenceTimeout (entry : Nat) : Laws.OperandRange.Statement (.silenceTimeout entry) := Laws.OperandRange.of_named rfl rfl

theorem Laws.OperandRange.releaseUnit : Laws.OperandRange.Statement .releaseUnit := Laws.OperandRange.of_none rfl rfl

theorem Laws.OperandRange.readUnit : Laws.OperandRange.Statement .readUnit := Laws.OperandRange.of_none rfl rfl

theorem Laws.OperandRange.intervalTimerExpiry (channel : Nat) : Laws.OperandRange.Statement (.intervalTimerExpiry channel) := Laws.OperandRange.of_named rfl rfl

theorem Laws.OperandRange.custodyConditioningDone (channel : Nat) : Laws.OperandRange.Statement (.custodyConditioningDone channel) := Laws.OperandRange.of_named rfl rfl

theorem Laws.OperandRange.engineSelect : Laws.OperandRange.Statement .engineSelect := Laws.OperandRange.of_none rfl rfl

theorem Laws.OperandRange.engineConditioningDone : Laws.OperandRange.Statement .engineConditioningDone := Laws.OperandRange.of_none rfl rfl

theorem Laws.OperandRange.ageTimerExpiry (channel : Nat) : Laws.OperandRange.Statement (.ageTimerExpiry channel) := Laws.OperandRange.of_named rfl rfl

theorem Laws.OperandRange.sweepPeriodExpiry : Laws.OperandRange.Statement .sweepPeriodExpiry := Laws.OperandRange.of_none rfl rfl

theorem Laws.OperandRange.sweep : Laws.OperandRange.Statement .sweep := Laws.OperandRange.of_none rfl rfl

theorem Laws.OperandRange.readChannel : Laws.OperandRange.Statement .readChannel := Laws.OperandRange.of_none rfl rfl

theorem Laws.OperandRange.readPeaks : Laws.OperandRange.Statement .readPeaks := Laws.OperandRange.of_none rfl rfl

theorem Laws.OperandRange.refStaleTimerExpiry (run : Nat) : Laws.OperandRange.Statement (.refStaleTimerExpiry run) := Laws.OperandRange.of_named rfl rfl

theorem Laws.OperandRange.readRun : Laws.OperandRange.Statement .readRun := Laws.OperandRange.of_none rfl rfl

theorem Laws.OperandRange.boundary : Laws.OperandRange.Statement .boundary := Laws.OperandRange.of_none rfl rfl

theorem Laws.OperandRange.timeWrap : Laws.OperandRange.Statement .timeWrap := Laws.OperandRange.of_none rfl rfl

theorem Laws.OperandRange.setTime : Laws.OperandRange.Statement .setTime := Laws.OperandRange.of_none rfl rfl

theorem Laws.OperandRange.setMode : Laws.OperandRange.Statement .setMode := Laws.OperandRange.of_none rfl rfl

theorem Laws.OperandRange.lineupTimerExpiry : Laws.OperandRange.Statement .lineupTimerExpiry := Laws.OperandRange.of_none rfl rfl

theorem Laws.OperandRange.rundownTimerExpiry : Laws.OperandRange.Statement .rundownTimerExpiry := Laws.OperandRange.of_none rfl rfl

theorem Laws.OperandRange.quietDwellExpiry : Laws.OperandRange.Statement .quietDwellExpiry := Laws.OperandRange.of_none rfl rfl

theorem Laws.OperandRange.readStatus : Laws.OperandRange.Statement .readStatus := Laws.OperandRange.of_none rfl rfl

theorem Laws.OperandRange.startConfirmExpiry (compressor : Nat) : Laws.OperandRange.Statement (.startConfirmExpiry compressor) := Laws.OperandRange.of_named rfl rfl

theorem Laws.OperandRange.minimumRunExpiry (compressor : Nat) : Laws.OperandRange.Statement (.minimumRunExpiry compressor) := Laws.OperandRange.of_named rfl rfl

theorem Laws.OperandRange.stopConfirmExpiry (compressor : Nat) : Laws.OperandRange.Statement (.stopConfirmExpiry compressor) := Laws.OperandRange.of_named rfl rfl

theorem Laws.OperandRange.cooldownExpiry (compressor : Nat) : Laws.OperandRange.Statement (.cooldownExpiry compressor) := Laws.OperandRange.of_named rfl rfl

theorem Laws.OperandRange.startMarkAgeout (compressor : Nat) : Laws.OperandRange.Statement (.startMarkAgeout compressor) := Laws.OperandRange.of_named rfl rfl

theorem Laws.OperandRange.resetUnit : Laws.OperandRange.Statement .resetUnit := Laws.OperandRange.of_none rfl rfl

theorem Laws.OperandRange.setUnitAuto : Laws.OperandRange.Statement .setUnitAuto := Laws.OperandRange.of_none rfl rfl

theorem Laws.OperandRange.setUnitManual : Laws.OperandRange.Statement .setUnitManual := Laws.OperandRange.of_none rfl rfl

theorem Laws.OperandRange.rotate : Laws.OperandRange.Statement .rotate := Laws.OperandRange.of_none rfl rfl

theorem Laws.OperandRange.readCompressor : Laws.OperandRange.Statement .readCompressor := Laws.OperandRange.of_none rfl rfl

theorem Laws.OperandRange.adsorbLimitExpiry (train : Nat) : Laws.OperandRange.Statement (.adsorbLimitExpiry train) := Laws.OperandRange.of_named rfl rfl

theorem Laws.OperandRange.openingValveTimeout (train : Nat) : Laws.OperandRange.Statement (.openingValveTimeout train) := Laws.OperandRange.of_named rfl rfl

theorem Laws.OperandRange.releasingValveTimeout (train : Nat) : Laws.OperandRange.Statement (.releasingValveTimeout train) := Laws.OperandRange.of_named rfl rfl

theorem Laws.OperandRange.heatTimeReached (train : Nat) (bed : BedId) : Laws.OperandRange.Statement (.heatTimeReached train bed) := Laws.OperandRange.of_named rfl rfl

theorem Laws.OperandRange.heatShort (train : Nat) (bed : BedId) : Laws.OperandRange.Statement (.heatShort train bed) := Laws.OperandRange.of_named rfl rfl

theorem Laws.OperandRange.coolTimerExpiry (train : Nat) (bed : BedId) : Laws.OperandRange.Statement (.coolTimerExpiry train bed) := Laws.OperandRange.of_named rfl rfl

theorem Laws.OperandRange.holdTrain : Laws.OperandRange.Statement .holdTrain := Laws.OperandRange.of_none rfl rfl

theorem Laws.OperandRange.resumeTrain : Laws.OperandRange.Statement .resumeTrain := Laws.OperandRange.of_none rfl rfl

theorem Laws.OperandRange.forceSwitch : Laws.OperandRange.Statement .forceSwitch := Laws.OperandRange.of_none rfl rfl

theorem Laws.OperandRange.returnBed : Laws.OperandRange.Statement .returnBed := Laws.OperandRange.of_none rfl rfl

theorem Laws.OperandRange.readDryer : Laws.OperandRange.Statement .readDryer := Laws.OperandRange.of_none rfl rfl

theorem Laws.OperandRange.nominate : Laws.OperandRange.Statement .nominate := Laws.OperandRange.of_none rfl rfl

theorem Laws.OperandRange.closeComplete : Laws.OperandRange.Statement .closeComplete := Laws.OperandRange.of_none rfl rfl

theorem Laws.OperandRange.transfer : Laws.OperandRange.Statement .transfer := Laws.OperandRange.of_none rfl rfl

theorem Laws.OperandRange.readShipper : Laws.OperandRange.Statement .readShipper := Laws.OperandRange.of_none rfl rfl

theorem Laws.OperandRange.readClose : Laws.OperandRange.Statement .readClose := Laws.OperandRange.of_none rfl rfl

theorem Laws.OperandRange.clearEvents : Laws.OperandRange.Statement .clearEvents := Laws.OperandRange.of_none rfl rfl

theorem Laws.OperandRange.forceEvent : Laws.OperandRange.Statement .forceEvent := Laws.OperandRange.of_none rfl rfl

theorem Laws.OperandRange.readEvents : Laws.OperandRange.Statement .readEvents := Laws.OperandRange.of_none rfl rfl

theorem Laws.OperandRange.readTable : Laws.OperandRange.Statement .readTable := Laws.OperandRange.of_none rfl rfl

theorem Laws.OperandRange.restart : Laws.OperandRange.Statement .restart := Laws.OperandRange.of_none rfl rfl

theorem Laws.OperandRange.unknownRequest : Laws.OperandRange.Statement .unknownRequest := Laws.OperandRange.of_none rfl rfl

theorem Laws.OperandRange.loadBegin : Laws.OperandRange.Statement .loadBegin := Laws.OperandRange.of_none rfl rfl

theorem Laws.OperandRange.loadData : Laws.OperandRange.Statement .loadData := Laws.OperandRange.of_none rfl rfl

theorem Laws.OperandRange.loadAbort : Laws.OperandRange.Statement .loadAbort := Laws.OperandRange.of_none rfl rfl

theorem Laws.OperandRange.loadCommit : Laws.OperandRange.Statement .loadCommit := Laws.OperandRange.of_none rfl rfl

theorem Laws.OperandRange.commitComplete : Laws.OperandRange.Statement .commitComplete := Laws.OperandRange.of_none rfl rfl

theorem Laws.OperandRange.abortDelimiter (abort : LineAbort) : Laws.OperandRange.Statement (.abortDelimiter abort) := Laws.OperandRange.of_none rfl rfl

theorem Laws.OperandRange.commitRefused : Laws.OperandRange.Statement .commitRefused := Laws.OperandRange.of_none rfl rfl

theorem Laws.RequestCode.powerOnReset : Laws.RequestCode.Statement .powerOnReset := Laws.RequestCode.of_none rfl

theorem Laws.RequestCode.custodyLineChange (asserted : Bool) : Laws.RequestCode.Statement (.custodyLineChange asserted) := Laws.RequestCode.of_none rfl

theorem Laws.RequestCode.frameArrivalPortF (run : LineRun) : Laws.RequestCode.Statement (.frameArrivalPortF run) := Laws.RequestCode.of_none rfl

theorem Laws.RequestCode.frameArrivalPortS (run : LineRun) : Laws.RequestCode.Statement (.frameArrivalPortS run) := Laws.RequestCode.of_none rfl

theorem Laws.RequestCode.portSSelect : Laws.RequestCode.Statement .portSSelect := Laws.RequestCode.of_none rfl

theorem Laws.RequestCode.portSTransmitEnd : Laws.RequestCode.Statement .portSTransmitEnd := Laws.RequestCode.of_none rfl

theorem Laws.RequestCode.portFSelect : Laws.RequestCode.Statement .portFSelect := Laws.RequestCode.of_none rfl

theorem Laws.RequestCode.portFTransmitEnd : Laws.RequestCode.Statement .portFTransmitEnd := Laws.RequestCode.of_none rfl

theorem Laws.RequestCode.silenceTimeout (entry : Nat) : Laws.RequestCode.Statement (.silenceTimeout entry) := Laws.RequestCode.of_none rfl

theorem Laws.RequestCode.releaseUnit : Laws.RequestCode.Statement .releaseUnit := Laws.RequestCode.of_some rfl rfl

theorem Laws.RequestCode.readUnit : Laws.RequestCode.Statement .readUnit := Laws.RequestCode.of_some rfl rfl

theorem Laws.RequestCode.intervalTimerExpiry (channel : Nat) : Laws.RequestCode.Statement (.intervalTimerExpiry channel) := Laws.RequestCode.of_none rfl

theorem Laws.RequestCode.custodyConditioningDone (channel : Nat) : Laws.RequestCode.Statement (.custodyConditioningDone channel) := Laws.RequestCode.of_none rfl

theorem Laws.RequestCode.engineSelect : Laws.RequestCode.Statement .engineSelect := Laws.RequestCode.of_none rfl

theorem Laws.RequestCode.engineConditioningDone : Laws.RequestCode.Statement .engineConditioningDone := Laws.RequestCode.of_none rfl

theorem Laws.RequestCode.ageTimerExpiry (channel : Nat) : Laws.RequestCode.Statement (.ageTimerExpiry channel) := Laws.RequestCode.of_none rfl

theorem Laws.RequestCode.sweepPeriodExpiry : Laws.RequestCode.Statement .sweepPeriodExpiry := Laws.RequestCode.of_none rfl

theorem Laws.RequestCode.sweep : Laws.RequestCode.Statement .sweep := Laws.RequestCode.of_some rfl rfl

theorem Laws.RequestCode.readChannel : Laws.RequestCode.Statement .readChannel := Laws.RequestCode.of_some rfl rfl

theorem Laws.RequestCode.readPeaks : Laws.RequestCode.Statement .readPeaks := Laws.RequestCode.of_some rfl rfl

theorem Laws.RequestCode.refStaleTimerExpiry (run : Nat) : Laws.RequestCode.Statement (.refStaleTimerExpiry run) := Laws.RequestCode.of_none rfl

theorem Laws.RequestCode.readRun : Laws.RequestCode.Statement .readRun := Laws.RequestCode.of_some rfl rfl

theorem Laws.RequestCode.boundary : Laws.RequestCode.Statement .boundary := Laws.RequestCode.of_none rfl

theorem Laws.RequestCode.timeWrap : Laws.RequestCode.Statement .timeWrap := Laws.RequestCode.of_none rfl

theorem Laws.RequestCode.setTime : Laws.RequestCode.Statement .setTime := Laws.RequestCode.of_some rfl rfl

theorem Laws.RequestCode.setMode : Laws.RequestCode.Statement .setMode := Laws.RequestCode.of_some rfl rfl

theorem Laws.RequestCode.lineupTimerExpiry : Laws.RequestCode.Statement .lineupTimerExpiry := Laws.RequestCode.of_none rfl

theorem Laws.RequestCode.rundownTimerExpiry : Laws.RequestCode.Statement .rundownTimerExpiry := Laws.RequestCode.of_none rfl

theorem Laws.RequestCode.quietDwellExpiry : Laws.RequestCode.Statement .quietDwellExpiry := Laws.RequestCode.of_none rfl

theorem Laws.RequestCode.readStatus : Laws.RequestCode.Statement .readStatus := Laws.RequestCode.of_some rfl rfl

theorem Laws.RequestCode.startConfirmExpiry (compressor : Nat) : Laws.RequestCode.Statement (.startConfirmExpiry compressor) := Laws.RequestCode.of_none rfl

theorem Laws.RequestCode.minimumRunExpiry (compressor : Nat) : Laws.RequestCode.Statement (.minimumRunExpiry compressor) := Laws.RequestCode.of_none rfl

theorem Laws.RequestCode.stopConfirmExpiry (compressor : Nat) : Laws.RequestCode.Statement (.stopConfirmExpiry compressor) := Laws.RequestCode.of_none rfl

theorem Laws.RequestCode.cooldownExpiry (compressor : Nat) : Laws.RequestCode.Statement (.cooldownExpiry compressor) := Laws.RequestCode.of_none rfl

theorem Laws.RequestCode.startMarkAgeout (compressor : Nat) : Laws.RequestCode.Statement (.startMarkAgeout compressor) := Laws.RequestCode.of_none rfl

theorem Laws.RequestCode.resetUnit : Laws.RequestCode.Statement .resetUnit := Laws.RequestCode.of_some rfl rfl

theorem Laws.RequestCode.setUnitAuto : Laws.RequestCode.Statement .setUnitAuto := Laws.RequestCode.of_some rfl rfl

theorem Laws.RequestCode.setUnitManual : Laws.RequestCode.Statement .setUnitManual := Laws.RequestCode.of_some rfl rfl

theorem Laws.RequestCode.rotate : Laws.RequestCode.Statement .rotate := Laws.RequestCode.of_some rfl rfl

theorem Laws.RequestCode.readCompressor : Laws.RequestCode.Statement .readCompressor := Laws.RequestCode.of_some rfl rfl

theorem Laws.RequestCode.adsorbLimitExpiry (train : Nat) : Laws.RequestCode.Statement (.adsorbLimitExpiry train) := Laws.RequestCode.of_none rfl

theorem Laws.RequestCode.openingValveTimeout (train : Nat) : Laws.RequestCode.Statement (.openingValveTimeout train) := Laws.RequestCode.of_none rfl

theorem Laws.RequestCode.releasingValveTimeout (train : Nat) : Laws.RequestCode.Statement (.releasingValveTimeout train) := Laws.RequestCode.of_none rfl

theorem Laws.RequestCode.heatTimeReached (train : Nat) (bed : BedId) : Laws.RequestCode.Statement (.heatTimeReached train bed) := Laws.RequestCode.of_none rfl

theorem Laws.RequestCode.heatShort (train : Nat) (bed : BedId) : Laws.RequestCode.Statement (.heatShort train bed) := Laws.RequestCode.of_none rfl

theorem Laws.RequestCode.coolTimerExpiry (train : Nat) (bed : BedId) : Laws.RequestCode.Statement (.coolTimerExpiry train bed) := Laws.RequestCode.of_none rfl

theorem Laws.RequestCode.holdTrain : Laws.RequestCode.Statement .holdTrain := Laws.RequestCode.of_some rfl rfl

theorem Laws.RequestCode.resumeTrain : Laws.RequestCode.Statement .resumeTrain := Laws.RequestCode.of_some rfl rfl

theorem Laws.RequestCode.forceSwitch : Laws.RequestCode.Statement .forceSwitch := Laws.RequestCode.of_some rfl rfl

theorem Laws.RequestCode.returnBed : Laws.RequestCode.Statement .returnBed := Laws.RequestCode.of_some rfl rfl

theorem Laws.RequestCode.readDryer : Laws.RequestCode.Statement .readDryer := Laws.RequestCode.of_some rfl rfl

theorem Laws.RequestCode.nominate : Laws.RequestCode.Statement .nominate := Laws.RequestCode.of_some rfl rfl

theorem Laws.RequestCode.closeComplete : Laws.RequestCode.Statement .closeComplete := Laws.RequestCode.of_none rfl

theorem Laws.RequestCode.transfer : Laws.RequestCode.Statement .transfer := Laws.RequestCode.of_some rfl rfl

theorem Laws.RequestCode.readShipper : Laws.RequestCode.Statement .readShipper := Laws.RequestCode.of_some rfl rfl

theorem Laws.RequestCode.readClose : Laws.RequestCode.Statement .readClose := Laws.RequestCode.of_some rfl rfl

theorem Laws.RequestCode.clearEvents : Laws.RequestCode.Statement .clearEvents := Laws.RequestCode.of_some rfl rfl

theorem Laws.RequestCode.forceEvent : Laws.RequestCode.Statement .forceEvent := Laws.RequestCode.of_some rfl rfl

theorem Laws.RequestCode.readEvents : Laws.RequestCode.Statement .readEvents := Laws.RequestCode.of_some rfl rfl

theorem Laws.RequestCode.readTable : Laws.RequestCode.Statement .readTable := Laws.RequestCode.of_some rfl rfl

theorem Laws.RequestCode.restart : Laws.RequestCode.Statement .restart := Laws.RequestCode.of_some rfl rfl

theorem Laws.RequestCode.unknownRequest : Laws.RequestCode.Statement .unknownRequest := Laws.RequestCode.of_none rfl

theorem Laws.RequestCode.loadBegin : Laws.RequestCode.Statement .loadBegin := Laws.RequestCode.of_some rfl rfl

theorem Laws.RequestCode.loadData : Laws.RequestCode.Statement .loadData := Laws.RequestCode.of_some rfl rfl

theorem Laws.RequestCode.loadAbort : Laws.RequestCode.Statement .loadAbort := Laws.RequestCode.of_some rfl rfl

theorem Laws.RequestCode.loadCommit : Laws.RequestCode.Statement .loadCommit := Laws.RequestCode.of_some rfl rfl

theorem Laws.RequestCode.commitComplete : Laws.RequestCode.Statement .commitComplete := Laws.RequestCode.of_none rfl

theorem Laws.RequestCode.abortDelimiter (abort : LineAbort) : Laws.RequestCode.Statement (.abortDelimiter abort) := Laws.RequestCode.of_none rfl

theorem Laws.RequestCode.commitRefused : Laws.RequestCode.Statement .commitRefused := Laws.RequestCode.of_none rfl

end Sys2Proof
end

