-- ==== Sys2Proof/Laws/Station.lean ====
section
/-!
SUPPORT. The operations of the mode machine and of the Meter Run Computer change nothing but what a drying operation may
change, the mode machine and, for metering, the runs; what the check of the STATION record writes; the station flow.
-/

namespace Sys2Proof.Machine

/-! ### The station valve set and changes of mode -/

theorem checkStation_frame (s : State) : ByStation s (checkStation s) := by
  unfold checkStation; dsimp only; split
  · refine ByStation.trans (markEntry_frame (t := .station) 0 0 s (by decide)).up.up.up ?_
    rfl
  · exact .refl _

/-- An unmarked STATION record is read as it is (R86). -/
theorem stationRead_unmarked {s : State} (h : s.marked .station 0 = false) : s.stationRead = s.tables.station := by
  unfold State.stationRead
  rw [h]
  rfl

/-- A marked STATION record is read at its defaults but for the interval length (R209). -/
theorem stationRead_marked {s : State} (h : s.marked .station 0 = true) :
    s.stationRead = { StationCfg.initial with lMin := s.lMin } := by
  unfold State.stationRead
  rw [if_pos h]

/-- A use of the STATION record writes the mark, the event records and the sweep period timer alone (R209). -/
theorem checkStation_only (s : State) : checkStation s = { s with
    parity := (checkStation s).parity
    ev := (checkStation s).ev
    engine := { s.engine with sweepDue := (checkStation s).engine.sweepDue } } := by
  unfold checkStation
  cases s.foundBad .station 0 with
  | false => rfl
  | true =>
    rw [if_pos rfl, markEntry_eq_occur, occur_only]
    rfl

/-- What the check of the STATION record does, it does whatever the record of the mode machine holds. -/
theorem checkStation_withMode (s : State) (m : ModeState) :
    checkStation { s with mode := m } = { checkStation s with mode := m } := by
  have h : ({ s with mode := m } : State).foundBad .station 0 = s.foundBad .station 0 := rfl
  unfold checkStation
  rw [h]
  cases s.foundBad .station 0 with
  | false => rfl
  | true =>
    simp only [if_true]
    unfold markEntry occurParity
    have hp : (({ s with mode := m } : State).setMark .station 0).foundBad .events Src.tableParity =
        (s.setMark .station 0).foundBad .events Src.tableParity := rfl
    rw [hp]
    cases (s.setMark .station 0).foundBad .events Src.tableParity <;> rfl

/-- The station flow is unknown while a STATION run has no trigger record, and else the sum of their |q| (R93). -/
theorem stationFlow_spec (l : List RunState) :
    ((∃ x ∈ l, x.role = .station ∧ x.last = none) → stationFlow l = none) ∧
    ((¬∃ x ∈ l, x.role = .station ∧ x.last = none) → stationFlow l =
      some (l.map fun x => if x.role = .station then (x.last.map fun r => r.q.natAbs).getD 0 else 0).sum) := by
  induction l with
  | nil => simp [stationFlow]
  | cons a l ih => cases hr : decide (a.role = .station) <;> cases hl : a.last <;>
      by_cases hu : ∃ x ∈ l, x.role = .station ∧ x.last = none <;>
      simp_all [stationFlow]

theorem offerLineup_frame (l : LineupArg) (s : State) : ByDuty s (offerLineup l s) := by
  unfold offerLineup; split
  · exact offerOwn_frame _ _ _
  · exact .refl _

theorem withdrawLineup_frame (s : State) : ByDuty s (withdrawLineup s) := by
  unfold withdrawLineup; split
  · exact withdrawOwn_frame _ _ _
  · exact .refl _

theorem onMode_frame (m : ModeState) (s : State) : ByStation s { s with mode := m } := rfl

theorem tellMode_frame (m : Mode) (s : State) : ByStation s (tellMode m s) :=
  ((onMode_frame _ s).trans (dutyMode_frame _ _).up.up.up).trans (dryMode_frame _ _).up.up

theorem stopModeTimers_frame (s : State) : ByStation s (stopModeTimers s) := rfl

theorem enterShutIn_frame (n : Nat) (s : State) : ByStation s (enterShutIn n s) :=
  (((stopModeTimers_frame s).trans (offerLineup_frame _ _).up.up.up).trans (tellMode_frame _ _)).trans
    (occur_frame _ _ _).up.up.up

theorem failTransition_frame (s : State) : ByStation s (failTransition s) := enterShutIn_frame _ _

theorem enterFlow_frame (d : Dir) (s : State) : ByStation s (enterFlow d s) :=
  ((stopModeTimers_frame s).trans (tellMode_frame _ _)).trans (occur_frame _ _ _).up.up.up

theorem enterLineup_frame (d : Dir) (s : State) : ByStation s (enterLineup d s) := by
  have h := (stopModeTimers_frame s).trans (checkStation_frame _)
  unfold enterLineup; dsimp only; split
  · exact ((h.trans (onMode_frame _ _)).trans (offerLineup_frame _ _).up.up.up).trans (tellMode_frame _ _)
  · exact h.trans (failTransition_frame _)

theorem evalStationFlow_frame (s : State) : ByStation s (evalStationFlow s) := by
  unfold evalStationFlow; dsimp only; repeat' split
  · exact checkStation_frame _
  · exact (checkStation_frame _).trans (onMode_frame _ _)
  · exact (checkStation_frame _).trans (onMode_frame _ _)

theorem flowNotice_frame (s : State) : ByStation s (flowNotice s) := .ite (evalStationFlow_frame _) (.refl _)

theorem enterRundown_frame (d : Dir) (s : State) : ByStation s (enterRundown d s) := by
  have h := (stopModeTimers_frame s).trans (checkStation_frame _)
  unfold enterRundown; dsimp only
  exact ((h.trans (onMode_frame _ _)).trans (tellMode_frame _ _)).trans (evalStationFlow_frame _)

theorem quietReached_frame (d : Dir) (s : State) : ByStation s (quietReached d s) :=
  .ite (failTransition_frame _) (enterLineup_frame _ _)

theorem setFlow_frame (d : Dir) (s : State) : ByStation s (setFlow d s).2 := by
  unfold setFlow; split <;> try dsimp only
  · exact enterLineup_frame _ _
  · exact .refl _
  · exact enterRundown_frame _ _
  · exact enterRundown_frame _ _
  · exact .refl _
  · split <;> exact .refl _

theorem requestFlow_frame (d : Dir) (s : State) : ByStation s (requestFlow d s).state := by
  have h := setFlow_frame d s
  unfold requestFlow; split
  · exact .refl _
  · split
    all_goals
      rename_i hf
      rw [hf] at h
      exact h

theorem setMode_frame (a : List Octet) (s : State) : ByStation s (setMode a s).state := by
  unfold setMode; dsimp only; repeat' split
  · dsimp only
    exact enterShutIn_frame _ _
  · exact requestFlow_frame _ _
  · exact requestFlow_frame _ _
  · exact .refl _

/-! ### Reports, departure, commands, the flag -/

theorem recordLineup_frame (l : Lineup) (s : State) : ByStation s (recordLineup l s) := rfl

theorem esdActivated_frame (s : State) : ByStation s (esdActivated s) :=
  (((((onMode_frame _ s).trans (dutyEsd_frame _ _).up.up.up).trans (stopModeTimers_frame _)).trans
    (withdrawLineup_frame _).up.up.up).trans (tellMode_frame _ _)).trans (occur_frame _ _ _).up.up.up

theorem esdCleared_frame (s : State) : ByStation s (esdCleared s) :=
  (onMode_frame _ s).trans (dutyEsd_frame _ _).up.up.up

theorem actLineup_frame (l : Lineup) (s : State) : ByStation s (actLineup l s) := by
  unfold actLineup; split
  · exact enterFlow_frame _ _
  · exact enterFlow_frame _ _
  · exact enterShutIn_frame _ _
  · exact enterShutIn_frame _ _
  · exact enterShutIn_frame _ _
  · exact enterShutIn_frame _ _
  · exact .refl _

theorem stationReport_frame (p : List Octet) (s : State) : ByStation s (stationReport p s) := by
  unfold stationReport; split
  · dsimp only; split
    · refine ByStation.trans (ByStation.trans ?_ (recordLineup_frame _ _)) (actLineup_frame _ _)
      exact .ite (esdCleared_frame _) (.refl _)
    · exact (recordLineup_frame _ s).trans (.ite (.refl _) (esdActivated_frame _))
  · exact .refl _

theorem stationDeparted_frame (s : State) : ByStation s (stationDeparted s) := by
  unfold stationDeparted; split
  · exact failTransition_frame _
  · exact .refl _

theorem stationCommand_frame (p : List Octet) (s : State) : (stationCommand p s).1 = s := by
  unfold stationCommand; split <;> rfl

theorem changeFlag_frame (b : Bool) (s : State) : ByStation s (changeFlag b s) :=
  (((onMode_frame _ s).trans (occur_frame _ _ _).up.up.up).trans (dutyFlag_frame _ _).up.up.up).trans (acctFlag_frame _ _).up.up.up

theorem pressureNotice_frame (c : Nat) (s : State) : ByStation s (pressureNotice c s) := by
  have h : ByStation s (usePressures (checkStation s)) := (checkStation_frame s).trans (useChannels_frame _ _).up
  unfold pressureNotice; dsimp only; repeat' split
  · exact h
  · exact h
  · exact h.trans (changeFlag_frame _ _)
  · exact .refl _

theorem modeReset_frame (b : Bool) (s : State) : ByStation s (modeReset b s) := rfl

/-! ### Triggers and the calorific reference -/

theorem onRun_frame (r : Nat) (f : RunState → RunState) (s : State) : ByMetering s (s.onRun r f) := rfl

theorem checkRun_frame (r : Nat) (s : State) : ByDuty s (checkRun r s) := .ite (markEntry_frame _ _ _ (by decide)) (.refl _)

theorem stageEvents_frame (r : Nat) (k : Computed) (s : State) : ByDuty s (stageEvents r k s) :=
  (((occurIf_frame _ _ _ s).trans (occurIf_frame _ _ _ _)).trans (occurIf_frame _ _ _ _)).trans (occurIf_frame _ _ _ _)

theorem computeTrigger_frame (r m : Nat) (s : State) : ByMetering s (computeTrigger r m s) := by
  unfold computeTrigger; dsimp only
  have h := ((useChannels_frame _ s).up.up.trans (onRun_frame r (RunState.after (useInputs r s).now
    ((useInputs r s).compute r m)) (useInputs r s))).trans
    (stageEvents_frame r ((useInputs r s).compute r m) _).up.up.up.up
  refine ByMetering.trans ?_ (ByMetering.ite (flowNotice_frame _).up (.refl _))
  exact h.trans (.ite (dryVolume_frame _ _ _).up.up (.refl _))

theorem recordTrigger_frame (r : Nat) (s : State) : ByMetering s (recordTrigger r s) := rfl

theorem trigger_frame (r : Nat) (s : State) : ByMetering s (trigger r s) := by
  unfold trigger; dsimp only; repeat' split
  · exact (checkRun_frame _ _).up.up.up.up.trans (recordTrigger_frame _ _)
  · exact (checkRun_frame _ _).up.up.up.up.trans (recordTrigger_frame _ _)
  · exact (checkRun_frame _ _).up.up.up.up.trans (computeTrigger_frame _ _ _)

theorem flowCompletion_frame (c : Nat) (s : State) : ByMetering s (flowCompletion c s) :=
  .foldl (fun _ _ => .ite (trigger_frame _ _) (.refl _)) _ _

theorem refFault_frame (r : Nat) (s : State) : ByMetering s (refFault r s) :=
  .ite (.refl _) ((onRun_frame _ _ _).trans (occur_frame _ _ _).up.up.up.up)

theorem refStale_frame (r : Nat) (s : State) : ByMetering s (refStale r s) :=
  .ite ((onRun_frame _ _ _).trans (occur_frame _ _ _).up.up.up.up) (.refl _)

theorem calorificCompletion_frame (c : Nat) (s : State) : ByMetering s (calorificCompletion c s) := by
  refine ByMetering.foldl (fun t r => ?_) _ _
  split
  · split
    · exact onRun_frame _ _ _
    · exact refFault_frame _ _
    · exact .refl _
  · exact .refl _

theorem calorificAged_frame (c : Nat) (s : State) : ByMetering s (calorificAged c s) :=
  .foldl (fun _ _ => .ite (refStale_frame _ _) (.refl _)) _ _

theorem handover_frame (n r : Nat) (s : State) : ByMetering s (handover n r s) :=
  .ite (.refl _) (((openGroup_frame _ _).trans (onGroup_frame _ _ _)).up.up.up.up.trans (onRun_frame _ _ _))

theorem readRun_frame (a : List Octet) (s : State) : ByDuty s (readRun a s).state := by
  unfold readRun; dsimp only; split
  · exact .refl _
  · exact checkRun_frame _ _

theorem runsPowerOn_frame (s : State) : ByMetering s (runsPowerOn s) := rfl

theorem runsRestart_frame (s : State) : ByMetering s (runsRestart s) := rfl

end Sys2Proof.Machine
end

