-- ==== Sys2Proof/Laws/Sampling.lean ====
section
/-!
SUPPORT. The operations on sample channels change nothing but what a metering operation may change; those of the Unit
Directory also the unit entries.
-/

namespace Sys2Proof.Machine

/-! ### Channels -/

theorem onChan_frame (c : Nat) (f : ChannelState → ChannelState) (s : State) : ByMetering s (s.onChan c f) := rfl

theorem onEngine_frame (e : EngineState) (s : State) : ByMetering s { s with engine := e } := rfl

theorem setBad_frame (c : Nat) (s : State) : ByMetering s (setBad c s) := rfl

theorem completionNotices_frame (c : Nat) (s : State) : ByMetering s (completionNotices c s) :=
  ((flowCompletion_frame _ _).trans (calorificCompletion_frame _ _)).trans (pressureNotice_frame _ _).up

theorem comparatorNotices_frame (c : Nat) (b : ChannelState) (s : State) : ByDrying s (comparatorNotices c b s) := by
  unfold comparatorNotices; dsimp only
  exact ByDrying.trans (.ite (.refl _) (dryComparator_frame _ _ _ _)) (.ite (.refl _) (dryComparator_frame _ _ _ _))

theorem finishConditioning_frame (c : Nat) (k : Conditioning) (s : State) : ByMetering s (finishConditioning c k s) := by
  unfold finishConditioning; dsimp only
  refine ByMetering.trans ?_ (comparatorNotices_frame _ _ _).up.up
  refine ByMetering.trans ?_ (completionNotices_frame _ _)
  refine ByMetering.trans ?_ (occurIf_frame _ _ _ _).up.up.up.up
  refine ByMetering.trans ?_ (occurIf_frame _ _ _ _).up.up.up.up
  refine ByMetering.trans ?_ (occurIf_frame _ _ _ _).up.up.up.up
  exact (onChan_frame _ _ _).trans (occurIf_frame _ _ _ _).up.up.up.up

theorem useFilter_frame (n : Nat) (s : State) : ByDuty s (useFilter n s) :=
  .ite (.refl _) (.ite (markEntry_frame _ _ _ (by decide)) (.refl _))

theorem beginCustody_frame (c : Nat) (s : State) : ByMetering s (beginCustody c s) := by
  unfold beginCustody; dsimp only; split
  · exact ((useChannel_frame _ _).up.up.trans (setBad_frame _ _)).trans (completionNotices_frame _ _)
  · exact ((useChannel_frame _ _).up.up.trans (useFilter_frame _ _).up.up.up.up).trans (onChan_frame _ _ _)

theorem proceed_frame (c : Nat) (s : State) : ByMetering s (proceed c s) := by
  unfold proceed; split
  · exact beginCustody_frame _ _
  · exact onChan_frame _ _ _
  · exact onChan_frame _ _ _

theorem accept_frame (c : Nat) (x : Item) (s : State) : ByMetering s (accept c x s) :=
  (onChan_frame _ _ _).trans (proceed_frame _ _)

theorem examinePending_frame (c : Nat) (s : State) : ByMetering s (examinePending c s) := by
  unfold examinePending; split
  · exact .refl _
  · exact .ite (accept_frame _ _ _) (.refl _)

theorem arriveMarked_frame (c : Nat) (s : State) : ByMetering s (arriveMarked c s) :=
  (setBad_frame c s).trans (.ite (flowCompletion_frame _ _) (.refl _))

theorem arrive_frame (c : Nat) (x : Item) (s : State) : ByMetering s (arrive c x s) := by
  refine (useChannel_frame c s).up.up.trans ?_
  unfold arrive; dsimp only
  exact .ite (arriveMarked_frame _ _) (.ite (accept_frame _ _ _) (onChan_frame _ _ _))

theorem takeItem_frame (e : Nat) (s : State) (x : Nat × Item) : ByMetering s (takeItem e s x) := by
  unfold takeItem; dsimp only; repeat' split
  · exact .refl _
  · exact .refl _
  · exact arrive_frame _ _ _
  · exact .refl _
  · exact .refl _
  · exact arrive_frame _ _ _

theorem sampleFrame_frame (e : Nat) (p : List Octet) (s : State) : ByMetering s (sampleFrame e p s) :=
  .foldl (fun _ _ => takeItem_frame _ _ _) _ _

theorem custodyDone_frame (c : Nat) (k : Conditioning) (s : State) : ByMetering s (custodyDone c k s) := by
  unfold custodyDone; dsimp only
  exact ((onChan_frame _ _ _).trans (.ite (.refl _) (finishConditioning_frame _ _ _))).trans (examinePending_frame _ _)

theorem serviceFails_frame (c : Nat) (s : State) : ByMetering s (serviceFails c s) :=
  (((onChan_frame _ _ _).trans (dropPending_frame _ _).up.up).trans (setBad_frame _ _)).trans (sweepCounts_frame _ _).up.up

theorem beginService_frame (c : Nat) (s : State) : ByMetering s (beginService c s) := by
  unfold beginService; dsimp only; split
  · exact (useChannel_frame _ _).up.up.trans (serviceFails_frame _ _)
  · refine ByMetering.trans ?_ (onChan_frame _ _ _)
    exact ((useChannel_frame _ _).up.up.trans (useFilter_frame _ _).up.up.up.up).trans (onEngine_frame _ _)

theorem engineDone_frame (c : Nat) (k : Conditioning) (s : State) : ByMetering s (engineDone c k s) := by
  unfold engineDone; dsimp only
  have h := onEngine_frame { s.engine with serving := none } s
  refine ByMetering.trans (ByMetering.trans (ByMetering.ite h ?_) (sweepCounts_frame _ _).up.up) (examinePending_frame _ _)
  exact (h.trans (onChan_frame _ _ _)).trans (finishConditioning_frame _ _ _)

theorem channelAged_frame (c : Nat) (s : State) : ByMetering s (channelAged c s) := by
  unfold channelAged; dsimp only
  refine ByMetering.trans (ByMetering.trans ?_ (calorificAged_frame _ _)) (pressureNotice_frame _ _).up
  exact (onChan_frame _ _ _).trans (occur_frame _ _ _).up.up.up.up

/-! ### Sweeps, departure, commit, reads -/

theorem listChannel_frame (s : State) (c : Nat) : ByMetering s (listChannel s c) := by
  unfold listChannel; dsimp only
  refine (useChannel_frame c s).up.up.trans (.ite (.refl _) (.ite (setBad_frame _ _) ?_))
  exact (onEngine_frame _ _).trans (onChan_frame _ _ _)

theorem beginSweep_frame (s : State) : ByMetering s (beginSweep s) :=
  (ByMetering.foldl listChannel_frame _ _).trans (occurIf_frame _ _ _ _).up.up.up.up

theorem sweepRequest_frame (a : List Octet) (s : State) : ByMetering s (sweepRequest a s).state := by
  unfold sweepRequest; dsimp only; split
  · exact beginSweep_frame _
  · exact .refl _

theorem startSweepTimer_frame (s : State) : ByMetering s (startSweepTimer s) := rfl

theorem sweepPeriod_frame (s : State) : ByMetering s (sweepPeriod s) := by
  unfold sweepPeriod; dsimp only
  refine (checkStation_frame s).up.trans (.ite (.refl _) (.ite ?_ (startSweepTimer_frame _)))
  exact (startSweepTimer_frame _).trans (beginSweep_frame _)

theorem channelsDeparted_frame (e : Nat) (s : State) : ByMetering s (channelsDeparted e s) :=
  .foldl (fun _ _ => .ite ((dropPending_frame _ _).up.up.trans (withdrawRequest_frame _ _).up.up) (.refl _)) _ _

theorem voidService_frame (c : Nat) (s : State) : ByMetering s (voidService c s) := by
  unfold voidService; repeat' split
  · exact onEngine_frame _ _
  · exact .refl _
  · exact .refl _

theorem resetChannel_frame (c : Nat) (s : State) : ByMetering s (resetChannel c s) :=
  ((withdrawRequest_frame _ _).up.up.trans (voidService_frame _ _)).trans (onChan_frame _ _ _)

theorem channelsTakeEffect_frame (o : List ChannelCfg) (s : State) : ByMetering s (channelsTakeEffect o s) :=
  (occur_frame _ _ _).up.up.up.up.trans (.foldl (fun _ _ => .ite (.refl _) (resetChannel_frame _ _)) _ _)

theorem samplingReset_frame (s : State) : ByMetering s (samplingReset s) := by
  unfold samplingReset
  refine ByMetering.trans ?_ (startSweepTimer_frame _)
  refine ByMetering.trans (t := { s with chans := _, engine := _ }) rfl (checkStation_frame _).up

theorem readChannelRequest_frame (a : List Octet) (s : State) : ByMetering s (readChannelRequest a s).state := by
  unfold readChannelRequest; dsimp only; split
  · exact .refl _
  · exact (useChannel_frame _ _).up.up

theorem readPeaks_frame (a : List Octet) (s : State) : ByMetering s (readPeaks a s).state := by
  unfold readPeaks; dsimp only; split
  · exact .refl _
  · exact (useChannel_frame _ _).up.up.trans (onChan_frame _ _ _)

/-! ### The Unit Directory -/

theorem onUnit_frame (i : Nat) (f : UnitLive → UnitLive) (s : State) : ByDirectory s (s.onUnit i f) := rfl

theorem markUnit_frame (i : Nat) (s : State) : ByDirectory s (markEntry .units i i s) :=
  ByDirectory.trans (t := s.setMark .units i) rfl (occurParity_frame i (s.setMark .units i)).up.up.up.up.up

theorem leavePresent_frame (i : Nat) (c : UnitClass) (s : State) : ByMetering s (leavePresent i c s) := by
  have h := (withdrawAll_frame i s).up.up.up.up.trans (channelsDeparted_frame i _)
  unfold leavePresent; dsimp only; split
  · exact h.trans (compDeparted_frame _ _).up.up.up.up
  · exact h.trans (dryDeparted_frame _ _).up.up.up
  · exact h.trans (stationDeparted_frame _).up
  all_goals exact h

theorem entryGone_frame (i : Nat) (a : Attach) (c : UnitClass) (s : State) : ByMetering s (entryGone i a c s) :=
  (occur_frame Src.unitDeparted i s).up.up.up.up.trans (.ite (leavePresent_frame _ _ _) (.refl _))

theorem unitFoundBad_frame (i : Nat) (s : State) : ByDirectory s (unitFoundBad i s) := by
  unfold unitFoundBad; dsimp only
  refine ByDirectory.trans ?_ (.ite (entryGone_frame _ _ _ _).up (.refl _))
  exact ByDirectory.trans (markUnit_frame _ _) (onUnit_frame _ _ _)

/-- An entry found bad carries its mark and is ABSENT, its departure flag clear and its silence timer stopped (R28). -/
theorem unitFoundBad_spec (i : Nat) (s : State) :
    (unitFoundBad i s).parity.units = (s.setMark .units i).parity.units ∧
    (unitFoundBad i s).units =
      s.units.modify i fun u => { u with attach := .absent, departed := false, silence := none } := by
  have h := (occurParity_frame i (s.setMark .units i))
  unfold unitFoundBad; dsimp only; split
  · exact ⟨(entryGone_frame _ _ _ _).unitsParity.trans h.unitsParity,
      (entryGone_frame _ _ _ _).units.trans (congrArg (fun l : List UnitLive => l.modify i _) h.units)⟩
  · exact ⟨h.unitsParity, congrArg (fun l : List UnitLive => l.modify i _) h.units⟩

theorem lookupCheck_frame (a : Addr) (s : State) : ByDirectory s (lookupCheck a s) := by
  unfold lookupCheck; split
  · exact .ite (unitFoundBad_frame _ _) (.refl _)
  · exact .refl _

theorem hear_frame (i : Nat) (s : State) : ByDirectory s (hear i s) := rfl

theorem departEntry_frame (i : Nat) (s : State) : ByDirectory s (departEntry i s) :=
  .ite (.refl _) ((onUnit_frame _ _ _).trans (entryGone_frame _ _ _ _).up)

theorem announce_frame (i : Nat) (p : List Octet) (s : State) : ByDirectory s (announce i p s) := by
  unfold announce; split
  · exact (onUnit_frame _ _ _).trans (occur_frame _ _ _).up.up.up.up.up
  · exact .refl _

theorem releaseEntry_frame (i : Nat) (s : State) : ByDirectory s (releaseEntry i s) := by
  unfold releaseEntry; split <;> rfl

theorem releaseUnit_frame (a : List Octet) (s : State) : ByDirectory s (releaseUnit a s).state := by
  unfold releaseUnit; dsimp only; repeat' split
  · exact .refl _
  · exact .refl _
  · exact .refl _
  · exact releaseEntry_frame _ _

theorem resetUnitEntry_frame (i : Nat) (c : UnitClass) (s : State) : ByDirectory s (resetUnitEntry i c s) := by
  unfold resetUnitEntry; dsimp only
  exact (onUnit_frame _ _ _).trans (.ite (entryGone_frame _ _ _ _).up (.refl _))

theorem unitsTakeEffect_frame (o : List UnitCfg) (w : Nat → Bool) (s : State) : ByDirectory s (unitsTakeEffect o w s) :=
  (occur_frame _ _ _).up.up.up.up.up.trans (.foldl (fun _ _ => .ite (.refl _) (resetUnitEntry_frame _ _ _)) _ _)

theorem directoryReset_frame (s : State) : ByDirectory s (directoryReset s) := rfl

end Sys2Proof.Machine
end

