-- ==== Sys2Proof/Laws/Requests.lean ====
section
/-!
SUPPORT. What a row that is a request does with the request in service (R196 to R198): once each, so that a claim about
one request need not unfold how it is found and answered.
-/

namespace Sys2Proof.Machine

/-- The request that `Asks` names is the one its row carries out. -/
theorem requestFor_of_asks {s : State} {q : Request} {code : Octet} {args : List Octet} (h : s.Asks q code args)
    (hk : knownRequests.contains code = true) : s.requestFor code = some q := by
  obtain ⟨h1, h3, -, -⟩ := h
  simp only [State.requestFor, State.inService, h1, Option.filter_some, Request.unknown, Request.code, h3,
    List.isEmpty_cons, List.getD_cons_zero, hk, Bool.not_true, Bool.or_self, Bool.not_false, decide_true, Bool.and_self,
    if_true]

/-- An answer to the request in service. -/
theorem answerRequest_of_asks {s : State} {q : Request} {code : Octet} {args : List Octet} (h : s.Asks q code args)
    (status : Status) (result : List Octet) : answerRequest q status result s = s.answered q status result := by
  obtain ⟨-, -, h4, h5⟩ := h
  simp [answerRequest, h4, offerResponse, State.respRoom, h5, State.answered, leaveService_eq]

/-- A request of the right length is carried out by its handler and answered. -/
theorem serve_of_asks {s : State} {q : Request} {code : Octet} {args : List Octet} {f : List Octet → State → Reply}
    (h : s.Asks q code args) (hk : knownRequests.contains code = true) (hl : args.length = requestLength code args) :
    serve code f s = .next (answerRequest q (f args s).status (f args s).result (f args s).state) := by
  unfold serve
  rw [requestFor_of_asks h hk]
  obtain ⟨-, h3, -, -⟩ := h
  simp [Request.wellSized, Request.args, Request.code, h3, hl]

/-- A request of another length is answered BAD_ARGUMENT. -/
theorem serve_of_asks_badLength {s : State} {q : Request} {code : Octet} {args : List Octet}
    {f : List Octet → State → Reply} (h : s.Asks q code args) (hk : knownRequests.contains code = true)
    (hl : args.length ≠ requestLength code args) : serve code f s = .next (s.answered q .badArgument []) := by
  unfold serve
  rw [requestFor_of_asks h hk]
  have a := answerRequest_of_asks h .badArgument []
  obtain ⟨-, h3, -, -⟩ := h
  simp [Request.wellSized, Request.args, Request.code, h3, hl, a]

/-- A handler that changes nothing leaves just the answer. -/
theorem serve_of_asks_same {s : State} {q : Request} {code : Octet} {args : List Octet} {f : List Octet → State → Reply}
    {status : Status} {result : List Octet} (h : s.Asks q code args) (hk : knownRequests.contains code = true)
    (hl : args.length = requestLength code args) (hf : f args s = ⟨status, result, s⟩) :
    serve code f s = .next (s.answered q status result) := by
  rw [serve_of_asks h hk hl, hf, answerRequest_of_asks h]

/-- What a commit's checks of the channels its image names can change. -/
theorem useNamed_frame (l : Load) (s : State) : ByDrying s (l.useNamed s) := .ite (useChannels_frame _ _) (.refl _)

/-- A row whose request is not in service changes nothing. -/
theorem serve_of_noRequest {s : State} {code : Octet} (f : List Octet → State → Reply) (h : s.requestFor code = none) :
    serve code f s = .next s := by
  unfold serve; rw [h]

end Sys2Proof.Machine
end

