-- ==== Sys2Proof/Tests/Slice0.lean ====
section
/-!
SUPPORT. Small checks. First every check of WellFormed refuses a term; then the manual's worked examples, their expected
values taken from spec/; last, for every statement with hypotheses, states that meet them, clause by clause.
-/

namespace Sys2Proof.Tests

open Sys2Proof.Machine

set_option Elab.async false

/-! ### WellFormed refuses what the part does not have, and takes the last that it has -/

theorem test_wellFormed_refuses :
    [Instr.silenceTimeout 48, .intervalTimerExpiry 64, .custodyConditioningDone 64, .ageTimerExpiry 64,
      .refStaleTimerExpiry 8, .startConfirmExpiry 6, .minimumRunExpiry 6, .stopConfirmExpiry 6, .cooldownExpiry 6,
      .startMarkAgeout 6, .adsorbLimitExpiry 2, .openingValveTimeout 2, .releasingValveTimeout 2, .heatTimeReached 2 .a,
      .heatShort 2 .b, .coolTimerExpiry 2 .c].map Instr.wellFormed = List.replicate 16 false := by decide

theorem test_wellFormed_takes :
    [Instr.silenceTimeout 47, .intervalTimerExpiry 63, .custodyConditioningDone 63, .ageTimerExpiry 63,
      .refStaleTimerExpiry 7, .startConfirmExpiry 5, .minimumRunExpiry 5, .stopConfirmExpiry 5, .cooldownExpiry 5,
      .startMarkAgeout 5, .adsorbLimitExpiry 1, .openingValveTimeout 1, .releasingValveTimeout 1, .heatTimeReached 1 .a,
      .heatShort 1 .b, .coolTimerExpiry 1 .c, .boundary].all Instr.wellFormed = true := by decide

/-! ### A small station -/

/-- The state a command leaves, its input where it answers none. -/
def after (c : Instr) (s : State) : State :=
  match exec c s with
  | .next t => t
  | _ => s

/-- A supervisor's request with the part's default address. -/
def query (payload : List Octet) : Request := ⟨⟨0xFE, 0x01⟩, ⟨0xFE, 0xFE⟩, 7, payload, false⟩

/-- `s` with one request in service. -/
def asking (payload : List Octet) (s : State) : State :=
  { s with mgmt := { s.mgmt with service := some (.taken (query payload)) } }

def unitAt (n : Octet) (c : UnitClass) : UnitCfg := ⟨true, ⟨1, n⟩, c, 30⟩

/-- The channel of the example of spec/03, with a class and a quantity. -/
def channelAs (c : ChannelClass) (q : Quantity) (ix : Nat) : ChannelCfg where
  inUse := true
  unit := 3
  localIx := ix
  cls := c
  quantity := q
  rawMin := 0
  rawMax := 8000000
  gain := 163843
  offset := 0
  engMin := 0
  engMax := 25000000
  profile := 0
  minInterval := 500
  maxAge := 10
  cmpA := ⟨.above, 8000000, 0, 20000⟩
  cmpB := .blank
  spanFormat := true

/-- Run 0 of the worked case of spec/04. -/
def runOf : RunCfg where
  role := .station
  flow := 0
  press := 1
  temp := 2
  cal := some 3
  fallbackH := 38000
  pb := 101325
  tb := 28815
  zb := 997600
  curve := [(7000000, 880000), (9000000, 860000)]
  gapCap := 5000
  subst := 0
  refStale := 600
  ptMaxAge := 60

/-- Record 0 of the example of spec/06. -/
def compOf : CompCfg := ⟨true, 2, 40000, 6000, 12000, 400, 150, 120, 180, 900, 600, 3, 3600, .auto⟩

/-- Train 0 of the example of spec/07. -/
def dryerOf : DryerCfg :=
  { DryerCfg.blank with
    inUse := true
    unit := 1
    capacity := 80000
    derate := 25
    bedCapacity := 400
    switchPercent := 90
    resume := 220000
    adsorbMax := 28800
    heat := 7200
    heatMax := 9000
    cool := 3600
    valveConfirm := 120 }

def tablesOf : Tables :=
  { Tables.initial with
    units := [unitAt 0 .stationValves, unitAt 1 .dryerValves, unitAt 2 .compressor, unitAt 3 .transmitter] ++
      List.replicate 44 .blank
    channels := [channelAs .custody .flowRate 0, channelAs .custody .pressure 1, channelAs .custody .temperature 2,
      channelAs .process .calorific 3, channelAs .survey .generic 4] ++ List.replicate 59 .blank
    runs := runOf :: List.replicate 7 .blank
    compressors := compOf :: List.replicate 5 .blank
    dryers := [dryerOf, .blank]
    shippers := [⟨101, true, 0, 9000, 9000, 10000⟩, ⟨102, false, 1, 9000, 9000, 10000⟩] ++ List.replicate 30 .blank }

/-- Four units PRESENT, time set, the tables above, 5,000 and 2,000 kWh on two accounts. -/
def site : State :=
  { State.reset with
    now := 100000
    tables := tablesOf
    units := List.replicate 4 { UnitLive.initial with attach := .present } ++ List.replicate 44 .initial
    runs := .initial .station .ready :: List.replicate 7 (.initial .unused .ready)
    comp := { State.reset.comp with
      recs := { CompRec.initial 2 .auto 0 0 with state := .stopped } :: List.replicate 5 (.initial 0 .auto 0 0)
      order := [0] }
    time := { State.reset.time with count := 36450000, unset := false, start := 36000000, next := some 39600000 }
    ret := { Retained.blank with inventories := [5000, 2000] ++ List.replicate 30 0 } }

/-! ### Worked examples of spec/ -/

/-- CRC-16 with 1021h from FFFFh over "123456789" is 29B1h (the check value of R2's polynomial and initial value). -/
theorem test_crc16 : crc16 [0x31, 0x32, 0x33, 0x34, 0x35, 0x36, 0x37, 0x38, 0x39] = 0x29B1#16 := by decide +kernel

/-- The selections of the example of spec/01, 1.6: from count 3 the forwarded frame goes ahead of the response. -/
theorem test_portS_after_three_own :
    let u : Frame := ⟨⟨1, 1⟩, ⟨2, 2⟩, 1, 0, []⟩
    let s := { State.reset with
      link := { State.reset.link with upQ := [u], ownRunS := 3 }
      resp := [⟨⟨0xFE, 1⟩, ⟨0xFE, 0xFE⟩, 7, [[1, 0, 0x80]]⟩] }
    (after .portSSelect s).link.txS = some u ∧ (after .portSSelect s).link.ownRunS = 0 ∧
      (after .portSSelect s).resp.length = 1 := by decide +kernel

/-- R51: the scaled values of the example of spec/03. -/
theorem test_scaling :
    [3196000, 3199200, 3204000, 3212000, 3188000, 3180000].map (scaledValue (channelAs .process .pressure 0)) =
      [7990146, 7998146, 8010147, 8030147, 7970146, 7950146] := by decide +kernel

/-- R52: profile 3 of the example of spec/03 at 2,700 and at 3,300. -/
theorem test_filter :
    let c := channelAs .process .pressure 0
    let f : FilterUse := ⟨some ⟨[[⟨false, 1⟩], [⟨false, 2⟩], [⟨false, 3⟩, ⟨false, 4⟩], [⟨false, 4⟩]]⟩, false⟩
    filteredValue c f 8030147 [8030147, 8010147, 7998146, 7990146] = 8016647 ∧
      filteredValue c f 7970146 [7970146, 8030147, 8010147, 7998146, 7990146] = 7994396 := by decide +kernel

/-- R54: comparator A of the example of spec/03 at its completions. -/
theorem test_comparator :
    let a := (channelAs .process .pressure 0).cmpA
    comparatorAfter a false 7998146 = false ∧ comparatorAfter a false 8010147 = true ∧
      comparatorAfter a true 7994396 = true ∧ comparatorAfter a true 7973896 = false := by decide +kernel

/-- R58: the peaks of the example of spec/03 as span fractions. -/
theorem test_span_fraction :
    spanFraction (channelAs .process .pressure 0) 8030147 = 10525 ∧
      spanFraction (channelAs .process .pressure 0) 7950146 = 10420 := by decide +kernel

/-- R71: the three pressures on the curve of spec/04. -/
theorem test_compressibility :
    [8000000, 7500300, 7000050].map (fun p => (compressibility runOf.curve p).1) = [870000, 874997, 880000] := by
  decide +kernel

/-- The channels of the worked case of spec/04: flow, pressure and temperature GOOD. -/
def metering (m : Mode) (q : Int) : State :=
  let good (v : Int) : ChannelState :=
    { ChannelState.initial (some 99000) with quality := .good, scaled := some v, filtered := some v, history := [v] }
  { site with
    chans := [good q, good 8000000, good 30815] ++ List.replicate 61 (.initial none)
    runs := { RunState.initial .station .ready with mark := some 99000, lastH := some 41200 } ::
      List.replicate 7 (.initial .unused .ready)
    mode := { site.mode with mode := m } }

/-- The worked case of spec/04. -/
theorem test_worked_trigger :
    let x := (trigger 0 (metering .inject 1500000)).run 0
    (x.rV, x.rE, x.slots, x.lastP, x.lastT, x.estimated) =
      (240, 200, [⟨14532921207, 0⟩, ⟨0, 0⟩, ⟨0, 0⟩, ⟨0, 0⟩], some 8000000, some 30815, false) ∧
      x.last.map (fun t => (t.va, t.vb, t.e)) = some (4166666, 352740806, 14532921207) := by decide +kernel

/-- The first boundary of the worked sequence of spec/04: 8,073 kWh and a carry of 3,045,916. -/
theorem test_handover :
    (Slot.kWh ⟨29065845916, 0⟩, Slot.handedOver ⟨29065845916, 0⟩) = (8073, ⟨0, 3045916⟩) := by decide +kernel

/-- R85: from 10:07:30 with L = 15 the next boundary is 10:15:00. -/
theorem test_next_boundary : leastMultipleAbove 36450000 (15 * 60000) = 36900000 := by decide

/-- R88: the first SET_TIME of the example of spec/05, with L = 60: the interval ends, the first flag is cleared. -/
theorem test_first_set_time :
    let t := after .setTime (asking [0x10, 0, 0, 2, 0x2C, 0x2E, 0xD0] State.reset)
    (t.time.count, t.time.unset, t.time.start, t.time.next, t.time.boundaries, t.time.firstFlag) =
      (36450000, false, 36450000, some 39600000, 1, false) := by decide +kernel

/-- R122: the speeds of the example of spec/06 at 35, 900, 1,500 and 1,800. -/
theorem test_share_speed :
    [(50000, 40000), (50000, 65000), (30000, 65000), (30000, 40000)].map (fun p => shareSpeed compOf p.1 p.2) =
      [12000, 10614, 8766, 10500] := by decide +kernel

/-- R110: a first failed start leads to COOLDOWN until 600 s later with STOP offered, as in the example of spec/06. -/
def starting : State :=
  site.onComp 0 fun r => { r with state := .starting, tStart := some 100000, marks := [0] }

theorem test_failed_start :
    let t := after (.startConfirmExpiry 0) starting
    ((t.compRec 0).state, (t.compRec 0).failures, (t.compRec 0).tCool) = (.cooldown, 1, some 700000) ∧
      t.own = [⟨2, .action, .stop⟩] ∧ (t.source Src.startFailed).latch = true := by decide +kernel

/-- R136: the first report of the example of spec/07: A OPEN, B and C CLOSED. -/
theorem test_synchronise :
    let t := dryerReport 1 [1, 0, 0] site
    ((t.train 0).bedA.state, (t.train 0).bedA.loading, (t.train 0).bedB.state, (t.train 0).bedC.state) =
      (.adsorbing, 220000, .standby, .standby) ∧ ((t.train 0).state, (t.train 0).published) = (.inService, 80000) := by
  decide +kernel

/-- Train 0 of the example of spec/07 after its first report, in WITHDRAW. -/
def drying : State :=
  let s := dryerReport 1 [1, 0, 0] site
  { s with mode := { s.mode with mode := .withdraw }, dry := { s.dry with heldMode := .withdraw } }

/-- R138: a notice with the default inlet of 420 and no outlet value: 148,151 mg, residue 138,520, as in spec/07, 7.3; the
loading of 368,151 mg starts the switch to B. -/
theorem test_water_loading :
    let s := { drying with tables := { tablesOf with dryers := [{ dryerOf with defaultInlet := 420, inlet := 9 }, .blank] } }
    let t := (trainVolume 0 352740806 s).train 0
    (t.bedA.loading, t.residue) = (368151, 138520) ∧
      t.switch = some ⟨.opening, .b, some .a, 220000⟩ := by decide +kernel

/-- R163: the example of spec/08 at 16,250 and at 10,000. -/
def nominated (capacity : Nat) : State :=
  let ship (firm : Bool) (rank : Nat) : ShipperCfg := ⟨1, firm, rank, 90000, 90000, 90000⟩
  let slot (req : Nat) : AccSlot := ⟨.inject, req, 0, none⟩
  { State.reset with
    tables := { Tables.initial with
      station := { StationCfg.initial with lMin := 15 }
      shippers := [ship true 0, ship true 0, ship false 1, ship false 0] ++ List.replicate 28 .blank }
    acct := { State.reset.acct with
      slots := [slot 9000, slot 5000, slot 3000, slot 2500] ++ List.replicate 28 .initial
      compCap := capacity } }

theorem test_curtailment :
    [105000, 65000, 40000].map (fun c => ((nominated c).confirmations .inject).take 4) =
      [[9000, 5000, 3000, 2500], [9000, 5000, 0, 2250], [6429, 3571, 0, 0]] := by decide +kernel

/-- The worked allocation of spec/08. -/
def workedSlots : List SnapSlot :=
  [⟨.withdraw, 700, 5000, 10000⟩, ⟨.withdraw, 450, 2000, 10000⟩, ⟨.withdraw, 350, 230, 10000⟩]

def workedGroup : Group := ⟨1, 0, 1001, 0, 0, 17, 9, false, true⟩

theorem test_allocation :
    let x := sharesOf workedSlots workedGroup
    (x.wdAsked, x.wd, x.fuelAsked, x.dryAsked, x.after) =
        ([467, 300, 234], [467, 300, 230], [8, 5, 4], [4, 3, 2], [4521, 1692, 0]) ∧
      obaChange workedSlots workedGroup x = -10 ∧ x.firstCapped = some 2 := by decide +kernel

/-- R190: REF_STALE of priority 2 displaces SWEEP_DONE of priority 3 from a full queue, as in the example of spec/09, and
FLOW_SUBSTITUTED of priority 3 is not queued. -/
theorem test_alert_displacement :
    let alert (src p : Nat) : Alert := ⟨src, p, 1, 0xFF, 0, 0, false⟩
    let full := (List.range 26).map (alert · 2) ++ [alert 13 3, alert 14 3, alert 15 3, alert 19 3, alert 20 3, alert 16 3]
    ((offerAlert (alert 40 2) full).drop 25).map (·.source) = [25, 40, 13, 14, 15, 19, 20] ∧
      offerAlert (alert 21 3) full = full := by decide +kernel

/-- R215: a FORCE_EVENT of source 5 is answered with its code, OK, part octet 80h, then latch, count and queued. -/
theorem test_force_event_response :
    (after .forceEvent (asking [0x41, 5] State.reset)).resp =
      [⟨⟨0xFE, 0x01⟩, ⟨0xFE, 0xFE⟩, 7, [[0x41, 0, 0x80, 1, 1, 1]]⟩] := by decide +kernel

/-- R203, R204: LOAD_COMMIT of a RUNS load without the key, as in the procedure of spec/10, is refused PROTECTED. -/
theorem test_load_begin_protected :
    let t := after .loadBegin (asking (0x50 :: be 1 4 ++ be 2 (imageLength .runs) ++ [0, 0]) State.reset)
    t.mgmt.load = none ∧ (t.source Src.tableProtected).latch = true ∧
      t.resp.map (·.parts) = [[[0x50, 11, 0x80]]] := by decide +kernel

/-! ### The hypotheses of the statements can be met

`test_hyp_X` (with a suffix, where one theorem would be long) shows states and operands that meet the hypotheses of
`Obligations.X`: one group for each clause, in the clauses' order, at the ends of a clause's range where it has one. A
group is all the hypotheses of its clause. -/

def frameF (kind : Octet) (payload : List Octet) : Frame := ⟨⟨9, 9⟩, ⟨1, 2⟩, kind, 0, payload⟩

def strange : Frame := ⟨⟨9, 9⟩, ⟨8, 8⟩, 1, 0, [5, 6]⟩

def toOwn (kind : Octet) : Frame := ⟨⟨0xFE, 0xFE⟩, ⟨1, 2⟩, kind, 0, [0x10]⟩

def toAll (kind : Octet) (payload : List Octet) : Frame := ⟨⟨0xFF, 0xFF⟩, ⟨8, 8⟩, kind, 0, payload⟩

def answerOf (parts : List (List Octet)) : Response := ⟨⟨0xFE, 1⟩, ⟨0xFE, 0xFE⟩, 7, parts⟩

def alertOf (src priority : Nat) : Alert := ⟨src, priority, 1, 0xFF, 0, 0, false⟩

def onLink (f : LinkState → LinkState) (s : State) : State := { s with link := f s.link }

/-- The entry of a table disagrees with its check. -/
def spoil (t : TableId) (i : Nat) (s : State) : State :=
  { s with parity := s.parity.put t ((s.parity.get t).modify i fun e => { e with bad := true }) }

/-- The entry of a table carries a mark. -/
def markOf (t : TableId) (i : Nat) (s : State) : State := s.setMark t i

/-- The tables of `s` are changed. -/
def retabled (f : Tables → Tables) (s : State) : State := { s with tables := f s.tables }

/-- No entry is found bad where every check agrees. -/
theorem none_found_bad {s : State} {t : TableId} (h : ∀ e ∈ s.parity.get t, e.bad = false) (i : Nat) :
    s.foundBad t i = false := by
  have : ((s.parity.get t).getD i .sound).bad = false := by
    rw [List.getD_eq_getElem?_getD]
    cases hi : (s.parity.get t)[i]? with
    | none => rfl
    | some e => exact h e (List.mem_of_getElem? hi)
  unfold State.foundBad
  rw [this]
  rfl

theorem test_hyp_sound_channels (j : Nat) : site.foundBad .channels j = false :=
  none_found_bad (by decide +kernel) j

/-- A command that answers a next state answers the one `after` gives. -/
theorem exec_eq_after {c : Instr} {s : State} (h : (match exec c s with | .next _ => true | _ => false) = true) :
    exec c s = .next (after c s) := by
  unfold after
  cases hx : exec c s with
  | next t => rfl
  | fault r => exact absurd h (by rw [hx]; exact Bool.false_ne_true)
  | refused r => exact absurd h (by rw [hx]; exact Bool.false_ne_true)

theorem test_hyp_StepRunsFrontCommand : { site with pending := [.boundary, .rotate] }.pending = .boundary :: [.rotate] := rfl

theorem test_hyp_EmptyQueuePassesMillisecond : site.pending = [] := rfl

/-- A request is in service, two wait, and so do `n` responses. -/
def pressed (n : Nat) : State :=
  { site with
    mgmt := { site.mgmt with service := some (.taken (query [0x01])), waiting := [query [0x01], query [0x01]] }
    resp := List.replicate n (answerOf [[1]]) }

theorem test_hyp_EveryWellFormedCommandCompletes :
    (Instr.silenceTimeout 47).wellFormed = true ∧ (Instr.silenceTimeout 48).wellFormed = false := by decide

theorem test_hyp_RequestsAreCheckedForForm :
    (Instr.readUnit.requestCode = some 0x05 ∧ (asking [0x05] site).Asks (query [0x05]) 0x05 [] ∧
      ([] : List Octet).length ≠ requestLength 0x05 []) ∧
    (∀ p ∈ [[], [(0xEE : Octet)]], (asking p site).mgmt.service = some (.taken (query p)) ∧
      (∀ code ∈ knownRequests, (query p).payload.head? ≠ some code) ∧ (query p).noResponse = false ∧
      (asking p site).resp.length < 2 ∧ (asking p (pressed 1)).resp.length < 2 ∧ 2 ≤ (asking p (pressed 2)).resp.length) ∧
    ({ query [0xEE] with noResponse := true }.noResponse = true ∧
      ∀ code ∈ knownRequests, { query [0xEE] with noResponse := true }.payload.head? ≠ some code) ∧
    Instr.rotate.requestCode = some 0x18 := by decide +kernel

theorem test_hyp_RequestsAreCheckedForForm_other :
    (∀ q, (asking [0x05, 3] site).mgmt.service = some (.taken q) → q.payload.head? ≠ some 0x18) ∧
      ∀ q, site.mgmt.service = some (.taken q) → q.payload.head? ≠ some 0x18 := by
  refine ⟨?_, ?_⟩ <;> (rintro q h; cases h)
  decide

theorem test_hyp_ArbitersSelect_portS :
    (onLink (fun l => { l with txS := some strange }) site).link.txS ≠ none ∧
    (let s := onLink (fun l => { l with upQ := [strange], ownRunS := 3 }) { site with resp := [answerOf [[1]]] };
      s.link.txS = none ∧ s.link.upQ = strange :: [] ∧ s.link.ownRunS = 3) ∧
    (let s := onLink (fun l => { l with upQ := [strange] }) site;
      s.link.txS = none ∧ s.link.upQ = strange :: [] ∧ s.resp = [] ∧ s.ev.alerts = []) ∧
    (let s := { site with resp := [answerOf [[1], [2]]] };
      s.link.txS = none ∧ s.link.ownRunS ≠ 3 ∧ s.resp = answerOf [[1], [2]] :: [] ∧
        (answerOf [[1], [2]]).parts = [1] :: [2] :: []) ∧
    (let s := onLink (fun l => { l with ownRunS := 3 }) { site with
        resp := [answerOf [[1]]], mgmt := { site.mgmt with service := some (.holding (answerOf [[3]])) } };
      s.link.txS = none ∧ s.link.upQ = [] ∧ s.resp = answerOf [[1]] :: [] ∧ (answerOf [[1]]).parts = [[1]] ∧
        s.mgmt.service = some (.holding (answerOf [[3]])) ∧ ([] : List Response).length < 2) ∧
    (let s := { site with ev := { site.ev with alerts := [alertOf 3 0] } };
      s.link.txS = none ∧ s.link.ownRunS ≠ 3 ∧ s.resp = [] ∧ s.ev.alerts = alertOf 3 0 :: []) ∧
    (site.link.upQ = [] ∧ site.resp = [] ∧ site.ev.alerts = []) := by decide +kernel

theorem test_hyp_ArbitersSelect_last :
    let s := { site with resp := [answerOf [[1]]] }
    s.link.txS = none ∧ s.link.ownRunS ≠ 3 ∧ s.resp = answerOf [[1]] :: [] ∧
      ∀ h, s.mgmt.service ≠ some (.holding h) := by
  refine ⟨rfl, by decide, rfl, fun _ => ?_⟩
  intro h; cases h

theorem test_hyp_ArbitersSelect_portF :
    (onLink (fun l => { l with txF := some strange }) site).link.txF ≠ none ∧
    (let s := onLink (fun l => { l with downQ := [strange], ownRunF := 3 }) { site with own := [⟨2, .action, .stop⟩] };
      s.link.txF = none ∧ s.link.downQ = strange :: [] ∧ s.link.ownRunF = 3) ∧
    (let s := onLink (fun l => { l with downQ := [strange] }) { site with own := [⟨2, .action, .stop⟩] };
      s.link.txF = none ∧ s.link.ownRunF ≠ 3 ∧ s.own = ⟨2, .action, .stop⟩ :: []) ∧
    (site.link.downQ = [] ∧ site.own = []) := by decide +kernel

def owned (own : List OwnAddr) : State := retabled (fun t => { t with link := { t.link with own := own } }) site

/-- R14: the station address by the lowest own address that acts, of the first three; entry 3 alone; none. -/
theorem test_hyp_ArbitersSelect_station :
    let a (n : Octet) (on : Bool) : OwnAddr := ⟨⟨5, n⟩, false, on⟩
    let s (b c d : Bool) : State := owned [a 0 b, a 1 c, a 2 d, a 3 true]
    ((s true true true).stationAddr = ⟨5, 0⟩ ∧ (s false true true).stationAddr = ⟨5, 1⟩ ∧
      (s false false true).stationAddr = ⟨5, 2⟩ ∧ (s false false false).stationAddr = ⟨5, 0⟩) ∧
    ((markOf .link 0 (s true true true)).stationAddr = ⟨5, 1⟩ ∧
      (markOf .link 3 (s false false false)).stationAddr = ⟨0xFE, 0xFE⟩ ∧
      (owned [a 0 false, a 1 false, a 2 false, a 3 false]).stationAddr = ⟨5, 0⟩) := by decide +kernel

/-- The resets of the last clauses: a RESTART in service, and the power-on reset. -/
theorem test_hyp_ArbitersSelect_reset :
    (asking [0x48] drying).mgmt.service = some (.taken (query [0x48])) ∧ (query [0x48]).payload = [0x48] ∧
      exec .restart (asking [0x48] drying) = .next (after .restart (asking [0x48] drying)) ∧
      exec .powerOnReset drying = .next (after .powerOnReset drying) :=
  ⟨rfl, rfl, exec_eq_after (by decide +kernel), exec_eq_after (by decide +kernel)⟩

theorem test_hyp_FrameOctetsReadBack :
    (List.replicate 240 (5 : Octet)).length ≤ 240 ∧ strange.payload.length ≤ 240 ∧
      parseFrame strange.octets = some strange := by decide +kernel

theorem test_hyp_FramesAreTakenAtTheirEndDelimiter :
    parseFrame strange.octets = some strange ∧ parseFrame [1, 2, 3] = none ∧ site.link.rxF = none ∧
      site.link.rxS = none := by decide +kernel

/-- A port that holds the first octets of a frame, the rest to come; symbols behind a delimiter that begin the next frame. -/
theorem test_hyp_FramesAreTakenAtTheirEndDelimiter_held :
    (let s := onLink (fun l => { l with rxF := some (strange.octets.take 4), rxS := some [1, 2] }) site;
      s.link.rxF = some (strange.octets.take 4) ∧ parseFrame (strange.octets.take 4 ++ strange.octets.drop 4) = some strange ∧
        s.link.rxS = some [1, 2] ∧ parseFrame ([1, 2] ++ [3]) = none) ∧
    collect none [.octet 7, .startDelim, .octet 8] = some [8] := by decide +kernel

/-- R1: a start delimiter, then an abort delimiter, then the octets of a frame and its end delimiter make no frame. -/
theorem test_abort_discards :
    let begun := after (.frameArrivalPortF ⟨[], [.startDelim, .octet 9]⟩) site
    let aborted := after (.abortDelimiter ⟨.f, [.octet 9], []⟩) begun
    begun.link.rxF = some [9] ∧ aborted.link.rxF = none ∧
      (after (.frameArrivalPortF ⟨strange.octets.map .octet, []⟩) aborted).link.upQ = [] ∧
      (after (.frameArrivalPortF ⟨.startDelim :: strange.octets.map .octet, []⟩) aborted).link.upQ = [strange] := by
  decide +kernel

/-- A full upstream queue of the standard size. -/
def crowded : State := onLink (fun l => { l with upQ := List.replicate 8 strange, downQ := List.replicate 8 strange }) site

theorem test_hyp_FieldFramesGoUpstream :
    (strange.payload.length ≤ 240 ∧ (∀ i < 4, site.foundBad .link i = false) ∧ site.entryAtAddr strange.src = none ∧
      misdirectedF (reachOf site.ownActing strange.dst) strange.kind = false ∧ site.link.upQ.length < 8) ∧
    ((∀ i < 4, crowded.foundBad .link i = false) ∧ crowded.entryAtAddr strange.src = none ∧
      ¬crowded.link.upQ.length < (if crowded.tables.link.extended then 32 else 8)) ∧
    (let f : Frame := ⟨⟨0xFE, 0xFE⟩, ⟨8, 8⟩, 1, 0, []⟩;
      site.entryAtAddr f.src = none ∧ misdirectedF (reachOf site.ownActing f.dst) f.kind = true) ∧
    (site.entryAtAddr (toOwn 1).src = some 2 ∧ site.foundBad .units 2 = false ∧
      misdirectedF (reachOf site.ownActing (toOwn 1).dst) (toOwn 1).kind = true) ∧
    (site.entryAtAddr (frameF 2 [0]).src = some 2 ∧
      misdirectedF (reachOf site.ownActing (frameF 2 [0]).dst) (frameF 2 [0]).kind = false ∧
      site.link.upQ.length < 8 ∧ ¬crowded.link.upQ.length < 8 ∧ crowded.entryAtAddr (frameF 2 [0]).src = some 2 ∧
      crowded.foundBad .units 2 = false) := by decide +kernel

/-- The check of the own addresses leaves the reach as it is where every entry is sound: the states of the groups here. -/
theorem test_hyp_FieldFramesGoUpstream_reach :
    ∀ s ∈ [site, crowded, spoil .units 2 site, spoil .units 2 crowded, pressed 1, pressed 2, asking [0x01] site],
      (checkOwnTable (onLink (fun l => { l with rxF := collect none [] }) s)).ownActing = s.ownActing ∧
        (checkOwnTable (onLink (fun l => { l with rxS := collect none [] }) s)).ownActing = s.ownActing := by decide +kernel

/-- What is not examined (R8): the kinds at both ends of those examined, an entry that is not PRESENT, and the four classes. -/
theorem test_hyp_FieldFramesGoUpstream_unexamined :
    (∀ k ∈ [(0 : Octet), 3, 6, 7, 8, 9, 255], k ∉ [kindAnnounce, kindDepart, kindSample, kindState]) ∧
    ((frameF 1 []).kind = kindSample ∧ (frameF 2 []).kind = kindState ∧ (site.unit 47).attach ≠ .present) ∧
    ((site.unitCfg 3).cls = .transmitter ∧ (site.unitCfg 47).cls ∈ [UnitClass.meter, .transmitter, .analyser, .generic]) := by
  decide +kernel

/-- A UNITS entry found bad at a lookup, whose address no other entry in use holds: PRESENT, HELD, and with full queues. -/
theorem test_hyp_FieldFramesGoUpstream_bad :
    (let s := spoil .units 2 site;
      s.entryAtAddr (frameF 2 [0]).src = some 2 ∧ s.foundBad .units 2 = true ∧ (s.unit 2).attach = .present ∧
        (∀ i < 4, s.foundBad .link i = false) ∧
        (∀ j < 48, j ≠ 2 → (s.unitCfg j).inUse = true → (s.unitCfg j).addr ≠ (frameF 2 [0]).src) ∧
        misdirectedF (reachOf s.ownActing (frameF 2 [0]).dst) (frameF 2 [0]).kind = false ∧
        misdirectedF (reachOf s.ownActing (toOwn 1).dst) (toOwn 1).kind = true ∧ (toOwn 1).src = (frameF 2 [0]).src ∧
        s.link.upQ.length < 8) ∧
    (let s := spoil .units 3 (site.onUnit 3 fun u => { u with attach := .held });
      s.entryAtAddr ⟨1, 3⟩ = some 3 ∧ s.foundBad .units 3 = true ∧ (s.unit 3).attach ≠ .present) ∧
    (let s := spoil .units 2 crowded;
      s.entryAtAddr (frameF 2 [0]).src = some 2 ∧ s.foundBad .units 2 = true ∧ (∀ i < 4, s.foundBad .link i = false) ∧
        ¬s.link.upQ.length < (if s.tables.link.extended then 32 else 8)) ∧
    (site.entryAtAddr ⟨8, 8⟩ = none ∧ site.entryAtAddr ⟨1, 3⟩ = some 3 ∧ site.foundBad .units 3 = false) := by decide +kernel

theorem test_hyp_PortSFramesByReach :
    ((∀ i < 4, site.foundBad .link i = false) ∧ (∀ i < 4, (pressed 2).foundBad .link i = false) ∧
      (∀ i < 4, crowded.foundBad .link i = false) ∧ ∀ i < 4, (asking [0x01] site).foundBad .link i = false) ∧
    (reachOf site.ownActing (toOwn 8).dst = .addressed ∧ (toOwn 8).kind = kindRequest ∧ site.mgmt.service = none ∧
      site.mgmt.waiting = [] ∧ (asking [0x01] site).mgmt.service ≠ none ∧ (asking [0x01] site).mgmt.waiting.length < 2 ∧
      reachOf (asking [0x01] site).ownActing (toOwn 8).dst = .addressed) ∧
    (reachOf (pressed 1).ownActing (toOwn 8).dst = .addressed ∧ 2 ≤ (pressed 1).mgmt.waiting.length ∧
      (pressed 1).resp.length < 2 ∧ 2 ≤ (pressed 2).resp.length) ∧
    (reachOf site.ownActing (toOwn 3).dst = .addressed ∧ (toOwn 3).kind ≠ kindRequest) ∧
    (reachOf site.ownActing (toAll 3 []).dst = .broadcast ∧ (toAll 3 []).kind = kindCommand) ∧
    (reachOf site.ownActing (toAll 8 [0x10]).dst = .broadcast ∧ (toAll 8 [0x10]).kind = kindRequest ∧
      (toAll 8 [0x10]).payload.head? = some 0x10 ∧ site.link.downQ.length < 8 ∧
      reachOf (pressed 1).ownActing (toAll 8 [0x10]).dst = .broadcast ∧ (pressed 1).link.downQ.length < 8) ∧
    (reachOf site.ownActing strange.dst ≠ .addressed ∧ strange.kind ≠ kindCommand ∧
      reachOf site.ownActing strange.dst ≠ .broadcast ∧ site.link.downQ.length < 8 ∧ 8 ≤ crowded.link.downQ.length ∧
      crowded.entryAtAddr strange.dst = none) ∧
    (let f := { strange with kind := 3 };
      reachOf site.ownActing f.dst = .passing ∧ f.kind = kindCommand ∧ site.entryAtAddr f.dst = none ∧
        site.link.downQ.length < 8) := by decide +kernel

def order (payload : List Octet) : Frame := ⟨⟨1, 2⟩, ⟨0xFE, 1⟩, 3, 0, payload⟩

/-- An own-address entry found bad at a frame arrival (R3): the broadcast entry acts as disabled; entry 0, with none left
enabled, acts as FEh/FEh; all four disabled, entry 0 acts as stored. -/
theorem test_hyp_PortSFramesByReach_own :
    let a (n : Octet) (on : Bool) : OwnAddr := ⟨⟨5, n⟩, false, on⟩
    (let s := checkOwnTable (spoil .link 3 site);
      (spoil .link 3 site).foundBad .link 3 = true ∧ s.marked .link 3 = true ∧ s.source Src.tableParity = ⟨true, 1, 0xFF⟩ ∧
        reachOf site.ownActing ⟨0xFF, 0xFF⟩ = .broadcast ∧ reachOf s.ownActing ⟨0xFF, 0xFF⟩ = .passing ∧
        reachOf s.ownActing ⟨0xFE, 0xFE⟩ = .addressed) ∧
    (let s := checkOwnTable (spoil .link 0 (owned [a 1 true, a 2 false, a 3 false, a 4 false]));
      s.tables.link.own = [a 1 true, a 2 false, a 3 false, a 4 false] ∧ s.marked .link 0 = true ∧
        reachOf s.ownActing ⟨5, 1⟩ = .passing ∧ reachOf s.ownActing ⟨0xFE, 0xFE⟩ = .addressed) ∧
    (let s := owned [a 1 false, a 2 false, a 3 false, a 4 false];
      reachOf s.ownActing ⟨5, 1⟩ = .addressed ∧ reachOf s.ownActing ⟨5, 2⟩ = .passing) := by decide +kernel

/-- A COMMAND to an entry with a full downstream queue, its entry sound and found bad; other broadcasts that pass. -/
theorem test_hyp_PortSFramesByReach_full :
    (reachOf site.ownActing (order [1]).dst = .passing ∧ (order [1]).payload.length ≤ 240 ∧
      8 ≤ crowded.link.downQ.length ∧ crowded.entryAtAddr (order [1]).dst = some 2 ∧ crowded.foundBad .units 2 = false) ∧
    (let s := spoil .units 2 crowded;
      8 ≤ s.link.downQ.length ∧ s.entryAtAddr (order [1]).dst = some 2 ∧ s.foundBad .units 2 = true ∧
        ∀ j < 48, j ≠ 2 → (s.unitCfg j).inUse = true → (s.unitCfg j).addr ≠ (order [1]).dst) ∧
    (reachOf site.ownActing (toAll 8 [0x11]).dst = .broadcast ∧ (toAll 8 [0x11]).kind = kindRequest ∧
      (toAll 8 [0x11]).payload.head? ≠ some 0x10 ∧ (toAll 2 []).kind ≠ kindCommand ∧ (toAll 2 []).kind ≠ kindRequest) := by
  decide +kernel

def manual : State := site.onComp 0 fun r => { r with mode := .manual }

theorem test_hyp_SupervisorCommandsAreJudged :
    (site.link.downQ.length < 8 ∧ (order [1]).kind = kindCommand ∧ site.entryAtAddr (order [1]).dst = some 2 ∧
      site.foundBad .units 2 = false ∧ (site.unitCfg 2).cls = .compressor ∧ site.compOf 2 = some 0 ∧
      site.foundBad .compressors 0 = false ∧ site.marked .compressors 0 = false ∧ manual.entryAtAddr (order [1]).dst = some 2 ∧
      manual.compOf 2 = some 0) ∧
    ((retabled (fun t => { t with compressors := List.replicate 6 .blank }) site).compOf 2 = none ∧
      (retabled (fun t => { t with dryers := List.replicate 2 .blank }) site).trainOf 1 = none) ∧
    (let s := markOf .compressors 0 site;
      s.compOf 2 = some 0 ∧ s.marked .compressors 0 = true ∧ (order [1]).payload.head? ≠ some 2 ∧
        (order []).payload.head? ≠ some 2) ∧
    ((4 : Octet) ≠ 1 ∧ (4 : Octet) ≠ 2 ∧ (4 : Octet) ≠ 3 ∧ ([0x17] : List Octet).length < 2) ∧
    ((site.compRec 0).mode = .auto ∧ (manual.compRec 0).mode = .manual) ∧
    (max 6000 (min (0x17 * 256 + 0x70) 12000) = 0x17 * 256 + 0x70 ∧ max 6000 (min (0 * 256 + 0) 12000) ≠ 0 * 256 + 0) ∧
    ((starting.compRec 0).state ≠ .stopped ∧ (site.compRec 0).state = .stopped ∧ site.comp.heldEsd = false ∧
      (site.compRec 0).marks.length < (site.compCfg 0).budget) ∧
    (let s := spoil .compressors 0 site;
      s.entryAtAddr (order [1]).dst = some 2 ∧ s.compOf 2 = some 0 ∧ s.foundBad .compressors 0 = true) ∧
    (let s := spoil .units 2 site;
      s.link.downQ.length < 8 ∧ s.entryAtAddr (order [1]).dst = some 2 ∧ s.foundBad .units 2 = true ∧
        ∀ j < 48, j ≠ 2 → (s.unitCfg j).inUse = true → (s.unitCfg j).addr ≠ (order [1]).dst) := by decide +kernel

theorem test_hyp_SupervisorCommandsAreJudged_valves :
    let dst (n : Octet) : Frame := { order [] with dst := ⟨1, n⟩ };
    (site.entryAtAddr (dst 1).dst = some 1 ∧ site.foundBad .units 1 = false ∧ (site.unitCfg 1).cls = .dryerValves ∧
      site.trainOf 1 = some 0 ∧ site.foundBad .dryers 0 = false ∧ 1 ≤ (1 : Octet).toNat ∧ (6 : Octet).toNat ≤ 6 ∧
      6 < (7 : Octet).toNat ∧ (0 : Octet).toNat = 0) ∧
    (site.entryAtAddr (dst 0).dst = some 0 ∧ site.foundBad .units 0 = false ∧ (site.unitCfg 0).cls = .stationValves ∧
      ([0] : List Octet).length < 2 ∧ ¬([0, 0] : List Octet).length < 2) ∧
    (site.entryAtAddr (dst 3).dst = some 3 ∧ site.foundBad .units 3 = false ∧ (site.unitCfg 3).cls = .transmitter) := by
  decide +kernel

def unitState (a : Attach) (departed : Bool) : State :=
  site.onUnit 3 fun u => { u with attach := a, departed := departed, silence := some 100000 }

theorem test_hyp_AnnounceAndDirectoryRequests :
    (frameF 4 [3, 4, 1]).kind = kindAnnounce ∧
    (3 < (unitState .absent true).units.length ∧ (unitState .absent true).ev.recs.length = 48 ∧
      ((unitState .absent true).unit 3).attach = .absent ∧ ((unitState .absent true).unit 3).departed = true ∧
      ((unitState .absent false).unit 3).departed = false) ∧
    (reportedClass 2 = some ((unitState .absent true).unitCfg 3).cls ∧ reportedClass 9 = none) ∧
    ((site.unit 3).attach ≠ .absent ∧ ([1, 2] : List Octet).length ≠ 3) ∧
    (site.units.length = 48 ∧ (asking [0x05, 47] site).Asks (query [0x05, 47]) 0x05 [47] ∧ (47 : Octet).toNat ≤ 47 ∧
      47 < (48 : Octet).toNat) ∧
    ((asking [0x20, 47] site).Asks (query [0x20, 47]) 0x20 [47] ∧ site.unitInUse 47 = false) ∧
    [Attach.absent, .held, .mismatch, .present].all (fun a =>
      (unitState a true).unitInUse 3 && decide (((unitState a true).unit 3).attach = a)) = true := by decide +kernel

def sweeping (l : List Nat) (s : State) : State := { s with engine := { s.engine with remaining := l, sweepDue := some 100000 } }

def waits (ch : Nat) (s : State) : State := s.onChan ch fun c => { c with request := .waiting }

def duty (f : CompRec → CompRec) : State := site.onComp 0 f

def switching (p : SwitchPhase) (valve : Nat) : State :=
  drying.onTrain 0 fun t => { t with switch := some ⟨p, .b, some .a, valve⟩ }

def inMode (m : Mode) : State := { site with mode := { site.mode with mode := m } }

theorem test_hyp_UnitsDepart :
    (2 < 48 ∧ (frameF 5 []).kind = kindDepart ∧ fires site.now (site.unit 47).silence = false ∧
      [Attach.absent, .held, .mismatch, .present].all (fun a =>
        fires (unitState a false).now ((unitState a false).unit 3).silence &&
          decide (((unitState a false).unit 3).attach = a)) = true) ∧
    (let s := sweeping [4] (waits 4 site);
      let w := channelsDeparted 3 (withdrawAll 3 s);
      s.chans.length = 64 ∧ (s.chCfg 4).inUse = true ∧ (s.chCfg 4).unit = 3 ∧ (s.chan 4).request = .waiting ∧
        (s.chCfg 63).inUse = false ∧ s.engine.remaining ≠ [] ∧ w.engine.remaining = []) ∧
    (site.engine.remaining = [] ∧ site.compOf 3 = none ∧ site.compOf 2 = some 0 ∧ (starting.compRec 0).state = .starting ∧
      starting.compOf 2 = some 0 ∧ (site.compRec 0).state = .stopped) ∧
    (site.trainOf 3 = none ∧ drying.trainOf 1 = some 0 ∧ (drying.train 0).switch = none ∧
      (switching .opening 0).trainOf 1 = some 0 ∧ ((switching .opening 0).train 0).switch ≠ none) ∧
    ((inMode (.transition .inject .lineup)).mode.mode = .transition .inject .lineup ∧
      [Dir.inject, .withdraw].all (fun d => decide (site.mode.mode ≠ .transition d .lineup)) = true) := by
  decide +kernel

/-- Channel `ch` holds a pending item, its interval over. -/
def itemWaits (ch : Nat) (s : State) : State :=
  s.onChan ch fun c => { c with pendingItem := some ⟨5, 0⟩, intervalUntil := some 100000 }

/-- Unit 3 has announced four channels. -/
def learned : State := site.onUnit 3 fun u => { u with identity := some ⟨some .transmitter, 4, 0⟩ }

theorem test_hyp_ItemsReachTheirChannels :
    ((frameF 1 []).kind = kindSample ∧ (site.unit 47).attach ≠ .present ∧ (learned.unit 3).attach = .present ∧
      ([3, 0, 0, 0] : List Octet).length < 5) ∧
    (16 ≤ (16 : Octet).toNat ∧ (learned.unit 3).identity = some ⟨some .transmitter, 4, 0⟩ ∧ 4 ≤ (4 : Octet).toNat ∧
      ∀ ch < 64, ¬((learned.chCfg ch).inUse = true ∧ (learned.chCfg ch).unit = 3 ∧
        (learned.chCfg ch).localIx = (5 : Octet).toNat)) ∧
    (let holds (ch : Nat) : Prop := (learned.chCfg ch).inUse = true ∧ (learned.chCfg ch).unit = 3 ∧
        (learned.chCfg ch).localIx = (3 : Octet).toNat;
      (3 : Octet).toNat < 16 ∧ (3 : Octet).toNat < 4 ∧ holds 3 ∧ ∀ j < 3, ¬holds j) := by decide +kernel

theorem test_hyp_ItemsReachTheirChannels_arrival :
    (site.chans.length = 64 ∧ site.foundBad .channels 63 = false ∧ site.marked .channels 63 = false ∧
      (site.chan 63).intervalUntil = none ∧ site.busy 63 = false) ∧
    ([(0, ChannelClass.custody), (3, .process), (4, .survey)].all (fun p =>
      let s := itemWaits p.1 site;
      fires s.now (s.chan p.1).intervalUntil && !s.busy p.1 && decide ((s.chan p.1).pendingItem = some ⟨5, 0⟩) &&
        decide ((s.chCfg p.1).cls = p.2) && decide ((site.chan p.1).intervalUntil = none)) = true) ∧
    ((site.chCfg 0).profile = 0 ∧
      (retabled (fun t => { t with channels := [{ channelAs .custody .flowRate 0 with profile := 7 }] }) site).foundBad
        .filters 6 = false) ∧
    ((itemWaits 0 site).chan 0).intervalUntil ≠ none ∧ (waits 3 site).busy 3 = true ∧
    (∀ ch ∈ [0, 3], (spoil .channels ch site).foundBad .channels ch = true ∧
      (markOf .channels ch site).marked .channels ch = true) ∧
    (fires site.now (site.chan 63).intervalUntil = false ∧
      (let s := site.onChan 0 fun c => { c with intervalUntil := some 1 };
        fires s.now (s.chan 0).intervalUntil = true ∧ (s.chan 0).pendingItem = none)) ∧
    (let s := (itemWaits 3 site).onChan 3 fun c => { c with request := .waiting };
      fires s.now (s.chan 3).intervalUntil = true ∧ s.busy 3 = true) ∧
    (let s := itemWaits 0 (spoil .channels 0 site);
      fires s.now (s.chan 0).intervalUntil = true ∧ (s.chan 0).pendingItem = some ⟨5, 0⟩ ∧ s.busy 0 = false ∧
        (s.chCfg 0).cls = .custody ∧ s.foundBad .channels 0 = true) := by decide +kernel

/-- Channel `ch`, of the class given, conditions with a profile that is bad. -/
def profiled (c : ChannelClass) (ch p : Nat) : State :=
  spoil .filters (p - 1) (retabled (fun t => { t with
    channels := t.channels.modify ch fun x => { x with cls := c, profile := p } }) site)

theorem test_hyp_ItemsReachTheirChannels_filter :
    (let s := profiled .custody 0 7;
      (s.chCfg 0).cls = .custody ∧ s.foundBad .channels 0 = false ∧ s.marked .channels 0 = false ∧ s.chans.length = 64 ∧
        (s.chCfg 0).profile = 6 + 1 ∧ s.foundBad .filters 6 = true ∧ (s.chan 0).intervalUntil = none ∧ s.busy 0 = false) ∧
    (let s := itemWaits 0 (profiled .custody 0 1);
      (s.chCfg 0).profile = 0 + 1 ∧ s.foundBad .filters 0 = true ∧ fires s.now (s.chan 0).intervalUntil = true ∧
        (s.chan 0).pendingItem = some ⟨5, 0⟩ ∧ s.busy 0 = false) ∧
    (let s := waits 3 (profiled .process 3 7);
      s.engine.serving = none ∧ (s.chan 3).request = .waiting ∧ (∀ j < 3, (s.chan j).request ≠ .waiting) ∧
        s.foundBad .channels 3 = false ∧ s.marked .channels 3 = false ∧ (s.chCfg 3).profile = 6 + 1 ∧
        s.foundBad .filters 6 = true) := by decide +kernel

def work (raw : Int) : Conditioning := ⟨raw, 0, channelAs .process .calorific 3, ⟨none, false⟩, false⟩

def serving (raw : Int) : State :=
  { site with engine := { site.engine with serving := some (3, work raw) } }.onChan 3 fun c =>
    { c with request := .inService, ageStart := some 99000 }

theorem test_hyp_ConditioningWritesItsChannel :
    ((serving 0).chans.length = 64 ∧ (work 0).discard = false ∧ ((serving 0).chan 3).pendingItem = none ∧
      (serving 0).engine.serving = some (3, work 0) ∧ (serving 0).marked .channels 3 = false) ∧
    ((work 8000001).cfg.rawMax < (work 8000001).raw ∧ ¬(work 8000000).cfg.rawMax < (work 8000000).raw ∧
      ¬(work 8000000).raw < (work 8000000).cfg.rawMin ∧ octetQuality (work 8000000).rawQ ≠ .bad) ∧
    (let s := site.onChan 0 fun c => { c with custody := some (work 1) };
      (s.chan 0).custody = some (work 1) ∧ (s.chan 0).pendingItem = none ∧ s.chans.length = 64 ∧
        (s.chan 0).request ≠ .waiting ∧ s.marked .channels 0 = false) ∧
    (let k := { work 1 with discard := true };
      let s := { site with engine := { site.engine with serving := some (3, k) } }.onChan 0 fun c => { c with custody := some k };
      k.discard = true ∧ (s.chan 0).custody = some k ∧ (s.chan 0).pendingItem = none ∧ s.engine.serving = some (3, k) ∧
        (s.chan 3).pendingItem = none ∧ 3 ∉ s.engine.remaining) := by decide +kernel

/-- Every channel's entry is sound while the engine serves. -/
theorem test_hyp_ConditioningWritesItsChannel_sound (j : Nat) : (serving 0).foundBad .channels j = false :=
  none_found_bad (by decide +kernel) j

/-- The pending item behind a conditioning: its interval over and the channel free, of each class; with a filter that is sound
and one found bad; at an entry found bad and a marked one; its interval running, the channel busy, and none. -/
theorem test_hyp_ConditioningWritesItsChannel_pending :
    let held (ch : Nat) (s : State) : State := s.onChan ch fun c => { c with pendingItem := some ⟨5, 0⟩ }
    (∀ p ∈ [(0, ChannelClass.custody), (3, .process), (4, .survey)], let s := held p.1 site;
      (s.chan p.1).pendingItem = some ⟨5, 0⟩ ∧ (s.chan p.1).intervalUntil = none ∧ s.busy p.1 = false ∧
        (s.chCfg p.1).cls = p.2 ∧ (s.chCfg p.1).profile = 0 ∧ s.chans.length = 64 ∧
        ((examinePending p.1 s).chan p.1).pendingItem = none ∧ ((examinePending p.1 s).chan p.1).raw = 5) ∧
    (let s := held 0 (profiled .custody 0 7);
      (s.chCfg 0).profile = 6 + 1 ∧ s.foundBad .filters 6 = true ∧ s.busy 0 = false ∧
        (examinePending 0 s).source Src.tableParity = ⟨true, 1, 7⟩ ∧
        (retabled (fun t => { t with channels := t.channels.modify 0 fun x => { x with profile := 1 } }) site).foundBad .filters 0 =
          false) ∧
    (let s := held 0 (spoil .channels 0 site);
      s.foundBad .channels 0 = true ∧ (held 0 (markOf .channels 0 site)).marked .channels 0 = true ∧
        ((examinePending 0 s).chan 0).quality = .bad) ∧
    ((site.chan 0).pendingItem = none ∧ ((itemWaits 0 site).chan 0).intervalUntil ≠ none ∧
      (waits 3 (held 3 site)).busy 3 = true ∧ (examinePending 3 (waits 3 (held 3 site))).chan 3 = (waits 3 (held 3 site)).chan 3) := by
  decide +kernel

/-- Run 0 alone names channel 0 as its flow channel, no run channel 3; a train whose breakthrough comparator is A of channel
3, whose regen comparator is A of channel 4, of both, of neither; its entry marked, HELD and free. -/
theorem test_hyp_ConditioningWritesItsChannel_notices :
    ((∀ r < 8, ¬((site.runCfg r).role ≠ .unused ∧ (site.runCfg r).flow = 3)) ∧
      ((site.runCfg 0).role ≠ .unused ∧ (site.runCfg 0).flow = 0) ∧
      ∀ j < 8, j ≠ 0 → ¬((site.runCfg j).role ≠ .unused ∧ (site.runCfg j).flow = 0)) ∧
    (let e : DryerCfg := { dryerOf with outlet := 3, breakCmp := .a, regenCh := some 4, regenCmp := some .a };
      let s := retabled (fun t => { t with dryers := [e, .blank] }) site;
      let c := s.dryerCfg 0;
      let breaks (ch : Nat) (x : CmpId) : Prop := c.inUse = true ∧ c.outlet = ch ∧ c.breakCmp = x;
      let regens (ch : Nat) (x : CmpId) : Prop := c.inUse = true ∧ c.regenCh = some ch ∧ c.regenCmp = some x;
      (¬breaks 3 .b ∧ ¬regens 3 .b) ∧ (breaks 3 .a ∧ ¬regens 3 .a) ∧ (¬breaks 4 .a ∧ regens 4 .a) ∧
      s.foundBad .dryers 0 = false ∧ s.marked .dryers 0 = false ∧ (s.train 0).held = false) ∧
    (let c := { dryerOf with outlet := 3, breakCmp := .a, regenCh := some 3, regenCmp := some .a };
      (c.inUse = true ∧ c.outlet = 3 ∧ c.breakCmp = .a) ∧ (c.inUse = true ∧ c.regenCh = some 3 ∧ c.regenCmp = some .a)) ∧
    ((useTrain 0 (markOf .dryers 0 site)).marked .dryers 0 = true ∧
      ((useTrain 0 (site.onTrain 0 fun t => { t with held := true })).train 0).held = true ∧
      (useTrain 0 site).marked .dryers 0 = false ∧ ((useTrain 0 site).train 0).held = false) := by decide +kernel

/-- A channel found bad while the engine serves it; a profile with more taps than values and one with as many; the four
modes of a comparator that can change, each at its thresholds (R54). -/
theorem test_hyp_ConditioningWritesItsChannel_stages :
    ((spoil .channels 3 (serving 0)).foundBad .channels 3 = true ∧ ((spoil .channels 3 (serving 0)).chan 3).pendingItem = none) ∧
    (let p : Profile := ⟨[[⟨false, 1⟩], [⟨false, 1⟩]]⟩;
      (0 :: (site.chan 3).history).length < p.taps.length ∧ p.taps.length ≤ (0 :: [1] : List Int).length) ∧
    (let m (mode : CmpMode) : Comparator := ⟨mode, 100, 200, 10⟩;
      comparatorAfter (m .off) true 100 = false ∧
      [99, 100].map (comparatorAfter (m .below) false) = [true, false] ∧
      [110, 111].map (comparatorAfter (m .below) true) = [true, false] ∧
      [99, 100, 200, 201].map (comparatorAfter (m .inside) false) = [false, true, true, false] ∧
      [89, 90, 210, 211].map (comparatorAfter (m .inside) true) = [false, true, true, false] ∧
      [99, 100, 200, 201].map (comparatorAfter (m .outside) false) = [true, false, false, true] ∧
      [109, 110, 190, 191].map (comparatorAfter (m .outside) true) = [true, false, false, true]) := by decide +kernel

theorem test_hyp_EngineAndSweepsBegin :
    (serving 0).engine.serving ≠ none ∧ (∀ ch < 64, (site.chan ch).request ≠ .waiting) ∧
    (let s := waits 4 (waits 3 site);
      s.engine.serving = none ∧ (s.chan 3).request = .waiting ∧ (∀ j < 3, (s.chan j).request ≠ .waiting) ∧
        s.foundBad .channels 3 = false ∧ s.marked .channels 3 = false ∧ (s.chCfg 3).profile = 0) ∧
    (∀ s ∈ [markOf .channels 63 (waits 63 site), spoil .channels 63 (waits 63 site)], s.engine.serving = none ∧
      (s.chan 63).request = .waiting ∧ ∀ j < 63, (s.chan j).request ≠ .waiting) ∧
    ((markOf .channels 63 (waits 63 site)).marked .channels 63 = true ∧
      (spoil .channels 63 (waits 63 site)).foundBad .channels 63 = true) := by decide +kernel

/-- Channel 4 as a sweep lists it: with its raw value unconditioned or not, sound, marked and found bad. -/
theorem test_hyp_EngineAndSweepsBegin_sweep :
    (let s := site.onChan 4 fun c => { c with unconditioned := true };
      s.chans.length = 64 ∧ s.present (s.chCfg 4).unit = true ∧ (s.chan 4).unconditioned = true ∧
        s.foundBad .channels 4 = false ∧ s.marked .channels 4 = false ∧ (spoil .channels 4 s).foundBad .channels 4 = true ∧
        (markOf .channels 4 s).marked .channels 4 = true ∧ ((s.onUnit 3 fun u => { u with attach := .held }).unit 3).attach ≠ .present ∧
        (site.chan 4).unconditioned = false ∧ s.engine.remaining = [] ∧ 4 ∈ s.surveyed) ∧
    ((asking [0x30] site).Asks (query [0x30]) 0x30 [] ∧ site.engine.remaining = [] ∧ (sweeping [4] site).engine.remaining ≠ []) ∧
    (fires (sweeping [4] site).now (sweeping [4] site).engine.sweepDue = true ∧ (sweeping [4] site).marked .station 0 = false ∧
      (sweeping [4] site).foundBad .station 0 = false ∧ (sweeping [] site).engine.remaining = [] ∧
      (spoil .station 0 (sweeping [4] site)).foundBad .station 0 = true) ∧
    (fires site.now site.engine.sweepDue = false ∧ (markOf .station 0 site).marked .station 0 = true ∧
      (markOf .station 0 site).foundBad .station 0 = false) := by decide +kernel

/-- Channel 1 measures the storage pressure and channel 2 the pipeline pressure, with the two values given. -/
def pressures (q : Quality) (a b : Int) (flag : Bool) : State :=
  let good (v : Int) : ChannelState := { ChannelState.initial none with quality := .good, filtered := some v }
  { retabled (fun t => { t with station :=
      { t.station with storage := some 1, pipeline := some 2, margin := 1000, hyst := 500 } }) site with
    chans := [.initial none, { good a with quality := q }, good b] ++ List.replicate 61 (.initial none)
    mode := { site.mode with flag := flag } }

theorem test_hyp_AgeTimerAndCompressionFlag :
    (let s := site.onChan 0 fun c => { c with ageStart := some 90000 };
      s.chans.length = 64 ∧ (s.chan 0).ageStart = some 90000 ∧ 90000 + (s.chCfg 0).maxAge * 1000 ≤ s.now) ∧
    (let u := site.onChan 0 fun c => { c with ageStart := some 90001 };
      (u.chan 0).ageStart = some 90001 ∧ u.now < 90001 + (u.chCfg 0).maxAge * 1000) ∧
    (site.chan 63).ageStart = none ∧
    (let s := pressures .good 9000 8000 false;
      s.foundBad .station 0 = false ∧ s.stationRead.storage = some 1 ∧ s.stationRead.pipeline = some 2 ∧
        s.foundBad .channels 1 = false ∧ s.foundBad .channels 2 = false ∧ s.stationRead.storage ≠ some 3 ∧
        s.stationRead.pipeline ≠ some 3 ∧ (s.chCfg 1).inUse = true ∧ (s.chan 1).filtered = some 9000) ∧
    ((retabled (fun t => { t with station := { t.station with storage := none } }) site).stationRead.storage = none) ∧
    ((pressures .stale 9000 8000 false).chan 1).quality = .stale ∧
    ([(9000, false), (8999, true)].map (fun p => decide (p.1 - 8000 < (1000 : Int))) = [false, true] ∧
      decide ((9499 : Int) - 8000 < ((1000 + 500 : Nat) : Int)) = true ∧
      decide ((9500 : Int) - 8000 < ((1000 + 500 : Nat) : Int)) = false) := by decide +kernel

theorem test_hyp_AgeTimerAndCompressionFlag_unusable : ∀ v : Int,
    ¬(((pressures .stale 9000 8000 false).chCfg 1).inUse = true ∧
      (((pressures .stale 9000 8000 false).chan 1).quality = .good ∨
        ((pressures .stale 9000 8000 false).chan 1).quality = .suspect) ∧
      ((pressures .stale 9000 8000 false).chan 1).filtered = some v) := by
  rintro v ⟨-, h | h, -⟩ <;> exact absurd h (by decide +kernel)

theorem test_hyp_StatusAndChannelReads :
    (asking [0x01] site).Asks (query [0x01]) 0x01 [] ∧
    ((asking [0x02, 63] site).Asks (query [0x02, 63]) 0x02 [63] ∧ (63 : Octet).toNat ≤ 63 ∧ 63 < (64 : Octet).toNat ∧
      (asking [0x02, 64] site).Asks (query [0x02, 64]) 0x02 [64] ∧
      site.foundBad .channels 63 = false ∧ (spoil .channels 63 site).foundBad .channels 63 = true) ∧
    ((asking [0x03, 63] site).Asks (query [0x03, 63]) 0x03 [63] ∧
      (asking [0x03, 64] site).Asks (query [0x03, 64]) 0x03 [64]) := by decide +kernel

theorem test_hyp_ActualVolumeLosesNothing :
    (-50000000 : Int).natAbs ≤ 50000000 ∧ 60000 ≤ 60000 ∧ 359 < 360 := by decide

theorem test_hyp_TriggerComputesEnergy :
    let s := metering .withdraw (-50000000)
    (0 < s.runs.length ∧ s.foundBad .runs 0 = false ∧ s.marked .runs 0 = false ∧ (s.run 0).mark = some 99000 ∧
      s.ev.recs.length = 48) ∧
    ((site.run 7).mark = none ∧ (markOf .runs 0 s).marked .runs 0 = true) ∧
    ((((trigger 0 s).run 0).last.map fun t => (t.acc, decide (0 < t.vb))) = some (some 1, true) ∧
      (((trigger 0 (metering .inject 50000000)).run 0).last.map fun t => (t.acc, decide (0 < t.vb))) =
        some (some 0, true) ∧ (s.run 0).role = .station) := by
  decide +kernel

/-- A RUNS entry found bad at a trigger. -/
theorem test_hyp_TriggerComputesEnergy_bad :
    let s := spoil .runs 7 site
    7 < s.runs.length ∧ s.foundBad .runs 7 = true := by decide +kernel

/-- R76: the accumulator by mode and sign of flow, with no flow, and of a run of another role. -/
theorem test_classification :
    let acc (m : Mode) (q : Int) : Option (Option Nat) := ((trigger 0 (metering m q)).run 0).last.map (·.acc)
    [acc .withdraw 1, acc .inject (-1), acc .shutIn 1, acc .shutIn (-1), acc .inject 0] =
        [some (some 2), some (some 3), some (some 2), some (some 3), some none] ∧
      (((trigger 0 ((metering .withdraw (-1)).onRun 0 fun x => { x with role := .fuel })).run 0).last.map (·.acc)) =
        some (some 0) := by decide +kernel

/-- `metering` with the quality and pressure of channel 1 given, its age timer started at `t0`. -/
def pressed1 (q : Quality) (p : Int) (t0 : Nat) : State :=
  (metering .inject 1500000).onChan 1 fun c => { c with quality := q, filtered := some p, ageStart := some t0 }

theorem test_hyp_TriggerInputsAndReference :
    (let s := metering .inject 50000001;
      0 < s.runs.length ∧ s.foundBad .runs 0 = false ∧ s.marked .runs 0 = false ∧ (s.run 0).mark = some 99000 ∧
        (∀ ch ∈ [0, 1, 2], s.foundBad .channels ch = false) ∧ (s.chCfg 0).inUse = true ∧ (s.chan 0).quality = .good ∧
        (s.chan 0).filtered = some 50000001 ∧ (s.chan 1).quality = .good ∧ (s.chan 2).quality = .good) ∧
    ((site.chan 0).quality ≠ .good ∧ (site.chan 0).quality ≠ .suspect) ∧
    (let s := pressed1 .suspect 8000000 40000;
      s.now - 40000 ≤ (s.runCfg 0).ptMaxAge * 1000 ∧ ¬s.now - 39999 ≤ (s.runCfg 0).ptMaxAge * 1000 ∧
        (s.chan 1).ageStart = some 40000 ∧ ((s.chan 1).quality = .suspect ∧ (s.chan 1).filtered = some 8000000)) ∧
    ([6999999, 7000000, 7000001, 9000000, 9000001].map fun p =>
      ((trigger 0 (pressed1 .good p 99000)).run 0).last.map fun t => (t.p, t.z)) =
        [some (6999999, 880000), some (7000000, 880000), some (7000001, 880000), some (9000000, 860000),
          some (9000001, 860000)] ∧
    ([RefState.ready, .stale, .fault, .none].all fun ref =>
      let s := (metering .inject 1500000).onRun 0 fun x => { x with ref := ref };
      decide ((s.run 0).ref = ref ∧ (s.runCfg 0).calCh = some 3 ∧ (s.run 0).lastH = some 41200)) = true := by
  decide +kernel

theorem test_hyp_TriggerInputsAndReference_curve : runOf.curve.Pairwise fun a b => a.1 < b.1 := by decide

theorem test_hyp_TriggerInputsAndReference_reference :
    (site.runs.length = 8 ∧ site.ev.recs.length = 48 ∧ (site.runCfg 0).calCh = some 3 ∧ site.marked .runs 0 = false ∧
      (site.runCfg 7).calCh ≠ some 3) ∧
    (let s (q : Quality) : State := site.onChan 3 fun c => { c with quality := q, filtered := some 39000 };
      ((s .good).chan 3).quality = .good ∧ ((s .good).chan 3).filtered = some 39000 ∧ ((s .bad).chan 3).quality = .bad ∧
        (site.run 0).ref = .ready ∧ ((s .suspect).chan 3).quality = .suspect) ∧
    (let s := site.onRun 0 fun x => { x with ref := .fault };
      (s.run 0).ref = .fault ∧ (s.run 0).ref ≠ .ready) ∧
    (let s := site.onRun 0 fun x => { x with refTimer := some 100000 };
      fires s.now (s.run 0).refTimer = true ∧ s.marked .runs 0 = false ∧ (s.run 0).ref = .ready ∧
        (markOf .runs 0 s).marked .runs 0 = true) ∧
    fires site.now (site.run 7).refTimer = false ∧
    ((asking [0x04, 7] site).Asks (query [0x04, 7]) 0x04 [7] ∧ (7 : Octet).toNat ≤ 7 ∧ 7 < (8 : Octet).toNat ∧
      site.foundBad .runs 7 = false ∧ (spoil .runs 7 site).foundBad .runs 7 = true) := by decide +kernel

theorem test_hyp_HandoverLosesNoEnergy :
    (7 < site.runs.length ∧ (site.run 0).role ≠ .unused ∧ (site.run 7).role = .unused ∧
      3 < (site.run 0).role.accumulators ∧ (site.run 7).role.accumulators ≤ 0) ∧
    (let g (n : Nat) : Group := ⟨n, 0, 0, 0, 0, 0, 0, false, false⟩;
      let s := { site with acct := { site.acct with groups := [g 1] ++ g 2 :: [g 3] } };
      s.acct.groups = [g 1] ++ g 2 :: [g 3] ∧ (g 2).num = 2 ∧ (∀ h ∈ [g 1] ++ [g 3], h.num ≠ 2) ∧
        ∀ h ∈ s.acct.groups, h.num ≠ 4) := by decide +kernel

def atTime (count : Nat) (unset : Bool) : State := { site with time := { site.time with count := count, unset := unset } }

def anImage : StoredImage := ⟨[], 0, 0⟩

/-- A pending STATION image at a boundary: of another sweep period, of another interval length, and one found bad. -/
theorem test_hyp_BoundariesAndTimeWrap_station :
    let pend (f : StationCfg → StationCfg) (s : State) : State := { s with ret := { s.ret with
      pendStation := some ⟨encodeTable { tablesOf with station := f tablesOf.station } .station, 0, 0⟩ } }
    let due := atTime 39600000 false
    let t (f : StationCfg → StationCfg) : State := after .boundary (pend f due)
    due.ret.pendStation = none ∧ (pend id due).ret.pendStation ≠ none ∧ (pend id due).ret.pendRuns = none ∧
      ((t id).tables.station, (t id).engine.sweepDue, (t id).time.next) = (site.tables.station, none, some 43200000) ∧
      (t fun c => { c with sweep := 60 }).engine.sweepDue = some 160000 ∧
      (t fun c => { c with lMin := 15 }).time.next = some 40500000 ∧
      ((t id).source Src.tableCommitted).latch = true ∧ (spoil .station 0 due).foundBad .station 0 = true := by
  decide +kernel

theorem test_hyp_BoundariesAndTimeWrap :
    ((atTime (2 ^ 48 - 1) false).time.count < 2 ^ 48 ∧ (atTime (2 ^ 48) false).time.count = 2 ^ 48 ∧
      (atTime (2 ^ 48) false).time.unset = false ∧ (atTime (2 ^ 48) true).time.unset = true ∧
      (atTime (2 ^ 48) true).time.count = 2 ^ 48) ∧
    ((atTime 39600000 false).boundaryDue = true ∧ (atTime 39600000 false).ret.pendRuns = none ∧
      (atTime 39600000 false).runs.length = 8) ∧
    (let s := { atTime 39600000 false with ret := { site.ret with pendRuns := some anImage } };
      s.boundaryDue = true ∧ s.ret.pendRuns = some anImage ∧ s.runs.length = 8) ∧
    (atTime 39599999 false).boundaryDue = false := by decide +kernel

def six (n : Nat) : List Octet := be 6 n

theorem test_hyp_SetTimeByCase :
    ((six 36450000).length = 6 ∧ fieldAt (six 36450000) 0 6 = 36450000) ∧
    ((asking (0x10 :: six 36450000) (atTime 0 true)).Asks (query (0x10 :: six 36450000)) 0x10 (six 36450000) ∧
      (atTime 0 true).time.unset = true) ∧
    ((asking (0x10 :: six 36450000) site).Asks (query (0x10 :: six 36450000)) 0x10 (six 36450000) ∧
      site.time.unset = false ∧ fieldAt (six 36450000) 0 6 = site.time.count) ∧
    (fieldAt (six 36449999) 0 6 < site.time.count ∧ site.time.count < fieldAt (six 36450001) 0 6) ∧
    (site.time.next = some 39600000 ∧ fieldAt (six 39599999) 0 6 < 39600000 ∧ 39600000 ≤ fieldAt (six 39600000) 0 6) ∧
    (site.acct.closing = none ∧
      { site with acct := { site.acct with closing := some ⟨⟨1, 0, 0, false, false⟩, [], 0, false, [], none⟩ } }.acct.closing ≠
        none) := by decide +kernel

/-- A broadcast SET_TIME in service, with a full response queue. -/
theorem test_hyp_SetTimeByCase_broadcast :
    let q := { query (0x10 :: six 36450000) with noResponse := true }
    let s := { pressed 2 with mgmt := { (pressed 2).mgmt with service := some (.taken q) } }
    s.mgmt.service = some (.taken q) ∧ q.payload = 0x10 :: six 36450000 ∧ q.noResponse = true ∧ s.time.unset = false ∧
      fieldAt (six 36450000) 0 6 = s.time.count := by decide +kernel

theorem test_hyp_SetModeByCase :
    ((asking [0x11, 2] site).Asks (query [0x11, 2]) 0x11 [2] ∧ (0 : Octet).toNat = 0 ∧ 2 < (3 : Octet).toNat ∧
      (1 : Octet).toNat = Dir.inject.code + 1 ∧ (2 : Octet).toNat = Dir.withdraw.code + 1) ∧
    { site with mode := { site.mode with esd := true } }.mode.esd ≠ false ∧
    [Mode.shutIn, .inject, .withdraw, .transition .inject .lineup, .transition .withdraw .rundown].all (fun m =>
      let s := { inMode m with dry := { site.dry with trains := [{ Train.initial with state := .inService, bedA :=
        { Bed.initial with state := .adsorbing } }, .initial] } };
      !s.mode.esd && s.stationPresent && s.withdrawalPrecondition && decide (s.mode.mode = m)) = true := by decide +kernel

/-- The withdrawal precondition holds and fails; a station valve set stands at entry 0, at none, and is not PRESENT; the
STATION record is found bad. -/
theorem test_hyp_SetModeByCase_entry :
    (site.withdrawalPrecondition = true ∧
      { site with dry := { site.dry with trains := [{ Train.initial with state := .inService }, .initial] } }.withdrawalPrecondition =
        false) ∧
    ((site.unitInUse 0 = true ∧ (site.unitCfg 0).cls = .stationValves ∧ site.stationPresent = true) ∧
      (site.onUnit 0 fun u => { u with attach := .held }).stationPresent = false ∧
      (retabled (fun t => { t with units := t.units.set 0 .blank }) site).stationPresent = false ∧
      ∀ e < 48, ¬((retabled (fun t => { t with units := t.units.set 0 .blank }) site).unitInUse e = true ∧
        ((retabled (fun t => { t with units := t.units.set 0 .blank }) site).unitCfg e).cls = .stationValves)) ∧
    ((spoil .station 0 site).foundBad .station 0 = true ∧ (spoil .station 0 site).stationPresent = true) := by decide +kernel

def timed (m : Mode) (t : Option Nat) : State :=
  { site with mode := { site.mode with mode := m, tLineup := t, tRundown := t, tQuiet := t } }

theorem test_hyp_TransitionTimersExpire :
    (timed (.transition .inject .lineup) (some 100000)).mode.mode = .transition .inject .lineup ∧
    (let s := timed (.transition .inject .rundown) (some 100000);
      s.mode.mode = .transition .inject .rundown ∧ fires s.now s.mode.tQuiet = true ∧ s.foundBad .station 0 = false ∧
        (Dir.inject = .withdraw → s.withdrawalPrecondition = true) ∧ s.stationPresent = true) ∧
    (let s := { timed (.transition .withdraw .rundown) (some 100000) with
        dry := { site.dry with trains := [{ Train.initial with state := .inService }, .initial] } };
      s.mode.mode = .transition .withdraw .rundown ∧ fires s.now s.mode.tQuiet = true ∧ s.withdrawalPrecondition = false) ∧
    (let s := (timed (.transition .inject .rundown) (some 100000)).onUnit 0 fun u => { u with attach := .absent };
      fires s.now s.mode.tQuiet = true ∧ s.foundBad .station 0 = false ∧ s.stationPresent = false) ∧
    (let s := timed (.transition .inject .rundown) (some 100001);
      fires s.now s.mode.tQuiet = false) ∧
    [Dir.inject, .withdraw].all (fun d => [Phase.lineup, .rundown].all fun p =>
      decide (site.mode.mode ≠ .transition d p)) = true := by decide +kernel

/-- A STATION record as loaded, and under a mark: the interval length is kept, the other fields are the defaults. -/
theorem test_hyp_TransitionTimersExpire_read :
    let s := retabled (fun t => { t with station := ⟨15, 60, some 1, some 2, 1, 2, 3, 4, 100, 20, 0⟩ }) site
    s.marked .station 0 = false ∧ s.stationRead = s.tables.station ∧ (markOf .station 0 s).marked .station 0 = true ∧
      (markOf .station 0 s).stationRead = ⟨15, 0, none, none, 300000, 50000, 10000, 60, 1200, 300, 80⟩ := by decide +kernel

/-- A station whose one STATION run shows the rate given, in the mode given, with the quiet dwell timer given; the dwell runs
out with the STATION record bad. -/
def flowing (q : Option Int) (m : Mode) (t : Option Nat) : State :=
  (timed m t).onRun 0 fun x => { x with last := q.map fun q => ⟨0, q, 0, 0, 0, 0, 0, 0, 0, none,
    ⟨false, false, false, false, false, false, false, false, false, false, false, false⟩⟩ }

/-- R93: a station flow at the threshold is quiet, one above it is not, nor is an unknown one; the timer is started, kept and
stopped. -/
theorem test_hyp_TransitionTimersExpire_flow :
    let down := Mode.transition .inject .rundown
    let limit : Nat := site.stationRead.quietThreshold
    ((flowing (some 0) .inject none).runs.all (fun x => decide (x.role ≠ .station) || x.last.isSome) = true ∧
      (flowing none down none).runs.any (fun x => decide (x.role = .station) && x.last.isNone) = true) ∧
    ((flowNotice (flowing (some limit) down none)).mode.tQuiet = some (100000 + site.stationRead.quietDwell * 1000) ∧
      (flowNotice (flowing (some (-limit)) down (some 7))).mode.tQuiet = some 7 ∧
      (flowNotice (flowing (some (limit + 1)) down (some 7))).mode.tQuiet = none ∧
      (flowNotice (flowing none down (some 7))).mode.tQuiet = none ∧
      (flowNotice (flowing none .inject (some 7))).mode.tQuiet = some 7) ∧
    (let s := spoil .station 0 (flowing (some 0) down (some 100000));
      s.mode.mode = .transition .inject .rundown ∧ fires s.now s.mode.tQuiet = true ∧ s.foundBad .station 0 = true) ∧
    (let s := spoil .station 0 (timed (.transition .withdraw .rundown) (some 100000));
      s.foundBad .station 0 = true ∧ fires s.now s.mode.tQuiet = true ∧
        { s with dry := { s.dry with trains := [{ Train.initial with state := .inService }, .initial] } }.withdrawalPrecondition =
          false) := by decide +kernel

def under (esd : Bool) (m : Mode) : State := { site with mode := { site.mode with mode := m, esd := esd } }

theorem test_hyp_LineupAndEsdReports :
    (let f := frameF 2 [1, 1];
      f.kind = kindState ∧ site.present 0 = true ∧ (site.unitCfg 0).cls = .stationValves ∧ (frameF 2 [1]).payload.length < 2 ∧
        f.payload = 1 :: 1 :: []) ∧
    ((under true .shutIn).mode.esd = true ∧ (under false .inject).mode.esd = false ∧ (under true .shutIn).present 0 = true) ∧
    ([(Dir.inject, (1 : Octet), Lineup.inject), (.withdraw, 2, .withdraw)].all (fun p =>
      decide (site.mode.mode ≠ .transition p.1 .lineup) &&
        decide ((under false (.transition p.1 .lineup)).mode.mode = .transition p.1 .lineup) &&
        decide (lineupOf p.2.1 = p.2.2)) = true) ∧
    ((under false .inject).mode.mode = .inject ∧ (under false .withdraw).mode.mode = .withdraw ∧ lineupOf 0 = .shut ∧
      lineupOf 3 ≠ .shut ∧ lineupOf 3 ≠ .inject ∧ lineupOf 3 ≠ .withdraw) ∧
    ((starting.compRec 0).state = .starting ∧ starting.unsent (starting.compRec 0).entry isStart = false ∧
      (let s := offerOwn 2 .start starting;
        (s.compRec 0).state = .starting ∧ s.unsent (s.compRec 0).entry isStart = true)) ∧
    (let s := duty fun r => { r with state := .running };
      let u := s.onUnit 2 fun x => { x with attach := .held };
      (s.compRec 0).state = .running ∧ s.present (s.compRec 0).entry = true ∧ (u.compRec 0).state = .running ∧
        u.present (u.compRec 0).entry = false ∧ (site.compRec 0).state ≠ .starting ∧ (site.compRec 0).state ≠ .running) := by
  decide +kernel

/-- A channel in SPAN_FRACTION format, one with a parity mark, and both ends of a range (R58). -/
theorem test_hyp_StatusAndChannelReads_span :
    let c := site.chCfg 0
    (c.engMin < c.engMax ∧ (spanFraction c c.engMin, spanFraction c c.engMax) = (0, 32767)) ∧
      (c.spanFormat && !site.marked .channels 0) = true ∧
      ((markOf .channels 0 site).chCfg 0 = c ∧ (c.spanFormat && !(markOf .channels 0 site).marked .channels 0) = false) := by
  decide +kernel

/-- A channel that a sweep does not list, one of two that it still waits for, and the last. -/
theorem test_hyp_EngineAndSweepsBegin_counts :
    4 ∉ site.engine.remaining ∧ 4 ∈ (sweeping [4, 5] site).engine.remaining ∧
      (sweepCounts 4 (sweeping [4, 5] site)).engine.remaining = [5] ∧
      ((sweepCounts 4 (sweeping [4, 5] site)).source Src.sweepDone).latch = false ∧
      (sweepCounts 4 (sweeping [4] site)).engine.remaining = [] ∧
      ((sweepCounts 4 (sweeping [4] site)).source Src.sweepDone).latch = true := by decide +kernel

/-- R139: WITHDRAW is entered, with train 0 synchronised and not, in use and not; it is kept, and another mode is told. -/
theorem test_hyp_LineupAndEsdReports_drying :
    (site.dry.heldMode ≠ .withdraw ∧ drying.dry.heldMode = .withdraw) ∧
    (let s := { drying with dry := { drying.dry with heldMode := .shutIn } };
      (s.dryerCfg 0).inUse = true ∧ (s.train 0).synced = true ∧ s.marked .dryers 0 = false ∧ (s.dryerCfg 1).inUse = false ∧
        (site.train 0).synced = false ∧ (dryMode .withdraw s).dry.heldMode = .withdraw) := by decide +kernel

theorem test_hyp_CompressorReports :
    (let f := frameF 2 [2];
      f.kind = kindState ∧ (site.onUnit 2 fun u => { u with attach := .held }).present 2 = false ∧ site.present 2 = true ∧
        (site.unitCfg 2).cls = .compressor ∧ (frameF 2 []).payload = [] ∧ f.payload = 2 :: [] ∧ site.compOf 2 = some 0 ∧
        site.comp.recs.length = 6) ∧
    ((retabled (fun t => { t with compressors := List.replicate 6 .blank }) site).compOf 2 = none) ∧
    (let s := spoil .compressors 0 site;
      s.present 2 = true ∧ s.compOf 2 = some 0 ∧ s.foundBad .compressors 0 = true) ∧
    (let s := markOf .compressors 0 site;
      s.compOf 2 = some 0 ∧ s.marked .compressors 0 = true) ∧
    (site.foundBad .compressors 0 = false ∧ site.marked .compressors 0 = false ∧
      [DutyState.unavailable, .lockedOut, .stopped, .cooldown, .starting, .running, .unloading].all (fun st =>
        let s := duty fun r => { r with state := st };
        decide ((s.compRec 0).state = st) && s.present 2 && decide (s.compOf 2 = some 0)) = true) ∧
    (conditionOf 0 = .stopped ∧ conditionOf 2 = .running ∧ conditionOf 3 = .tripped ∧ conditionOf 1 = .transient ∧
      conditionOf 4 = .transient ∧ (site.compRec 0).lockHeld = false ∧
      ((duty fun r => { r with lockHeld := true }).compRec 0).lockHeld = true) := by decide +kernel

theorem test_hyp_DutyTimersExpire :
    (site.comp.recs.length = 6 ∧ (site.compRec 5).state ≠ .starting) ∧
    ((starting.compRec 0).state = .starting ∧ fires starting.now (starting.compRec 0).tStart = true ∧
      (starting.compRec 0).failures = 0) ∧
    (let s := starting.onComp 0 fun r => { r with failures := 1 };
      (s.compRec 0).state = .starting ∧ fires s.now (s.compRec 0).tStart = true ∧ 1 ≤ (s.compRec 0).failures) ∧
    (let s := duty fun r => { r with state := .running, tMinRun := some 100000, stopPending := true };
      fires s.now (s.compRec 0).tMinRun = true ∧ (s.compRec 0).stopPending = true ∧ (s.compRec 0).state = .running) ∧
    (let s := duty fun r => { r with state := .running, tMinRun := some 100000 };
      fires s.now (s.compRec 0).tMinRun = true ∧ (s.compRec 0).stopPending = false) ∧
    (let s := duty fun r => { r with state := .unloading, tStop := some 100000 };
      (s.compRec 0).state = .unloading ∧ fires s.now (s.compRec 0).tStop = true) ∧
    (let s := duty fun r => { r with state := .cooldown, tCool := some 100000 };
      (s.compRec 0).state = .cooldown ∧ fires s.now (s.compRec 0).tCool = true) ∧
    (fires site.now (site.compRec 5).tMinRun = false ∧ (site.compRec 5).state ≠ .unloading ∧
      (site.compRec 5).state ≠ .cooldown) ∧
    (let s := { duty fun r => { r with marks := [0] } with now := 3600000 };
      (∃ m ∈ (s.compRec 0).marks, m + (s.compCfg 0).window * 1000 ≤ s.now) ∧
        ∀ m ∈ ({ s with now := 3599999 }.compRec 0).marks, 3599999 < m + (s.compCfg 0).window * 1000) := by
  decide +kernel

theorem test_hyp_DutyRequests :
    ((asking [0x19, 0] site).Asks (query [0x19, 0]) 0x19 [0] ∧ (asking [0x1A, 5] site).Asks (query [0x1A, 5]) 0x1A [5] ∧
      (asking [0x1B, 6] site).Asks (query [0x1B, 6]) 0x1B [6] ∧ 5 < (6 : Octet).toNat ∧ site.compInUse 5 = false ∧
      site.compInUse 0 = true ∧ (markOf .compressors 0 site).marked .compressors 0 = true ∧
      (markOf .compressors 0 site).compInUse 0 = true ∧ site.marked .compressors 0 = false) ∧
    ((site.compRec 0).state ≠ .lockedOut ∧
      ((duty fun r => { r with state := .lockedOut, lastReport := some .stopped }).compRec 0).lastReport = some .stopped) ∧
    ((site.compRec 0).mode = .auto ∧ (manual.compRec 0).mode = .manual) ∧
    (asking [0x18] site).Asks (query [0x18]) 0x18 [] ∧
    ((asking [0x06, 5] site).Asks (query [0x06, 5]) 0x06 [5] ∧ site.foundBad .compressors 5 = false ∧
      (spoil .compressors 5 site).foundBad .compressors 5 = true) := by decide +kernel

theorem test_hyp_DutyOrderAndEvaluation :
    [2, 0, 1].Nodup ∧
    (let s (m : Mode) (flag : Bool) : State := { site with comp := { site.comp with heldMode := m, heldFlag := flag } };
      (s .inject false).comp.heldMode = .inject ∧ (s .withdraw true).comp.heldMode = .withdraw ∧
        (s .withdraw true).comp.heldFlag = true ∧ (s .withdraw false).comp.heldFlag = false ∧
        (s .shutIn false).comp.heldMode ≠ .inject ∧ (s .shutIn false).comp.heldMode ≠ .withdraw) ∧
    ((∀ k ∈ site.comp.order, site.foundBad .compressors k = false) ∧ site.acct.compCap = site.comp.published) ∧
    ((site.compRec 0).state = .stopped ∧ 0 ∉ ([] : List Nat) ∧ 0 ∈ [0] ∧ site.comp.heldEsd = false ∧
      (site.compRec 0).marks.length < (site.compCfg 0).budget ∧ (site.compRec 0).marks.length ≤ 7 ∧
      site.present (site.compRec 0).entry = true ∧
      (site.compCfg 0).budget ≤ ((duty fun r => { r with marks := [0, 1, 2] }).compRec 0).marks.length ∧
      (let u := site.onUnit 2 fun x => { x with attach := .absent };
        (u.compRec 0).state = .stopped ∧ u.present (u.compRec 0).entry = false)) ∧
    (let s := duty fun r => { r with state := .running, tMinRun := some 1 };
      (s.compRec 0).state = .running ∧ (s.compRec 0).tMinRun ≠ none) ∧
    (let s := duty fun r => { r with state := .running };
      let u := s.onUnit 2 fun x => { x with attach := .absent };
      (s.compRec 0).tMinRun = none ∧ s.present (s.compRec 0).entry = true ∧ (u.compRec 0).tMinRun = none ∧
        u.present (u.compRec 0).entry = false ∧
        ((s.comp.order.filter fun k => decide ((s.compRec k).state = .running)).map fun k =>
          (s.compCfg k).capacity).sum ≠ 0 ∧ (s.compRec 0).lastSpeed = none) ∧
    (let s := duty fun r => { r with state := .running, lastSpeed := some 9000 };
      (s.compRec 0).lastSpeed = some 9000 ∧ (s.compCfg 0).deadband ≤ max 9150 9000 - min 9150 9000 ∧
        ¬(s.compCfg 0).deadband ≤ max 9149 9000 - min 9149 9000) ∧
    ((starting.compRec 0).state ≠ .stopped ∧ (starting.compRec 0).state ≠ .running ∧
      ((site.comp.order.filter fun k => decide ((site.compRec k).state = .running)).map fun k =>
        (site.compCfg k).capacity).sum = 0) := by decide +kernel

/-- A start mark that joins seven and one that joins eight; a first failed start with a cooldown of 0. -/
theorem test_hyp_DutyTimersExpire_marks :
    (appendMark 9 [1, 2, 3, 4, 5, 6, 7] = [1, 2, 3, 4, 5, 6, 7, 9] ∧
      appendMark 9 [1, 2, 3, 4, 5, 6, 7, 8] = [2, 3, 4, 5, 6, 7, 8, 9]) ∧
    (let s := retabled (fun t => { t with compressors := t.compressors.map fun c => { c with cooldown := 0 } }) starting;
      (s.compCfg 0).cooldown = 0 ∧ (starting.compCfg 0).cooldown ≠ 0 ∧
        ((after (.startConfirmExpiry 0) s).compRec 0).state = .stopped) ∧
    (let s := duty fun r => { r with state := .running, tMinRun := some 100000, stopPending := true };
      s.present (s.compRec 0).entry = true ∧
        (s.onUnit 2 fun u => { u with attach := .absent }).present (s.compRec 0).entry = false) := by decide +kernel

/-- R128, R123: a listed record found bad at an evaluation, in use and not; a capacity that stands and one that changes, with
the sums as told and with others. -/
theorem test_hyp_DutyOrderAndEvaluation_checked :
    let bad := spoil .compressors 0 { (duty fun r => { r with state := .running }) with own := [⟨2, .setpoint, .speed 9000⟩] }
    let t := dutyEvaluation bad
    let off := spoil .compressors 0 (retabled (fun t => { t with compressors := List.replicate 6 .blank }) site)
    (bad.foundBad .compressors 0 = true ∧ (bad.compCfg 0).inUse = true ∧ 0 ∈ bad.comp.order ∧
      (t.compRec 0).state = .lockedOut ∧ t.own = [] ∧ t.source Src.tableParity = ⟨true, 1, 0⟩ ∧
      off.foundBad .compressors 0 = true ∧ (off.compCfg 0).inUse = false) ∧
    (site.compCapacity = 40000 ∧ site.comp.published = 0 ∧ (dutyEvaluation site).comp.published = 40000 ∧
      (dutyEvaluation (dutyEvaluation site)) = dutyEvaluation site) ∧
    (let s := { site with
        acct := { site.acct with slots := { AccSlot.initial with dir := .inject, req := 900 } :: site.acct.slots.tail }
        comp := { site.comp with heldMode := .inject } };
      s.acct.toldInj = 0 ∧ (curtailCore none { s with acct := { s.acct with compCap := 40000 } }).confirmedSum .inject = 900 ∧
        (dutyEvaluation s).comp.injTotal = 900 ∧ ((dutyEvaluation s).compRec 0).state = .starting) := by decide +kernel

def bedA (f : Bed → Bed) : State := drying.onTrain 0 fun t => t.onBed .a f

theorem test_hyp_ValveReports :
    (let f := frameF 2 [1, 0, 0];
      f.kind = kindState ∧ site.present 1 = true ∧ (site.unitCfg 1).cls = .dryerValves ∧ (frameF 2 [1, 0]).payload.length < 3 ∧
        f.payload = 1 :: 0 :: 0 :: [] ∧ site.trainOf 1 = some 0 ∧ site.dry.trains.length = 2) ∧
    ((retabled (fun t => { t with dryers := List.replicate 2 .blank }) site).trainOf 1 = none) ∧
    ((spoil .dryers 0 site).foundBad .dryers 0 = true ∧ (spoil .dryers 0 site).trainOf 1 = some 0 ∧
      (markOf .dryers 0 site).marked .dryers 0 = true ∧ (markOf .dryers 0 site).trainOf 1 = some 0) ∧
    (site.foundBad .dryers 0 = false ∧ site.marked .dryers 0 = false ∧ (site.train 0).synced = false ∧
      (drying.train 0).synced = true ∧ drying.trainOf 1 = some 0 ∧ positionOf 2 = .moving ∧
      ([BedId.a, .b, .c].all fun x => decide (positionsOf 1 0 0 x ≠ .moving)) = true ∧ site.dry.heldMode ≠ .withdraw ∧
      { site with dry := { site.dry with heldMode := .withdraw } }.dry.heldMode = .withdraw) := by decide +kernel

theorem test_hyp_ValveReports_beds :
    (let s := switching .opening 0;
      (s.train 0).switch = some ⟨.opening, .b, some .a, 0⟩ ∧ (⟨.opening, .b, some .a, 0⟩ : SwitchOp).incoming = .b) ∧
    (let s := drying.onTrain 0 fun t => { t with switch := some ⟨.opening, .b, none, 0⟩ };
      (s.train 0).switch = some ⟨.opening, .b, none, 0⟩) ∧
    (let s := switching .releasing 0;
      (s.train 0).switch = some ⟨.releasing, .b, some .a, 0⟩) ∧
    ((drying.train 0).switch = none ∧
      [BedState.standby, .heating, .cooling, .adsorbing, .unsynced, .releasing, .outOfService].all (fun st =>
        decide ((((bedA fun x => { x with state := st }).train 0).bed .a).state = st)) = true) := by decide +kernel

/-- Train 0 with its water channels, their qualities given. -/
def watered (q : Quality) : State :=
  let c : DryerCfg := { dryerOf with run := 0, inlet := 3, outlet := 4, defaultInlet := 420 }
  (retabled (fun t => { t with dryers := [c, .blank] }) drying).onChan 3 fun x => { x with quality := q, filtered := some 500 }

theorem test_hyp_WaterLoadingAndTrainState :
    (let s := watered .good;
      0 < s.dry.trains.length ∧ s.foundBad .dryers 0 = false ∧ s.marked .dryers 0 = false ∧ s.trainInUse 0 = true ∧
        (s.dryerCfg 0).run = 0 ∧ s.foundBad .channels 3 = false ∧ s.foundBad .channels 4 = false ∧
        (s.chCfg 3).inUse = true ∧ (s.chan 3).quality = .good ∧ (s.chan 4).quality ≠ .good ∧
        (s.chan 4).quality ≠ .suspect ∧ (s.train 0).adsorbing = some .a ∧ (site.train 0).adsorbing = none) ∧
    ((spoil .dryers 0 drying).foundBad .dryers 0 = true ∧ (markOf .dryers 0 drying).marked .dryers 0 = true) ∧
    (let s := bedA fun x => { x with loading := 400 * 10 * 90 };
      s.dry.heldMode = .withdraw ∧ (s.train 0).adsorbing = some .a ∧ (s.train 0).switch = none ∧
        (s.dryerCfg 0).bedCapacity * 10 * (s.dryerCfg 0).switchPercent ≤ ((s.train 0).bed .a).loading ∧
        ¬(s.dryerCfg 0).bedCapacity * 10 * (s.dryerCfg 0).switchPercent ≤ ((drying.train 0).bed .a).loading ∧
        ((switching .releasing 0).train 0).switch = some ⟨.releasing, .b, some .a, 0⟩) ∧
    (let s := bedA fun x => { x with state := .heating };
      s.dry.heldMode = .withdraw ∧ (s.train 0).synced = true ∧ s.marked .dryers 0 = false ∧ (s.train 0).adsorbing = none ∧
        (s.train 0).switch = none) := by decide +kernel

theorem test_hyp_WaterLoadingAndTrainState_state :
    (let s := drying.onTrain 0 fun t => { t with request := true };
      (s.train 0).request = true ∧ (s.train 0).switch = none ∧ (s.train 0).held = false ∧ (s.train 0).synced = true ∧
        s.marked .dryers 0 = false ∧ s.present (s.dryerCfg 0).unit = true ∧ (s.train 0).standby = some .b ∧
        (drying.train 0).request = false) ∧
    (let s := bedA fun x => { x with loading := 400 * 1000 + 1 };
      (s.dryerCfg 0).inUse = true ∧ (s.train 0).adsorbing = some .a ∧
        (s.dryerCfg 0).bedCapacity * 1000 < ((s.train 0).bed .a).loading ∧ (s.train 0).state = .inService ∧
        ¬(s.dryerCfg 0).bedCapacity * 1000 < ((drying.train 0).bed .a).loading) ∧
    (let s := drying.onTrain 0 fun t => { t with state := .degraded };
      (s.train 0).state = .degraded ∧ (drying.dryerCfg 1).inUse = false) := by decide +kernel

theorem test_hyp_DryerTimersExpire :
    (let s := bedA fun x => { x with adsorbMs := 28800000 };
      (s.train 0).adsorbing = some .a ∧ (s.train 0).held = false ∧ ((s.train 0).bed .a).adsorbDone = false ∧
        (s.dryerCfg 0).adsorbMax * 1000 ≤ ((s.train 0).bed .a).adsorbMs) ∧
    ((drying.train 1).adsorbing = none ∧ ((drying.onTrain 0 fun t => { t with held := true }).train 0).held = true) ∧
    (let s := bedA fun x => { x with adsorbMs := 28799999 };
      (s.train 0).adsorbing = some .a ∧ ((s.train 0).bed .a).adsorbMs < (s.dryerCfg 0).adsorbMax * 1000) ∧
    [SwitchPhase.opening, .releasing].all (fun p =>
      decide (((switching p 100000).train 0).switch = some ⟨p, .b, some .a, 100000⟩) &&
        decide (100000 ≤ (switching p 100000).now) && decide ((switching p 100001).now < 100001)) = true ∧
    (drying.train 1).switch = none ∧
    (((drying.train 0).bed .b).state ≠ .heating ∧ ((drying.train 0).bed .b).state ≠ .cooling) ∧
    (let s := bedA fun x => { x with state := .heating, heatMs := 7200000 };
      (s.train 0).held = false ∧ ((s.train 0).bed .a).state = .heating ∧ ((s.train 0).bed .a).heatDone = false ∧
        (s.dryerCfg 0).heat * 1000 ≤ ((s.train 0).bed .a).heatMs ∧
        ((s.train 0).bed .a).heatMs < (s.dryerCfg 0).heatMax * 1000) ∧
    (let s := bedA fun x => { x with state := .heating, heatMs := 7199999 };
      ((s.train 0).bed .a).heatMs < (s.dryerCfg 0).heat * 1000) ∧
    (let s := bedA fun x => { x with state := .heating, heatMs := 9000000, heatDone := true };
      ((s.train 0).bed .a).heatDone = true ∧ (s.dryerCfg 0).heatMax * 1000 ≤ ((s.train 0).bed .a).heatMs) ∧
    (let s := bedA fun x => { x with state := .cooling, coolMs := 3600000 };
      ((s.train 0).bed .a).state = .cooling ∧ (s.dryerCfg 0).cool * 1000 ≤ ((s.train 0).bed .a).coolMs) ∧
    (let s := bedA fun x => { x with state := .cooling, coolMs := 3599999 };
      ((s.train 0).bed .a).coolMs < (s.dryerCfg 0).cool * 1000) := by decide +kernel

/-- Bed A is heated, and the train's regen channel is 3 with comparator `cmp`. -/
def regenerating (cmp : Bool) : State :=
  ((retabled (fun t => { t with dryers := [{ dryerOf with regenCh := some 3, regenCmp := some .a }, .blank] })
    (bedA fun x => { x with state := .heating, heatMs := 7200000 })).onChan 3 fun c =>
      { c with quality := .good, cmpA := cmp })

theorem test_hyp_DryerTimersExpire_heating :
    (drying.dryerCfg 0).regenCh = none ∧
    (∀ cmp ∈ [true, false],
      let s := regenerating cmp;
      (((s.train 0).bed .a).state = .heating ∧ (s.dryerCfg 0).heat * 1000 ≤ ((s.train 0).bed .a).heatMs) ∧
        (s.dryerCfg 0).regenCh = some 3 ∧ (s.dryerCfg 0).regenCmp = some .a ∧ (s.chan 3).cmpA = cmp ∧
        (s.chCfg 3).inUse = true ∧ (s.chan 3).quality = .good ∧ s.foundBad .channels 3 = false ∧
        (spoil .channels 3 s).foundBad .channels 3 = true) := by decide +kernel

theorem test_hyp_TrainRequests :
    ((asking [0x28, 0] drying).Asks (query [0x28, 0]) 0x28 [0] ∧ (asking [0x29, 1] drying).Asks (query [0x29, 1]) 0x29 [1] ∧
      (asking [0x2A, 2] drying).Asks (query [0x2A, 2]) 0x2A [2] ∧ 1 < (2 : Octet).toNat ∧ drying.trainInUse 1 = false ∧
      (markOf .dryers 0 drying).trainInUse 0 = true ∧ (markOf .dryers 0 drying).marked .dryers 0 = true) ∧
    ((spoil .dryers 0 drying).foundBad .dryers 0 = true ∧ (spoil .dryers 0 drying).trainInUse 0 = true ∧
      (spoil .dryers 1 drying).foundBad .dryers 1 = true ∧ (spoil .dryers 1 drying).trainInUse 1 = false) ∧
    (drying.trainInUse 0 = true ∧ drying.marked .dryers 0 = false ∧ drying.foundBad .dryers 0 = false ∧
      0 < drying.dry.trains.length) := by
  decide +kernel

theorem test_hyp_TrainRequests_cases :
    ((asking [0x29, 0] drying).Asks (query [0x29, 0]) 0x29 [0] ∧ (asking [0x2A, 0] drying).Asks (query [0x2A, 0]) 0x2A [0]) ∧
    ((site.dry.heldMode ≠ .withdraw ∧ ((switching .opening 0).train 0).switch ≠ none) ∧ drying.dry.heldMode = .withdraw ∧
      (drying.train 0).state ≠ .outOfService ∧ (drying.train 0).switch = none) ∧
    ((asking [0x2B, 0, 1] drying).Asks (query [0x2B, 0, 1]) 0x2B [0, 1] ∧ bedOf 1 = some .b ∧
      ((drying.train 0).bed .b).state ≠ .outOfService ∧ 2 < (3 : Octet).toNat ∧ (2 : Octet).toNat ≤ 2) ∧
    (let s := drying.onTrain 0 fun t => t.onBed .b fun x => { x with state := .outOfService };
      (s.train 0).synced = true ∧ ((s.train 0).bed .b).state = .outOfService ∧ ((s.train 0).bed .b).report = some .closed ∧
        (s.train 0).switch = none) ∧
    ((asking [0x07, 1] drying).Asks (query [0x07, 1]) 0x07 [1] ∧ drying.foundBad .dryers 1 = false ∧
      (spoil .dryers 1 drying).foundBad .dryers 1 = true) := by decide +kernel

theorem test_hyp_DivisionByLargestRemainder :
    (0 < [9000, 5000, 0].sum ∧ 10000 ≤ [9000, 5000, 0].sum ∧
      0 < 10000 - ((List.range 3).map fun i => 10000 * [9000, 5000, 0].getD i 0 / 14000).sum) ∧
    (nominated 40000).capOf .inject < ((List.range 32).map ((nominated 40000).askedFirm .inject)).sum := by decide +kernel

theorem test_hyp_CurtailmentByCapacity :
    ((List.range 32).map ((nominated 105000).asked .inject)).sum ≤ (nominated 105000).capOf .inject ∧
    ((nominated 65000).capOf .inject < ((List.range 32).map ((nominated 65000).asked .inject)).sum ∧
      ((List.range 32).map ((nominated 65000).askedFirm .inject)).sum ≤ (nominated 65000).capOf .inject) ∧
    (nominated 40000).capOf .inject < ((List.range 32).map ((nominated 40000).askedFirm .inject)).sum := by decide +kernel

/-- R158: the capacity of each direction, with the compression flag and without, and with the interval length; what a slot
asks in its direction, in the other and under a mark. -/
theorem test_hyp_CurtailmentByCapacity_capacity :
    let s (flag : Bool) (comp dry : Nat) : State := { nominated 0 with
      acct := { (nominated 0).acct with flag := flag, compCap := comp, dryCap := dry } }
    (s false 4003 8003).lMin = 15 ∧ (s false 4003 8003).capOf .inject = 1000 ∧ (s false 4003 8003).capOf .withdraw = 2000 ∧
      (s true 4003 8003).capOf .withdraw = 1000 ∧ (s true 8003 4003).capOf .withdraw = 1000 ∧
      ((nominated 0).asked .inject 0, (nominated 0).asked .withdraw 0, (markOf .shippers 0 (nominated 0)).asked .inject 0) =
        (9000, 0, 0) := by decide +kernel

/-- The last case of the worked curtailment as a computation: slots below their requests, that of slot 0 just accepted. -/
theorem test_hyp_CurtailmentByCapacity_computed :
    let s := nominated 40000
    let t := curtailCore (some 0) s
    s.acct.slots.length = 32 ∧ (s.confirmations .inject).getD 0 0 < (s.slot 0).req ∧ (markOf .shippers 31 s).marked .shippers 31 = true ∧
      (t.slot 1).conf = 3571 ∧ t.acct.curtailed = true ∧ t.source Src.curtailed = ⟨true, 1, 0⟩ ∧
      (curtailCore none s).source Src.curtailed = ⟨false, 0, 0xFF⟩ ∧
      (t.confirmedSum .inject ≠ s.acct.toldInj ∧ State.reset.confirmedSum .inject = State.reset.acct.toldInj) := by
  decide +kernel

/-- The arguments of a NOMINATE, and of a TRANSFER when the octets between are a code. -/
def nine (code period dir amount : Nat) : List Octet := be 2 code ++ be 1 period ++ be 1 dir ++ be 5 amount

theorem test_hyp_NominateByCase :
    (let a := nine 101 0 1 4000;
      a.length = 9 ∧ (asking (0x38 :: a) site).Asks (query (0x38 :: a)) 0x38 a ∧ 0 < fieldAt a 0 2 ∧ fieldAt a 2 1 = 0 ∧
        fieldAt a 3 1 = Dir.withdraw.code ∧ site.time.unset = false ∧ site.slotOf 101 = some 0 ∧
        site.marked .shippers 0 = false ∧ site.foundBad .shippers 0 = false ∧ site.foundBad .station 0 = false ∧
        site.pastCutoff = false ∧ 0 < site.acct.slots.length) ∧
    (fieldAt (nine 0 0 0 0) 0 2 = 0 ∧ 1 < fieldAt (nine 1 2 0 0) 2 1 ∧ 1 < fieldAt (nine 1 0 2 0) 3 1 ∧
      fieldAt (nine 101 1 0 0) 2 1 = 1) ∧
    ((atTime 0 true).time.unset = true ∧ site.slotOf 100 = none ∧ (markOf .shippers 0 site).marked .shippers 0 = true ∧
      (markOf .shippers 0 site).slotOf 101 = some 0) ∧
    ((atTime 38880000 false).pastCutoff = true ∧ (atTime 38879999 false).pastCutoff = false) := by decide +kernel

/-- A move renews the clamps of both slots; one of 0 leaves the state as it is but for its answer (R179). -/
theorem test_hyp_TransferMovesEnergy_clamp :
    let ask (amount : Nat) : State := asking (0x39 :: (be 2 101 ++ be 2 102 ++ be 5 amount)) { site with
      acct := { site.acct with slots := [⟨.withdraw, 5000, 0, none⟩, ⟨.inject, 8000, 0, none⟩] ++ List.replicate 30 .initial } }
    let t (amount : Nat) : State := after .transfer (ask amount)
    fieldAt (be 5 0) 0 5 = 0 ∧ ((t 0).acct.slots.take 2).map (·.req) = [5000, 8000] ∧
      ((t 3000).acct.slots.take 2).map (·.req) = [2000, 5000] ∧ (t 3000).ret.inventories.take 2 = [2000, 5000] := by
  decide +kernel

/-- A SHIPPERS entry and the STATION record found bad at NOMINATE, and the two slots of a TRANSFER, each and both. -/
theorem test_hyp_NominateByCase_bad :
    (let s := spoil .shippers 0 (asking (0x38 :: nine 101 1 0 1) site);
      s.time.unset = false ∧ s.slotOf 101 = some 0 ∧ s.foundBad .shippers 0 = true) ∧
    (let s := spoil .station 0 (atTime 38880000 false);
      s.foundBad .station 0 = true ∧ s.foundBad .shippers 0 = false ∧ s.marked .shippers 0 = false ∧
        (checkStation s).pastCutoff = s.pastCutoff) ∧
    ((spoil .station 0 (atTime 38879999 false)).pastCutoff = false ∧
      (checkStation (spoil .station 0 (atTime 38879999 false))).pastCutoff = false ∧
      (checkStation (spoil .station 0 (atTime 39599999 false))).pastCutoff = true) ∧
    ∀ l ∈ [[0], [1], [0, 1]],
      let s := l.foldl (fun s i => spoil .shippers i s) site
      s.slotOf 101 = some 0 ∧ s.slotOf 102 = some 1 ∧ s.acct.closing = none ∧
        (s.foundBad .shippers 0 = true ∨ s.foundBad .shippers 1 = true) := by decide +kernel

/-- R159: a cutoff of 100 percent refuses none, not even at the end of the interval. -/
theorem test_cutoff_of_100 :
    let s (cutoff : Nat) : State :=
      retabled (fun t => { t with station := { t.station with cutoff := cutoff } }) (atTime 39600000 false)
    (s 100).position = some 3600000 ∧ (s 100).pastCutoff = false ∧ (s 99).pastCutoff = true := by decide +kernel

def closingOf (alloc : Option AllocResult) : CloseOp := ⟨⟨1, 0, 3600000, false, false⟩, workedSlots, 0, false, [], alloc⟩

def worked : AllocResult := allocate 0 (closingOf none) workedGroup

def closingState (alloc : Option AllocResult) (history : List CloseRecord) : State :=
  { site with
    acct := { site.acct with closing := some (closingOf alloc) }
    ret := { site.ret with history := history } }

def aNotice : Notice := ⟨17, 36000000, 39600000, false, false⟩

/-- The accounts with a full list of slots, slot 0 with a next nomination. -/
def rolling : State :=
  { site with acct := { site.acct with slots := ⟨.inject, 1, 1, some (.withdraw, 700)⟩ :: List.replicate 31 .initial } }

theorem test_hyp_ClosesBegin :
    (site.acct.closing = none ∧ (closingState none []).acct.closing ≠ none ∧ (∀ g ∈ site.acct.groups, g.num ≠ 17)) ∧
    (rolling.acct.slots.length = 32 ∧ (∀ i < 32, rolling.foundBad .shippers i = false) ∧
      (rolling.slot 0).next = some (.withdraw, 700) ∧ (rolling.shipper 0).code ≠ 0 ∧ (rolling.slot 1).next = none ∧
      (rolling.shipper 1).code ≠ 0 ∧ (rolling.shipper 31).code = 0 ∧ (spoil .shippers 0 rolling).foundBad .shippers 0 = true) ∧
    ((closingState (some worked) []).acct.closing = some (closingOf (some worked)) ∧ (closingOf (some worked)).alloc ≠ none ∧
      (closingOf none).alloc = none ∧ (closingOf none).notice.num = 1) ∧
    (let g (n : Nat) (done : Bool) : Group := ⟨n, 0, 0, 0, 0, 0, 0, false, done⟩;
      (g 1 true).num = (closingOf none).notice.num ∧ (g 1 true).complete = true ∧ (∀ h ∈ [g 0 true], h.num ≠ (g 1 true).num) ∧
        (g 1 false).complete = false) := by
  refine ⟨by decide +kernel, by decide +kernel, ⟨rfl, (fun h => nomatch h), rfl, rfl⟩, by decide +kernel⟩

theorem test_hyp_CloseCompletes :
    site.acct.closing = none ∧ (closingState none []).acct.closing = some (closingOf none) ∧ (closingOf none).alloc = none ∧
    ((closingState (some worked) []).acct.closing = some (closingOf (some worked)) ∧
      (closingOf (some worked)).alloc = some worked ∧ (closingState (some worked) []).acct.deferred = [] ∧
      { (closingState (some worked) []).acct with deferred := [aNotice] }.deferred = aNotice :: [] ∧
      (closingState (some worked) []).ret.pendShippers = none ∧ (closingState (some worked) []).ev.recs.length = 48 ∧
      (closingState (some worked) []).ret.lastInterval + 1 < 2 ^ 32 ∧
      (closingState (some worked) []).ret.history.length < 8 ∧
      8 ≤ (closingState (some worked) (List.replicate 8 (closeRecord 1 (closingOf none) worked))).ret.history.length) := by
  refine ⟨rfl, rfl, rfl, rfl, rfl, rfl, rfl, rfl, rfl, by decide, by decide, by decide⟩

/-- The worked allocation cuts slot 2, and its record is pending. -/
theorem test_hyp_CloseCompletes_capped :
    worked.capped = some 2 ∧ (allocate 0 { closingOf none with slots := [] } workedGroup).capped = none ∧
      (closeRecord 1 (closingOf none) worked).pending = true := by decide +kernel

/-- A pending SHIPPERS image that gives slot `i` code 200. -/
def recoding (i : Nat) : State :=
  let tables := { tablesOf with shippers := tablesOf.shippers.set i ⟨200, true, 0, 1, 1, 1⟩ }
  { rolling with ret := { rolling.ret with pendShippers := some ⟨encodeTable tables .shippers, 0, 0⟩ } }

theorem test_hyp_CloseCompletes_shippers :
    (∀ i ∈ [0, 31], (recoding i).ret.pendShippers ≠ none ∧ (recoding i).acct.slots.length = 32 ∧
      (recoding i).ret.inventories.length = 32) ∧
    (let new (i j : Nat) : ShipperCfg := ((recoding i).ret.pendShippers.map fun m =>
        (decodeEntries .shippers decodeShipper m.octets).getD j .blank).getD .blank;
      (0 < (recoding 0).inventory 0 ∧ (new 0 0).code ≠ ((recoding 0).shipper 0).code) ∧
        (∀ j < 32, (recoding 31).inventory j = 0 ∨ (new 31 j).code = ((recoding 31).shipper j).code) ∧
        (new 31 31).code ≠ ((recoding 31).shipper 31).code ∧ (new 31 0).code = ((recoding 31).shipper 0).code) := by
  decide +kernel

theorem test_hyp_TransferMovesEnergy :
    let a (amount : Nat) : List Octet := be 2 101 ++ be 2 102 ++ be 5 amount
    ((a 5000).length = 9 ∧ (asking (0x39 :: a 5000) site).Asks (query (0x39 :: a 5000)) 0x39 (a 5000)) ∧
    (0 < fieldAt (a 5000) 0 2 ∧ 0 < fieldAt (a 5000) 2 2 ∧ fieldAt (a 5000) 0 2 ≠ fieldAt (a 5000) 2 2 ∧
      ¬0 < fieldAt (List.replicate 9 0) 0 2) ∧
    ((closingState none []).acct.closing ≠ none ∧ site.acct.closing = none ∧ site.slotOf 103 = none) ∧
    (site.slotOf 101 = some 0 ∧ site.slotOf 102 = some 1 ∧ site.foundBad .shippers 0 = false ∧
      site.foundBad .shippers 1 = false ∧ site.marked .shippers 0 = false ∧ site.marked .shippers 1 = false ∧
      site.inventory 0 < 5001 ∧ 5000 ≤ site.inventory 0 ∧ site.inventory 1 + 5000 ≤ (site.shipper 1).space ∧
      site.ret.inventories.length = 32) ∧
    ((markOf .shippers 1 site).marked .shippers 1 = true ∧
      ({ site with ret := { site.ret with inventories := [10000, 2000] } }.shipper 1).space < 2000 + 8001) := by
  decide +kernel

def closedRecord (pending : Bool) : CloseRecord := { closeRecord 5 (closingOf none) worked with pending := pending }

theorem test_hyp_AccountReads :
    ((asking [0x08, 31] site).Asks (query [0x08, 31]) 0x08 [31] ∧ 31 < (32 : Octet).toNat ∧
      site.foundBad .shippers 31 = false ∧ (spoil .shippers 31 site).foundBad .shippers 31 = true) ∧
    (let a : List Octet := [0, 0, 0, 0, 5, 2];
      a.length = 6 ∧ (asking (0x09 :: a) site).Asks (query (0x09 :: a)) 0x09 a ∧ fieldAt a 0 1 ≤ 1 ∧ fieldAt a 5 1 ≤ 31 ∧
        fieldAt a 1 4 = 5 ∧ 1 < fieldAt [2, 0, 0, 0, 0, 0] 0 1 ∧ 31 < fieldAt [0, 0, 0, 0, 0, 32] 5 1 ∧
        site.ret.history = []) := by decide +kernel

theorem test_hyp_AccountReads_selected :
    (closingState none [closedRecord false, closedRecord true]).ret.history =
        [closedRecord false] ++ closedRecord true :: [] ∧
      (closedRecord false).pending = false ∧ (closedRecord true).pending = true ∧ (closedRecord true).num = 5 ∧
      (closedRecord true).lines.length ≤ 3 ∧ 2 < (closedRecord true).lines.length := by
  refine ⟨rfl, rfl, rfl, rfl, by decide +kernel, by decide +kernel⟩

theorem test_hyp_AllocationConservesEnergy :
    let op := closingOf none
    let sum := op.oba + obaChange op.slots workedGroup (sharesOf op.slots workedGroup);
    -(2 ^ 47 : Int) ≤ sum ∧ sum < 2 ^ 47 ∧ 2 < op.slots.length ∧ op.slots[2]? = some ⟨.withdraw, 350, 230, 10000⟩ := by
  decide +kernel

def alerted : State := { site with ev := { site.ev with alerts := [alertOf 47 0, alertOf 3 2] } }

theorem test_hyp_QueuedOccurrenceUpdatesInPlace :
    47 < alerted.ev.recs.length ∧ queued alerted.ev.alerts 47 = true ∧ alerted.ev.alerts[1]? = some (alertOf 3 2) := by
  decide +kernel

theorem test_hyp_OffersToTheAlertQueue :
    let l := (List.range 32).map (alertOf · 2)
    (l.Pairwise (fun x y => x.priority ≤ y.priority) ∧ l.length = 32 ∧ l.getLast? = some (alertOf 31 2) ∧
      (alertOf 40 1).priority < (alertOf 31 2).priority ∧ (alertOf 31 2).priority ≤ (alertOf 40 2).priority) ∧
    (l.take 31).length < 32 := by decide +kernel

/-- A source not queued: latched, masked, enabled and marked; an EVENTS entry found bad, TABLE_PARITY's own and another. -/
theorem test_hyp_OffersToTheAlertQueue_occurrences :
    (47 < site.ev.recs.length ∧ queued site.ev.alerts 3 = false ∧ (site.source 3).latch = false ∧
      site.marked .events 3 = false ∧ (site.tables.events.getD 3 .initial).alertEnabled = true) ∧
    (let s := retabled (fun t => { t with events := t.events.modify 3 fun e => { e with alertEnabled := false } }) site;
      queued s.ev.alerts 3 = false ∧ (s.source 3).latch = false ∧ s.marked .events 3 = false ∧
        (s.tables.events.getD 3 .initial).alertEnabled = false) ∧
    (let s := { site with ev := { site.ev with recs := site.ev.recs.set 3 ⟨true, 255, 1⟩ } };
      queued s.ev.alerts 3 = false ∧ (s.source 3).latch = true ∧ min 255 ((s.source 3).count + 1) = 255) ∧
    ((markOf .events 3 site).marked .events 3 = true ∧ queued (markOf .events 3 site).ev.alerts 3 = false ∧
      ((markOf .events 3 site).source 3).latch = false) ∧
    ((spoil .events 3 site).foundBad .events 3 = true ∧ 3 ≠ Src.tableParity ∧
      (spoil .events 46 site).foundBad .events Src.tableParity = true ∧ site.foundBad .events 3 = false) := by decide +kernel

theorem test_hyp_EventRequests :
    ((asking [0x40, 1, 0, 0, 0, 0, 0x80] site).Asks (query [0x40, 1, 0, 0, 0, 0, 0x80]) 0x40 [1, 0, 0, 0, 0, 0x80] ∧
      ([1, 0, 0, 0, 0, 0x80] : List Octet).length = 6) ∧
    ((asking [0x41, 47] site).Asks (query [0x41, 47]) 0x41 [47] ∧ (47 : Octet).toNat ≤ 47 ∧ 47 < (48 : Octet).toNat) ∧
    ((asking [0x0A] site).Asks (query [0x0A]) 0x0A [] ∧ ∀ n < 48, site.foundBad .events n = false) := by decide +kernel

def five (table selector off n : Nat) : List Octet := be 1 table ++ be 1 selector ++ be 2 off ++ be 1 n

def eventsLoad : Load := Load.opened .events 0

theorem test_hyp_TablesAreRead :
    ((five 9 0 0 96).length = 5 ∧ (asking (0x0B :: five 9 0 0 96) site).Asks (query (0x0B :: five 9 0 0 96)) 0x0B (five 9 0 0 96)) ∧
    (9 < fieldAt (five 10 0 0 1) 0 1 ∧ 2 < fieldAt (five 0 3 0 1) 1 1 ∧ fieldAt (five 0 0 0 0) 4 1 = 0 ∧
      200 < fieldAt (five 0 0 0 201) 4 1) ∧
    (fieldAt (five 9 0 0 96) 0 1 = TableId.events.code ∧ imageLength .events = 96 ∧ site.marked .events (0 / 2) = false ∧
      (markOf .events 47 site).marked .events (94 / entrySize .events) = true) ∧
    (site.ret.pendingOf .runs = none ∧ { site.ret with pendRuns := some anImage }.pendingOf .runs = some anImage) ∧
    (site.mgmt.load = none ∧ { site with mgmt := { site.mgmt with load := some eventsLoad } }.mgmt.load = some eventsLoad ∧
      eventsLoad.table = .events) := by decide +kernel

def loading (l : Load) (s : State) : State := { s with mgmt := { s.mgmt with load := some l } }

def beginArgs (table length : Nat) : List Octet := be 1 table ++ be 2 length ++ be 2 0

theorem test_hyp_LoadsAreStaged :
    ((beginArgs 9 96).length = 5 ∧ (asking (0x50 :: beginArgs 9 96) site).Asks (query (0x50 :: beginArgs 9 96)) 0x50 (beginArgs 9 96) ∧
      9 < fieldAt (beginArgs 10 0) 0 1 ∧ fieldAt (beginArgs 9 96) 0 1 = TableId.events.code ∧
      fieldAt (beginArgs 9 95) 1 2 ≠ imageLength .events ∧ fieldAt (beginArgs 9 96) 1 2 = imageLength .events ∧
      site.mgmt.load = none ∧ (loading eventsLoad site).mgmt.load ≠ none ∧ site.custody = false) ∧
    (let a : List Octet := 0 :: 95 :: BitVec.ofNat 8 1 :: [7];
      (asking (0x51 :: a) (loading eventsLoad site)).Asks (query (0x51 :: a)) 0x51 a ∧ ([7] : List Octet).length ≤ 255 ∧
        ([7] : List Octet) ≠ [] ∧ eventsLoad.length < 96 + 1 ∧ 95 + 1 ≤ eventsLoad.length ∧
        200 < (List.replicate 201 (0 : Octet)).length) ∧
    ((asking [0x53] site).Asks (query [0x53]) 0x53 []) := by decide +kernel

/-- A full image of the EVENTS table with its CRC, and the same for RUNS. -/
def fullLoad (t : TableId) : Load :=
  let image := encodeTable tablesOf t
  ⟨t, image.length, crc16 image, image, List.replicate image.length true⟩

def committing (l : Load) (s : State) : State :=
  { s with mgmt := { s.mgmt with load := some l, service := some (.committing (query [0x52])) } }

theorem test_hyp_CommitsCompleteOrAreRefused :
    ((asking [0x52] site).Asks (query [0x52]) 0x52 [] ∧ site.mgmt.load = none ∧ (loading eventsLoad site).mgmt.load ≠ none) ∧
    ((committing eventsLoad site).mgmt.service = some (.committing (query [0x52])) ∧
      (committing eventsLoad site).mgmt.load = some eventsLoad) ∧
    (∃ w ∈ eventsLoad.written, w = false) ∧
    (let image := (fullLoad .events).octets.set 95 4;
      firstOffending site .events image = some 47) ∧
    (site.custody = false ∧ { site with custody := true }.custody = true) := by decide +kernel

/-- A sound load of each kind: taking effect at once, pending and guarded, pending. -/
theorem test_hyp_CommitsCompleteOrAreRefused_sound :
    firstOffending site .events (fullLoad .events).octets = none ∧
      firstOffending site .station (fullLoad .station).octets = none ∧
      firstOffending site .shippers (fullLoad .shippers).octets = none ∧
      firstOffending site .runs (fullLoad .runs).octets = none := by decide +kernel

theorem test_hyp_CommitsCompleteOrAreRefused_check (t : TableId) :
    crc16 (fullLoad t).octets = (fullLoad t).crc ∧ (¬∃ w ∈ (fullLoad t).written, w = false) ∧
      crc16 (fullLoad t).octets ≠ { fullLoad t with crc := (fullLoad t).crc + 1 }.crc :=
  ⟨rfl, fun ⟨_, hw, h⟩ => absurd ((List.eq_of_mem_replicate hw).symm.trans h) (by decide),
    fun h => by have h : crc16 (fullLoad t).octets = crc16 (fullLoad t).octets + 1 := h; bv_omega⟩

/-- R37: the channels that a RUNS image names; one found bad gets its mark and quality BAD, its value held. -/
theorem test_hyp_CommitsCompleteOrAreRefused_named :
    let s := spoil .channels 1 (metering .inject 1)
    let named := namedChannels .runs (encodeTable tablesOf .runs)
    let t := useChannels named s
    named = [0, 1, 2, 3] ∧ s.foundBad .channels 1 = true ∧ t.marked .channels 1 = true ∧
      ((t.chan 1).quality, (t.chan 1).filtered) = (.bad, some 8000000) ∧ t.source Src.tableParity = ⟨true, 1, 1⟩ := by
  decide +kernel

/-- Entries that a commit keeps and that it changes, for each owner. -/
theorem test_hyp_CommitsCompleteOrAreRefused_owners :
    (site.ev.recs.length = 48 ∧ site.units.length = 48 ∧ site.chans.length = 64 ∧ site.comp.recs.length = 6 ∧
      site.dry.trains.length = 2) ∧
    (let s := retabled (fun t => { t with units := t.units.set 3 (unitAt 9 .transmitter) }) site;
      (site.unitCfg 3).addr ≠ (s.unitCfg 3).addr ∧ (s.unit 3).attach = .present ∧
        (∀ j < 48, j ≠ 3 → site.unitCfg j = s.unitCfg j ∧ site.marked .units j = false) ∧
        (ownerActs .units site s).unit 3 = .initial ∧
        ((ownerActs .units site s).source Src.unitDeparted).latch = true) ∧
    (let s := retabled (fun t => { t with channels := t.channels.set 3 (channelAs .process .calorific 5) }) (serving 1);
      s.chCfg 3 ≠ site.chCfg 3 ∧ s.chCfg 2 = site.chCfg 2 ∧ s.engine.serving = some (3, work 1) ∧
        ((ownerActs .channels site s).engine.serving.map fun p => p.2.discard) = some true) ∧
    (let s (c : CompCfg) : State := retabled (fun t => { t with compressors := c :: t.compressors.tail }) (duty fun r => { r with
        marks := [90000, 99000] });
      (s { compOf with window := 7200 }).compCfg 0 ≠ compOf ∧ (s { compOf with unit := 1 }).compCfg 0 ≠ compOf ∧
        ((ownerActs .compressors site (s { compOf with window := 5 })).compRec 0).marks = [99000] ∧
        ((ownerActs .compressors site (s { compOf with unit := 1 })).compRec 0).marks = []) ∧
    (let s := retabled (fun t => { t with dryers := [{ dryerOf with heat := 600 }, .blank] }) drying;
      drying.marked .dryers 0 = false ∧ (markOf .dryers 0 drying).marked .dryers 0 = true ∧
        ((ownerActs .dryers drying s).train 0).synced = true ∧
        ((ownerActs .dryers (markOf .dryers 0 drying) s).train 0).synced = false) := by decide +kernel

/-- A CHANNELS commit that resets the one channel a sweep still waits for, and one of two: the sweep ends, and does not. -/
theorem test_hyp_CommitsCompleteOrAreRefused_sweep :
    let s (l : List Nat) : State := retabled (fun t => { t with channels := t.channels.set 3 (channelAs .process .calorific 5) })
      (waits 3 (sweeping l site))
    let t (l : List Nat) : State := ownerActs .channels site (s l)
    ((s [3]).chan 3).request = .waiting ∧ (s [3]).engine.remaining = [3] ∧ (t [3]).engine.remaining = [] ∧
      (t [3]).source Src.sweepDone = ⟨true, 1, 0xFF⟩ ∧ (t [3, 4]).engine.remaining = [4] ∧
      (t [3, 4]).source Src.sweepDone = ⟨false, 0, 0xFF⟩ ∧ ((t [3]).chan 3).request = .none := by decide +kernel

theorem test_hyp_TableEntriesReadBack :
    tablesOf.link.own.length = 4 ∧ (unitAt 3 .generic).timeout < 2 ^ 8 ∧
    (let c := channelAs .custody .flowRate 0;
      c.unit < 2 ^ 8 ∧ c.localIx < 2 ^ 8 ∧ -(2 ^ 23 : Int) ≤ c.rawMin ∧ c.rawMin < 2 ^ 23 ∧ -(2 ^ 23 : Int) ≤ c.rawMax ∧
        c.rawMax < 2 ^ 23 ∧
        (∀ v ∈ [c.gain, c.offset, c.engMin, c.engMax, c.cmpA.t1, c.cmpA.t2, c.cmpB.t1, c.cmpB.t2],
          -(2 ^ 31 : Int) ≤ v ∧ v < 2 ^ 31) ∧
        c.profile < 2 ^ 8 ∧ c.minInterval < 2 ^ 16 ∧ c.maxAge < 2 ^ 16 ∧ c.cmpA.hyst < 2 ^ 32 ∧ c.cmpB.hyst < 2 ^ 32) ∧
    (let p : Profile := ⟨List.replicate 8 (List.replicate 3 ⟨true, 255⟩)⟩;
      p.taps.length ≤ 8 ∧ ∀ tap ∈ p.taps, tap.length ≤ 3 ∧ ∀ m ∈ tap, m.exp < 2 ^ 8) ∧
    (let r := { runOf with curve := List.replicate 16 (2 ^ 32 - 1, 2 ^ 24 - 1) };
      (∀ v ∈ [r.flow, r.press, r.temp], v < 2 ^ 8) ∧ (∀ v ∈ r.cal, v < 2 ^ 8) ∧
        (∀ v ∈ [r.fallbackH, r.tb, r.gapCap, r.refStale, r.ptMaxAge], v < 2 ^ 16) ∧ r.pb < 2 ^ 24 ∧ r.zb < 2 ^ 24 ∧
        -(2 ^ 31 : Int) ≤ r.subst ∧ r.subst < 2 ^ 31 ∧ r.curve.length ≤ 16 ∧ ∀ p ∈ r.curve, p.1 < 2 ^ 32 ∧ p.2 < 2 ^ 24) ∧
    (let c := StationCfg.initial;
      c.lMin < 2 ^ 8 ∧ c.cutoff < 2 ^ 8 ∧ (∀ v ∈ c.storage, v < 2 ^ 8) ∧ (∀ v ∈ c.pipeline, v < 2 ^ 8) ∧
        (∀ v ∈ [c.sweep, c.quietDwell, c.rundown, c.lineup], v < 2 ^ 16) ∧
        ∀ v ∈ [c.margin, c.hyst, c.quietThreshold], v < 2 ^ 24) := by decide +kernel

theorem test_hyp_TableEntriesReadBack_controllers :
    (compOf.unit < 2 ^ 8 ∧ compOf.capacity < 2 ^ 24 ∧
      (∀ v ∈ [compOf.sMin, compOf.sMax, compOf.pMin, compOf.deadband, compOf.startConfirm, compOf.stopConfirm,
        compOf.minRun, compOf.cooldown, compOf.window], v < 2 ^ 16) ∧ compOf.budget < 2 ^ 8) ∧
    (let c := { dryerOf with regenCh := some 255 };
      (∀ v ∈ [c.unit, c.run, c.inlet, c.outlet, c.derate, c.switchPercent], v < 2 ^ 8) ∧ (∀ v ∈ c.regenCh, v < 2 ^ 8) ∧
        (∀ v ∈ [c.defaultInlet, c.heat, c.cool, c.valveConfirm], v < 2 ^ 16) ∧
        (∀ v ∈ [c.capacity, c.bedCapacity, c.adsorbMax, c.heatMax], v < 2 ^ 24) ∧ c.resume < 2 ^ 32) ∧
    (let c := site.shipper 0;
      c.code < 2 ^ 16 ∧ c.rank < 2 ^ 8 ∧ c.injRight < 2 ^ 24 ∧ c.wdRight < 2 ^ 24 ∧ c.space < 2 ^ 40) ∧
    EventCfg.initial.priority < 2 ^ 8 := by decide +kernel

/-- Each validation at its bounds: images it takes, and the first entry that offends (R20, R32, R53, R64, R86). -/
theorem test_hyp_TableEntriesReadBack_validation :
    let first (t : TableId) (f : Tables → Tables) : Option Nat := firstOffending site t (encodeTable (f tablesOf) t)
    let unit (i : Nat) (u : UnitCfg) (t : Tables) : Tables := { t with units := t.units.set i u }
    let channels (l : List ChannelCfg) : Option Nat := firstOffending State.reset .channels
      (encodeTable { tablesOf with channels := l ++ List.replicate (64 - l.length) .blank } .channels)
    let run (f : RunCfg → RunCfg) (t : Tables) : Tables := { t with runs := t.runs.modify 0 f }
    let station (f : StationCfg → StationCfg) (t : Tables) : Tables := { t with station := f t.station }
    (firstOffending site .link (encodeTable tablesOf .link) = none ∧
      firstOffending site .link ((encodeTable tablesOf .link).set 14 2) = some 3 ∧
      firstOffending site .link ((encodeTable tablesOf .link).set 16 2) = some 4) ∧
    ((first .units id, first .units (unit 47 ⟨true, ⟨9, 9⟩, .generic, 120⟩), first .units (unit 47 ⟨true, ⟨9, 9⟩, .generic, 121⟩)) =
        (none, none, some 47) ∧
      first .units (unit 47 ⟨true, ⟨1, 3⟩, .generic, 5⟩) = some 3 ∧
      first .units (unit 47 ⟨true, ⟨9, 9⟩, .stationValves, 5⟩) = some 47) ∧
    ([channels [.blank, { channelAs .custody .flowRate 0 with maxAge := 600 }],
        channels [.blank, { channelAs .custody .flowRate 0 with maxAge := 601 }],
        channels [.blank, channelAs .custody .flowRate 0, channelAs .survey .generic 0]] = [none, some 1, some 1] ∧
      first .channels (fun t => { t with channels := t.channels.modify 1 fun c => { c with cls := .process } }) = some 1 ∧
      firstOffending { State.reset with ret := { State.reset.ret with pendRuns := some ⟨encodeTable tablesOf .runs, 0, 0⟩ } } .channels
        (List.replicate 3776 0) = some 0) ∧
    (first .filters id = none ∧ first .filters (fun t => { t with filters := t.filters.set 6 ⟨[[⟨false, 16⟩]]⟩ }) = some 6 ∧
      firstOffending site .filters ((encodeTable tablesOf .filters).set 0 9) = some 0 ∧ entryIndex .filters 6 = 7) ∧
    ([first .runs id, first .runs (run fun r => { r with pb := 102001 }), first .runs (run fun r => { r with press := 0 }),
        first .runs (run fun r => { r with curve := r.curve.reverse }), first .runs (run fun r => { r with cal := some 4 }),
        first .runs (run fun r => { r with role := .unused })] = [none, some 0, some 0, some 0, some 0, some 0]) ∧
    (first .station id, first .station (station fun c => { c with quietDwell := 600, rundown := 601 }),
        first .station (station fun c => { c with quietDwell := 600, rundown := 600 }),
        first .station (station fun c => { c with storage := some 1, pipeline := some 1 })) =
      (none, none, some 0, some 0) := by decide +kernel

/-- The same for the controllers' tables, with the entries of other tables that they name (R102, R133, R156, R186). -/
theorem test_hyp_TableEntriesReadBack_validation_controllers :
    let first (t : TableId) (f : Tables → Tables) : Option Nat := firstOffending site t (encodeTable (f tablesOf) t)
    let comp (f : CompCfg → CompCfg) (t : Tables) : Tables := { t with compressors := t.compressors.set 5 (f compOf) }
    let wet (f : DryerCfg → DryerCfg) : Option Nat :=
      firstOffending (retabled (fun t => { t with channels := t.channels.modify 4 fun c => { c with quantity := .water } }) site) .dryers
        (encodeTable { tablesOf with dryers := [f { dryerOf with inlet := 4, outlet := 4 }, .blank] } .dryers)
    let ship (f : ShipperCfg → ShipperCfg) (t : Tables) : Tables := { t with shippers := t.shippers.modify 1 f }
    ([first .compressors id, first .compressors (comp id), first .compressors (fun t => comp (fun c => { c with inUse := false }) t),
        first .compressors (fun t => { t with compressors := t.compressors.set 0 { compOf with budget := 7 } }),
        first .compressors (fun t => { t with compressors := t.compressors.set 0 { compOf with unit := 1 } })] =
      [none, some 0, none, some 0, some 0]) ∧
    [wet id, wet fun c => { c with valveConfirm := 601 }, wet fun c => { c with inlet := 3 }, wet fun c => { c with run := 1 },
        wet fun c => { c with unit := 2 }, wet fun c => { c with regenCh := some 3, regenCmp := some .a }, wet fun c => { c with regenCh := some 3 }] =
      [none, some 0, some 0, some 0, some 0, some 0, some 0] ∧
    [first .shippers id, first .shippers (ship fun c => { c with rank := 32 }), first .shippers (ship fun c => { c with code := 101 }),
        first .shippers (ship fun c => { c with code := 103 }), first .shippers (ship fun c => { c with code := 0 })] =
      [none, some 1, some 0, some 1, some 1] ∧
    (first .events id, first .events (fun t => { t with events := t.events.set 47 ⟨true, 3⟩ }),
        first .events (fun t => { t with events := t.events.set 47 ⟨true, 4⟩ })) = (none, none, some 47) := by decide +kernel

theorem test_hyp_RestartResetsTheBlocks :
    ((asking [0x48] drying).Asks (query [0x48]) 0x48 [] ∧ (asking [0x48] drying).comp.recs.length = 6 ∧
      0 < drying.runs.length ∧ 0 < drying.acct.slots.length) ∧
    ((∀ k < 6, (asking [0x48] drying).foundBad .compressors k = false) ∧
      (markOf .compressors 5 drying).marked .compressors 5 = true) ∧
    (let s := spoil .station 0 (retabled (fun t => { t with station := { t.station with sweep := 60 } }) (asking [0x48] drying));
      s.Asks (query [0x48]) 0x48 [] ∧ s.foundBad .station 0 = true ∧ (after .restart s).engine.sweepDue = none ∧
        (after .restart s).source Src.tableParity = ⟨true, 1, 0⟩) := by decide +kernel

theorem test_hyp_PowerOnResets :
    0 < site.tables.runs.length ∧ State.reset.ret.failures = 0 ∧
      { site.ret with pendRuns := some ⟨[1], 0, 0⟩ }.failures = 1 := by
  decide +kernel

theorem test_hyp_DutyAndDryerCommandsChangeOnly :
    exec (.startConfirmExpiry 0) starting = .next (after (.startConfirmExpiry 0) starting) ∧
    exec .rotate (asking [0x18] site) = .next (after .rotate (asking [0x18] site)) ∧
    exec (.adsorbLimitExpiry 0) drying = .next (after (.adsorbLimitExpiry 0) drying) ∧
    exec (.heatTimeReached 0 .a) (regenerating true) = .next (after (.heatTimeReached 0 .a) (regenerating true)) ∧
    exec .holdTrain (asking [0x28, 0] drying) = .next (after .holdTrain (asking [0x28, 0] drying)) ∧
    exec .resumeTrain (asking [0x29, 0] drying) = .next (after .resumeTrain (asking [0x29, 0] drying)) :=
  ⟨exec_eq_after (by decide +kernel), exec_eq_after (by decide +kernel), exec_eq_after (by decide +kernel),
    exec_eq_after (by decide +kernel), exec_eq_after (by decide +kernel), exec_eq_after (by decide +kernel)⟩

/-- A state with a command in front, which step carries out: a first SET_TIME from reset. -/
def firstStep : State := { asking (0x10 :: six 36450000) State.reset with pending := [.setTime] }

theorem test_hyp_invariants_step : step firstStep = .next (after .setTime { firstStep with pending := [] }) :=
  (show step firstStep = exec .setTime { firstStep with pending := [] } from rfl).trans
    (exec_eq_after (by decide +kernel))

/-- An offer to a target that is not PRESENT, to one without an entry of that sort, and in the place of one that it has. -/
theorem test_hyp_StepKeepsAlertAndOwnQueues_offers :
    let s := { site with own := [⟨1, .action, .stop⟩, ⟨2, .setpoint, .speed 9000⟩, ⟨2, .action, .stop⟩] }
    ((site.unit 47).attach ≠ .present ∧ (s.unit 2).attach = .present ∧ (∀ x ∈ s.own, ¬(x.target = 0 ∧ x.sort = .action))) ∧
      s.own = [⟨1, .action, .stop⟩] ++ ⟨2, .setpoint, .speed 9000⟩ :: [⟨2, .action, .stop⟩] ∧
      (∀ y ∈ [(⟨1, .action, .stop⟩ : OwnEntry)] ++ [⟨2, .action, .stop⟩], ¬(y.target = 2 ∧ y.sort = .setpoint)) ∧
      (offerOwn 2 (.speed 7000) s).own = [⟨1, .action, .stop⟩, ⟨2, .setpoint, .speed 7000⟩, ⟨2, .action, .stop⟩] := by
  decide +kernel

/-- R130: the millisecond that is not the last of a second, the one that is, and one at the last count; a record whose last
report is another, and one whose unit is not PRESENT. -/
theorem test_hyp_EmptyQueuePassesMillisecond_runs :
    let s (c : Condition) (sec ms : Nat) : State := site.onComp 0 fun r => { r with lastReport := some c, runSec := sec, runMs := ms }
    let seen (s : State) : Nat × Nat := (((tick s).compRec 0).runSec, ((tick s).compRec 0).runMs)
    ((site.compCfg 0).inUse = true ∧ (site.unit 2).attach = .present ∧ 0 < site.comp.recs.length) ∧
      seen (s .running 5 998) = (5, 999) ∧ seen (s .running 5 999) = (6, 0) ∧ seen (s .running 4294967295 999) = (4294967295, 0) ∧
      seen (s .stopped 5 998) = (5, 998) ∧ seen ((s .running 5 998).onUnit 2 fun u => { u with attach := .absent }) = (5, 998) ∧
      ((tick (markOf .runs 0 (site.onRun 0 fun x => { x with refTimer := some 7 }))).run 0).refTimer = some 8 ∧
      ((tick (site.onRun 0 fun x => { x with refTimer := some 7 })).run 0).refTimer = some 7 := by decide +kernel

/-- R139, R146 to R148: the bed timers by the bed's state, at the adsorb limit, of the outgoing bed, outside WITHDRAW and
HELD. -/
theorem test_hyp_EmptyQueuePassesMillisecond_beds :
    let bed (f : Bed → Bed) : State := drying.onTrain 0 fun t => t.onBed .a f
    let timers (s : State) : Nat × Nat × Nat :=
      (((tick s).train 0).bedA.adsorbMs, ((tick s).train 0).bedA.heatMs, ((tick s).train 0).bedA.coolMs)
    let last (x : Bed) : Bed := { x with adsorbMs := 28799999 }
    ((drying.train 0).held = false ∧ drying.dry.heldMode = .withdraw ∧ (drying.train 0).bedA.state = .adsorbing) ∧
      timers drying = (1, 0, 0) ∧ timers (bed last) = (28800000, 0, 0) ∧
      timers (bed fun x => { last x with adsorbMs := 28800000 }) = (28800000, 0, 0) ∧
      timers (bed fun x => { last x with adsorbDone := true }) = (28799999, 0, 0) ∧
      timers (switching .opening 900000) = (0, 0, 0) ∧
      timers { drying with dry := { drying.dry with heldMode := .inject } } = (0, 0, 0) ∧
      timers (drying.onTrain 0 fun t => { t with held := true }) = (0, 0, 0) ∧
      timers (bed fun x => { x with state := .heating }) = (0, 1, 0) ∧
      timers (bed fun x => { x with state := .cooling }) = (0, 0, 1) := by decide +kernel

/-- What is due a millisecond later: nothing; timers that end then and one a millisecond after it; the boundary and the wrap;
the request in service; the engine, the arbiters and the limits of a train. -/
theorem test_hyp_EmptyQueuePassesMillisecond_due :
    let due (s : State) : List Instr := (tick s).pending
    let bed (f : Bed → Bed) : State := drying.onTrain 0 fun t => t.onBed .a f
    due site = [] ∧
      due ((site.onUnit 47 fun u => { u with silence := some 100001 }).onUnit 3 fun u => { u with silence := some 100002 }) =
        [.silenceTimeout 47] ∧
      due (site.onChan 4 fun c => { c with intervalUntil := some 100001, ageStart := some 90001 }) =
        [.intervalTimerExpiry 4, .ageTimerExpiry 4] ∧
      due (waits 3 (sweeping [3] site)) = [.sweepPeriodExpiry, .engineSelect] ∧ due (serving 0) = [] ∧
      due (atTime 39599999 false) = [.boundary] ∧ due (atTime 39599998 false) = [] ∧ due (atTime 39599999 true) = [] ∧
      due (atTime 281474976710655 false) = [.timeWrap] ∧
      due (asking [0x30] site) = [.sweep] ∧ due (asking [] site) = [.unknownRequest] ∧ due (asking [0xEE] site) = [.unknownRequest] ∧
      due { site with link := { site.link with upQ := [strange] }, own := [⟨2, .action, .stop⟩] } = [.portSSelect, .portFSelect] ∧
      due (onLink (fun l => { l with txS := some strange, upQ := [strange] }) site) = [] ∧
      due (duty fun r => { r with marks := [0, 99], tMinRun := some 100001 }) = [.minimumRunExpiry 0] ∧
      due { (duty fun r => { r with marks := [0] }) with now := 3599999 } = [.startMarkAgeout 0] ∧
      due (bed fun x => { x with adsorbMs := 28799999 }) = [.adsorbLimitExpiry 0] ∧
      due (switching .releasing 100001) = [.releasingValveTimeout 0] ∧
      due (bed fun x => { x with state := .heating, heatMs := 8999999 }) = [.heatTimeReached 0 .a, .heatShort 0 .a] ∧
      due (bed fun x => { x with state := .cooling, coolMs := 3599999 }) = [.coolTimerExpiry 0 .a] := by decide +kernel

/-- Nine governed units, each with two commands in the queue (R12). -/
theorem test_hyp_StepKeepsAlertAndOwnQueues_places :
    let s := { site with own := (List.range 9).flatMap fun e => [⟨e, .action, .stop⟩, ⟨e, .setpoint, .speed 9000⟩] }
    s.OwnOk ∧ (List.range 9).length ≤ 9 ∧ (∀ e ∈ s.own, e.target ∈ List.range 9) ∧ s.own.length = 18 := by decide +kernel

/-- The hypotheses of the statements StepKeeps… and EnergyChangesOnlyAtCloses hold together with that step. -/
theorem test_hyp_invariants :
    firstStep.Sized ∧ firstStep.QueuesOk ∧ firstStep.AlertsOk ∧ firstStep.OwnOk ∧ firstStep.MeterOk ∧ firstStep.BedsOk ∧
      firstStep.ModeOk ∧ firstStep.ToldOk ∧ firstStep.DutyOk ∧ firstStep.ConfirmedOk ∧
      firstStep.ret.inventories.length = 32 ∧ firstStep.pending.head? ≠ some .closeComplete := by
  refine ⟨?_, ?_, ?_, ?_, ?_, ?_, ?_, ?_, ?_, ?_, ?_, ?_⟩ <;> decide +kernel

end Sys2Proof.Tests
end

/-!
SUPPORT. No operation of a block changes the size of a table, of a list of records or of a parity record (spec/00,
"Capacities"): one equation per operation, in the order of the definitions, each from those of the operations it calls.
-/

namespace Sys2Proof.Machine

def Parity.sizes (p : Parity) : List Nat :=
  [p.link.length, p.units.length, p.channels.length, p.filters.length, p.runs.length, p.station.length,
    p.compressors.length, p.dryers.length, p.shippers.length, p.events.length]

def Tables.sizes (t : Tables) : List Nat :=
  [t.link.own.length, t.units.length, t.channels.length, t.filters.length, t.runs.length, t.compressors.length,
    t.dryers.length, t.shippers.length, t.events.length]

/-- The sizes of the tables and lists of a state, the runs by those of their accumulators. -/
def State.sizes (s : State) : List (List Nat) :=
  [s.parity.sizes, s.tables.sizes, s.runs.map (·.slots.length),
    [s.units.length, s.chans.length, s.comp.recs.length, s.dry.trains.length, s.acct.slots.length, s.ev.recs.length]]

theorem sized_iff (s : State) : s.Sized ↔ s.sizes =
    [[5, 48, 64, 7, 8, 1, 6, 2, 32, 48], [4, 48, 64, 7, 8, 6, 2, 32, 48], List.replicate 8 4, [48, 64, 6, 2, 32, 48]] := by
  simp only [State.sizes, Parity.sizes, Tables.sizes, State.Sized, Parity.Sized, Tables.Sized, List.cons.injEq,
    List.eq_replicate_iff, List.length_map, List.forall_mem_map, and_true, and_assoc]
  constructor
  · rintro ⟨h1,h2,h3,h4,h5,h6,h7,h8,h9,h10,h11,h12,h13,h14,h15,h16,h17,h18,h19,h20,h21,h22,h23,h24,h25,h26,h27⟩
    simp [*]
    assumption
  · rintro ⟨h1,h2,h3,h4,h5,h6,h7,h8,h9,h10,h11,h12,h13,h14,h15,h16,h17,h18,h19,h20,h21,h22,h23,h24,h25,h26,h27⟩
    simp [*]
    assumption

theorem foldl_sizes {α : Type} {f : State → α → State} (h : ∀ s a, (f s a).sizes = s.sizes) (l : List α) (s : State) :
    (l.foldl f s).sizes = s.sizes := by
  induction l generalizing s with
  | nil => rfl
  | cons a l ih => rw [List.foldl_cons, ih, h]

theorem ite_sizes {c : Prop} [Decidable c] {s t u : State} (h : t.sizes = s.sizes) (k : u.sizes = s.sizes) :
    (if c then t else u).sizes = s.sizes := by
  split
  · exact h
  · exact k

/-- An update of fields that hold no sized list, or only of such lists to their own length. It is tried on the update itself,
before its fields are rewritten. -/
@[simp ↓] theorem sizes_update (s : State)
    (now pending link own resp parity engine time mode comp dry acct ev mgmt custody ret free)
    (hp : Parity.sizes parity = s.parity.sizes) (hc : comp.recs.length = s.comp.recs.length)
    (hd : dry.trains.length = s.dry.trains.length) (ha : acct.slots.length = s.acct.slots.length)
    (he : ev.recs.length = s.ev.recs.length) :
    (State.mk now pending link own resp s.tables parity s.units s.chans engine s.runs time mode comp dry acct ev mgmt custody
      ret free).sizes = s.sizes := by
  simp [State.sizes, *]

theorem Parity.put_sizes (p : Parity) (t : TableId) {l : List EntryParity} (h : l.length = (p.get t).length) :
    (p.put t l).sizes = p.sizes := by
  cases t <;> simp_all [Parity.put, Parity.get, Parity.sizes]

@[simp] theorem setMark_sizes (t : TableId) (i : Nat) (s : State) : (s.setMark t i).sizes = s.sizes := by
  simp [State.setMark, Parity.put_sizes]

@[simp] theorem clearMarks_sizes (t : TableId) (s : State) : (s.clearMarks t).sizes = s.sizes := by
  simp [State.clearMarks, Parity.put_sizes]

/-! ### One record of the state -/

@[simp] theorem onUnit_sizes (i : Nat) (f : UnitLive → UnitLive) (s : State) : (s.onUnit i f).sizes = s.sizes := by
  simp [State.onUnit, State.sizes]

@[simp] theorem onChan_sizes (i : Nat) (f : ChannelState → ChannelState) (s : State) : (s.onChan i f).sizes = s.sizes := by
  simp [State.onChan, State.sizes]

@[simp] theorem onComp_sizes (i : Nat) (f : CompRec → CompRec) (s : State) : (s.onComp i f).sizes = s.sizes := by
  simp [State.onComp]

@[simp] theorem onTrain_sizes (i : Nat) (f : Train → Train) (s : State) : (s.onTrain i f).sizes = s.sizes := by
  simp [State.onTrain]

@[simp] theorem onSlot_sizes (i : Nat) (f : AccSlot → AccSlot) (s : State) : (s.onSlot i f).sizes = s.sizes := by
  simp [State.onSlot]

/-! ### Events and parity marks -/

@[simp] theorem occurPlain_sizes (n b : Nat) (s : State) : (occurPlain n b s).sizes = s.sizes := by
  simp [occurPlain]

@[simp] theorem occurParity_sizes (b : Nat) (s : State) : (occurParity b s).sizes = s.sizes := by
  unfold occurParity; split <;> simp

@[simp] theorem occur_sizes (n b : Nat) (s : State) : (occur n b s).sizes = s.sizes := by
  rcases occur_cases n b s with ⟨-, h⟩ | ⟨-, -, h⟩ | ⟨-, -, h⟩ <;> simp [h]

@[simp] theorem occurIf_sizes (c : Bool) (n b : Nat) (s : State) : (occurIf c n b s).sizes = s.sizes := by
  unfold occurIf; split <;> simp

@[simp] theorem markEntry_sizes (t : TableId) (i b : Nat) (s : State) : (markEntry t i b s).sizes = s.sizes := by
  simp [markEntry]

@[simp] theorem checkEventEntry_sizes (n : Nat) (s : State) : (checkEventEntry n s).sizes = s.sizes := by
  unfold checkEventEntry; repeat' split
  all_goals simp

@[simp] theorem checkEvents_sizes (s : State) : (checkEvents s).sizes = s.sizes := foldl_sizes (fun _ _ => by simp) _ _

/-! ### Own commands and duty records -/

@[simp] theorem offerOwn_sizes (e : Nat) (c : Command) (s : State) : (offerOwn e c s).sizes = s.sizes := by
  unfold offerOwn; split <;> simp

@[simp] theorem withdrawOwn_sizes (e : Nat) (p : Command → Bool) (s : State) : (withdrawOwn e p s).sizes = s.sizes := by
  simp [withdrawOwn]

@[simp] theorem withdrawAll_sizes (e : Nat) (s : State) : (withdrawAll e s).sizes = s.sizes := by simp [withdrawAll]

@[simp] theorem checkComp_sizes (k : Nat) (s : State) : (checkComp k s).sizes = s.sizes := by
  simp [checkComp, lockByParity, apply_ite State.sizes]

@[simp] theorem ownStart_sizes (k : Nat) (s : State) : (ownStart k s).sizes = s.sizes := by
  simp [ownStart, beginStart, apply_ite State.sizes]

@[simp] theorem takeStop_sizes (k : Nat) (s : State) : (takeStop k s).sizes = s.sizes := by
  unfold takeStop; split <;> simp

@[simp] theorem cancelStart_sizes (k : Nat) (s : State) : (cancelStart k s).sizes = s.sizes := by simp [cancelStart]

@[simp] theorem immediateStop_sizes (k : Nat) (s : State) : (immediateStop k s).sizes = s.sizes := by
  unfold immediateStop; split
  · split <;> simp
  · simp
  · rfl

@[simp] theorem immediateStops_sizes (s : State) : (immediateStops s).sizes = s.sizes :=
  foldl_sizes (fun _ _ => ite_sizes (by simp) rfl) _ _

@[simp] theorem cancelUnsentStarts_sizes (s : State) : (cancelUnsentStarts s).sizes = s.sizes :=
  foldl_sizes (fun _ _ => ite_sizes (by simp) rfl) _ _

@[simp] theorem resort_sizes (s : State) : (resort s).sizes = s.sizes := by simp [resort]

@[simp] theorem buildOrder_sizes (s : State) : (buildOrder s).sizes = s.sizes := by simp [buildOrder]

@[simp] theorem actOn_sizes (w : List Nat) (k : Nat) (s : State) : (actOn w k s).sizes = s.sizes := by
  unfold actOn; split
  · exact ite_sizes (by simp) rfl
  · exact ite_sizes (by simp) (ite_sizes (by simp) (by simp))
  · rfl

@[simp] theorem offerSpeed_sizes (d r k : Nat) (s : State) : (offerSpeed d r k s).sizes = s.sizes :=
  ite_sizes (by simp) rfl

@[simp] theorem evalCore_sizes (s : State) : (evalCore s).sizes = s.sizes := by
  unfold evalCore offerSpeeds
  exact (ite_sizes rfl (foldl_sizes (fun _ _ => by simp) _ _)).trans (foldl_sizes (fun _ _ => by simp) _ _)

/-! ### Confirmation and its coupling with duty -/

@[simp] theorem reclamp_sizes (i : Nat) (s : State) : (reclamp i s).sizes = s.sizes := by simp [reclamp]

@[simp] theorem reclampAll_sizes (s : State) : (reclampAll s).sizes = s.sizes := foldl_sizes (fun _ _ => by simp) _ _

@[simp] theorem confirmAll_sizes (s : State) : (confirmAll s).sizes = s.sizes := by simp [confirmAll]

@[simp] theorem curtailCore_sizes (j : Option Nat) (s : State) : (curtailCore j s).sizes = s.sizes := by
  unfold curtailCore; dsimp only; split <;> simp

@[simp] theorem tellSums_sizes (s : State) : (tellSums s).sizes = s.sizes := by simp [tellSums]

@[simp] theorem publish_sizes (s : State) : (publish s).sizes = s.sizes := by
  unfold publish
  exact ite_sizes rfl (ite_sizes (by simp) (by simp))

@[simp] theorem dutyEvaluation_sizes (s : State) : (dutyEvaluation s).sizes = s.sizes := by
  simp only [dutyEvaluation, checkOrder, publish_sizes, evalCore_sizes]
  exact foldl_sizes (fun _ _ => by simp) _ _

@[simp] theorem curtail_sizes (j : Option Nat) (s : State) : (curtail j s).sizes = s.sizes := by
  unfold curtail
  exact ite_sizes (by simp) (by simp)

@[simp] theorem checkShipper_sizes (i : Nat) (s : State) : (checkShipper i s).sizes = s.sizes :=
  ite_sizes (by simp) rfl

@[simp] theorem checkShippers_sizes (s : State) : (checkShippers s).sizes = s.sizes := foldl_sizes (fun _ _ => by simp) _ _

@[simp] theorem acctDrying_sizes (c : Nat) (s : State) : (acctDrying c s).sizes = s.sizes := by simp [acctDrying]

@[simp] theorem acctCompressor_sizes (c : Nat) (s : State) : (acctCompressor c s).sizes = s.sizes := by simp [acctCompressor]

@[simp] theorem acctFlag_sizes (c : Bool) (s : State) : (acctFlag c s).sizes = s.sizes := by simp [acctFlag]

@[simp] theorem openGroup_sizes (n : Nat) (s : State) : (openGroup n s).sizes = s.sizes := ite_sizes rfl (by simp)

@[simp] theorem onGroup_sizes (n : Nat) (f : Group → Group) (s : State) : (onGroup n f s).sizes = s.sizes := by simp [onGroup]

/-! ### The duty controller's events -/

@[simp] theorem settleFirst_sizes (k : Nat) (d : DutyState) (s : State) : (settleFirst k d s).sizes = s.sizes := by simp [settleFirst]

@[simp] theorem firstReport_sizes (k : Nat) (c : Condition) (s : State) : (firstReport k c s).sizes = s.sizes := by
  unfold firstReport; split
  · rfl
  · simp
  · simp
  · exact ite_sizes (by simp) (by simp)

@[simp] theorem localStart_sizes (k : Nat) (s : State) : (localStart k s).sizes = s.sizes := by simp [localStart]

@[simp] theorem stoppedReport_sizes (k : Nat) (s : State) : (stoppedReport k s).sizes = s.sizes := by simp [stoppedReport]

@[simp] theorem confirmStart_sizes (k : Nat) (s : State) : (confirmStart k s).sizes = s.sizes := by simp [confirmStart]

@[simp] theorem tripLock_sizes (k : Nat) (s : State) : (tripLock k s).sizes = s.sizes := by simp [tripLock]

@[simp] theorem actReport_sizes (k : Nat) (c : Condition) (s : State) : (actReport k c s).sizes = s.sizes := by
  unfold actReport; split <;> simp

@[simp] theorem useComp_sizes (k : Nat) (s : State) : (useComp k s).sizes = s.sizes := ite_sizes (by simp) rfl

@[simp] theorem reportTo_sizes (k : Nat) (c : Condition) (s : State) : (reportTo k c s).sizes = s.sizes := by
  unfold reportTo
  exact ite_sizes (by simp) (by simp)

@[simp] theorem compressorReport_sizes (e : Nat) (p : List Octet) (s : State) :
    (compressorReport e p s).sizes = s.sizes := by
  unfold compressorReport; split <;> simp

@[simp] theorem compDeparted_sizes (e : Nat) (s : State) : (compDeparted e s).sizes = s.sizes := by
  unfold compDeparted; split <;> simp

@[simp] theorem dutyMode_sizes (m : Mode) (s : State) : (dutyMode m s).sizes = s.sizes := by
  simp [dutyMode, apply_ite State.sizes]

@[simp] theorem dutyEsd_sizes (a : Bool) (s : State) : (dutyEsd a s).sizes = s.sizes := by
  simp [dutyEsd, apply_ite State.sizes]

@[simp] theorem dutyFlag_sizes (a : Bool) (s : State) : (dutyFlag a s).sizes = s.sizes := by simp [dutyFlag]

@[simp] theorem becomeManual_sizes (k : Nat) (s : State) : (becomeManual k s).sizes = s.sizes := by
  simp [becomeManual, apply_ite State.sizes]

@[simp] theorem becomeAuto_sizes (k : Nat) (s : State) : (becomeAuto k s).sizes = s.sizes := by
  simp [becomeAuto, apply_ite State.sizes]

@[simp] theorem judgeComp_sizes (k : Nat) (p : List Octet) (s : State) : (judgeComp k p s).1.sizes = s.sizes := by
  unfold judgeComp supervisorStop supervisorStart supervisorSpeed beginStart; dsimp only; repeat' split
  all_goals simp

@[simp] theorem compressorCommand_sizes (e : Nat) (p : List Octet) (s : State) :
    (compressorCommand e p s).1.sizes = s.sizes := by
  unfold compressorCommand; split <;> simp

@[simp] theorem failStart_sizes (k : Nat) (s : State) : (failStart k s).sizes = s.sizes := by
  unfold failStart
  exact ite_sizes (by simp) (by simp)

@[simp] theorem minimumRunOver_sizes (k : Nat) (s : State) : (minimumRunOver k s).sizes = s.sizes := by
  unfold minimumRunOver
  exact ite_sizes (by simp) (by simp)

/-! ### The Drying Controller -/

@[simp] theorem tellDrying_sizes (s : State) : (tellDrying s).sizes = s.sizes := ite_sizes rfl (by simp)

@[simp] theorem evalTrain_sizes (i : Nat) (s : State) : (evalTrain i s).sizes = s.sizes := by simp [evalTrain]

@[simp] theorem startTest_sizes (i : Nat) (s : State) : (startTest i s).sizes = s.sizes := by
  unfold startTest; dsimp only; split
  · rfl
  · exact ite_sizes (by simp) rfl

@[simp] theorem raiseRequest_sizes (i : Nat) (s : State) : (raiseRequest i s).sizes = s.sizes := by simp [raiseRequest]

@[simp] theorem bedTrigger_sizes (i : Nat) (s : State) : (bedTrigger i s).sizes = s.sizes := ite_sizes (by simp) rfl

@[simp] theorem loadingTrigger_sizes (i : Nat) (s : State) : (loadingTrigger i s).sizes = s.sizes := ite_sizes (by simp) rfl

@[simp] theorem noBedTrigger_sizes (i : Nat) (s : State) : (noBedTrigger i s).sizes = s.sizes := ite_sizes (by simp) rfl

@[simp] theorem endSwitch_sizes (i : Nat) (s : State) : (endSwitch i s).sizes = s.sizes := by simp [endSwitch]

@[simp] theorem bedOut_sizes (i : Nat) (x : BedId) (s : State) : (bedOut i x s).sizes = s.sizes := by simp [bedOut]

@[simp] theorem confirmOpening_sizes (i : Nat) (op : SwitchOp) (s : State) : (confirmOpening i op s).sizes = s.sizes := by
  unfold confirmOpening; dsimp only; split <;> simp

@[simp] theorem failOpening_sizes (b : Bool) (i : Nat) (op : SwitchOp) (s : State) :
    (failOpening b i op s).sizes = s.sizes := by
  simp [failOpening]

@[simp] theorem confirmRelease_sizes (i : Nat) (x : BedId) (s : State) : (confirmRelease i x s).sizes = s.sizes := by
  simp [confirmRelease]

@[simp] theorem failRelease_sizes (b : Bool) (i : Nat) (x : BedId) (s : State) : (failRelease b i x s).sizes = s.sizes := by
  simp [failRelease]

@[simp] theorem useTrain_sizes (i : Nat) (s : State) : (useTrain i s).sizes = s.sizes :=
  ite_sizes (ite_sizes (by simp) (by simp)) rfl

@[simp] theorem entryTriggers_sizes (i : Nat) (s : State) : (entryTriggers i s).sizes = s.sizes := by simp [entryTriggers]

@[simp] theorem synchronise_sizes (i : Nat) (p : BedId → Position) (s : State) : (synchronise i p s).sizes = s.sizes := by
  unfold synchronise
  exact ite_sizes (by simp) (by simp)

@[simp] theorem faultPlain_sizes (i : Nat) (x : BedId) (s : State) : (faultPlain i x s).sizes = s.sizes := by
  unfold faultPlain; split <;> simp

@[simp] theorem faultAt_sizes (i : Nat) (x : BedId) (s : State) : (faultAt i x s).sizes = s.sizes := by
  unfold faultAt; repeat' split
  all_goals simp

@[simp] theorem actPosition_sizes (i : Nat) (o : Option SwitchOp) (x : BedId) (p : Position) (s : State) :
    (actPosition i o x p s).sizes = s.sizes := by
  unfold actPosition; repeat' split
  all_goals simp

@[simp] theorem trainReport_sizes (i : Nat) (p : BedId → Position) (s : State) : (trainReport i p s).sizes = s.sizes := by
  unfold trainReport recordPositions
  exact ite_sizes (by simp) (ite_sizes (by simp) (ite_sizes (by simp) (by simp)))

@[simp] theorem dryerReport_sizes (e : Nat) (p : List Octet) (s : State) : (dryerReport e p s).sizes = s.sizes := by
  unfold dryerReport; split <;> simp

@[simp] theorem sweepCounts_sizes (c : Nat) (s : State) : (sweepCounts c s).sizes = s.sizes := by
  unfold sweepCounts
  exact ite_sizes (by simp) rfl

@[simp] theorem withdrawRequest_sizes (c : Nat) (s : State) : (withdrawRequest c s).sizes = s.sizes :=
  ite_sizes (by simp) rfl

@[simp] theorem dropPending_sizes (c : Nat) (s : State) : (dropPending c s).sizes = s.sizes := by simp [dropPending]

@[simp] theorem setBad_sizes (c : Nat) (s : State) : (setBad c s).sizes = s.sizes := by simp [setBad]

@[simp] theorem useChannel_sizes (c : Nat) (s : State) : (useChannel c s).sizes = s.sizes := ite_sizes (by simp) rfl

@[simp] theorem useChannels_sizes (l : List Nat) (s : State) : (useChannels l s).sizes = s.sizes :=
  foldl_sizes (fun _ _ => by simp) _ _

@[simp] theorem trainVolume_sizes (i n : Nat) (s : State) : (trainVolume i n s).sizes = s.sizes := by
  unfold trainVolume
  exact ite_sizes (by simp) (by simp)

@[simp] theorem dryVolume_sizes (r n : Nat) (s : State) : (dryVolume r n s).sizes = s.sizes :=
  foldl_sizes (fun _ _ => ite_sizes (by simp) rfl) _ _

@[simp] theorem breakthrough_sizes (i : Nat) (s : State) : (breakthrough i s).sizes = s.sizes := by
  unfold breakthrough
  exact ite_sizes (by simp) (by simp)

@[simp] theorem testHeating_sizes (i : Nat) (x : BedId) (s : State) : (testHeating i x s).sizes = s.sizes := by
  unfold testHeating
  exact ite_sizes (ite_sizes (by simp) (by simp)) rfl

@[simp] theorem testAllHeating_sizes (i : Nat) (s : State) : (testAllHeating i s).sizes = s.sizes :=
  foldl_sizes (fun _ _ => by simp) _ _

@[simp] theorem regenChanged_sizes (i : Nat) (s : State) : (regenChanged i s).sizes = s.sizes := by
  unfold regenChanged
  exact ite_sizes (by simp) (by simp)

@[simp] theorem trainComparator_sizes (i c : Nat) (x : CmpId) (o : Bool) (s : State) :
    (trainComparator i c x o s).sizes = s.sizes := by
  unfold trainComparator
  simp [apply_ite State.sizes]

@[simp] theorem dryComparator_sizes (c : Nat) (x : CmpId) (o : Bool) (s : State) :
    (dryComparator c x o s).sizes = s.sizes := by simp [dryComparator]

@[simp] theorem dryMode_sizes (m : Mode) (s : State) : (dryMode m s).sizes = s.sizes := by
  unfold dryMode
  exact ite_sizes ((foldl_sizes (fun _ _ => ite_sizes (by simp) rfl) _ _).trans (by simp)) (by simp)

@[simp] theorem dryDeparted_sizes (e : Nat) (s : State) : (dryDeparted e s).sizes = s.sizes := by
  unfold dryDeparted; split <;> simp

@[simp] theorem dryerCommand_sizes (e : Nat) (p : List Octet) (s : State) : (dryerCommand e p s).1.sizes = s.sizes := by
  unfold dryerCommand; dsimp only; repeat' split
  all_goals simp

@[simp] theorem adsorbLimit_sizes (i : Nat) (s : State) : (adsorbLimit i s).sizes = s.sizes := by
  unfold adsorbLimit; split <;> simp

@[simp] theorem heatReached_sizes (i : Nat) (x : BedId) (s : State) : (heatReached i x s).sizes = s.sizes := by
  simp [heatReached]

@[simp] theorem heatShort_sizes (i : Nat) (x : BedId) (s : State) : (heatShort i x s).sizes = s.sizes := by
  simp [heatShort]

@[simp] theorem cooled_sizes (i : Nat) (x : BedId) (s : State) : (cooled i x s).sizes = s.sizes := by
  simp [cooled]

@[simp] theorem passedExpiries_sizes (i : Nat) (s : State) : (passedExpiries i s).sizes = s.sizes := by
  unfold passedExpiries
  refine (foldl_sizes (fun _ _ => ite_sizes (by simp) rfl) _ _).trans ?_
  refine (foldl_sizes (fun _ _ => ite_sizes (by simp) rfl) _ _).trans ?_
  exact (foldl_sizes (fun _ _ => ite_sizes (by simp) rfl) _ _).trans (ite_sizes (by simp) rfl)

@[simp] theorem dryersTakeEffect_sizes (o : List DryerCfg) (w : Nat → Bool) (s : State) :
    (dryersTakeEffect o w s).sizes = s.sizes := by
  simp [dryersTakeEffect, foldl_sizes, apply_ite State.sizes]

/-! ### The mode machine -/

@[simp] theorem checkStation_sizes (s : State) : (checkStation s).sizes = s.sizes := by
  unfold checkStation
  exact ite_sizes (by simp) rfl

@[simp] theorem offerLineup_sizes (l : LineupArg) (s : State) : (offerLineup l s).sizes = s.sizes := by
  unfold offerLineup; split <;> simp

@[simp] theorem withdrawLineup_sizes (s : State) : (withdrawLineup s).sizes = s.sizes := by
  unfold withdrawLineup; split <;> simp

@[simp] theorem tellMode_sizes (m : Mode) (s : State) : (tellMode m s).sizes = s.sizes := by simp [tellMode]

@[simp] theorem stopModeTimers_sizes (s : State) : (stopModeTimers s).sizes = s.sizes := by simp [stopModeTimers]

@[simp] theorem enterShutIn_sizes (n : Nat) (s : State) : (enterShutIn n s).sizes = s.sizes := by simp [enterShutIn]

@[simp] theorem failTransition_sizes (s : State) : (failTransition s).sizes = s.sizes := by simp [failTransition]

@[simp] theorem enterFlow_sizes (d : Dir) (s : State) : (enterFlow d s).sizes = s.sizes := by simp [enterFlow]

@[simp] theorem enterLineup_sizes (d : Dir) (s : State) : (enterLineup d s).sizes = s.sizes := by
  unfold enterLineup
  exact ite_sizes (by simp) (by simp)

@[simp] theorem evalStationFlow_sizes (s : State) : (evalStationFlow s).sizes = s.sizes := by
  unfold evalStationFlow
  exact ite_sizes (ite_sizes (by simp) (by simp)) (by simp)

@[simp] theorem flowNotice_sizes (s : State) : (flowNotice s).sizes = s.sizes := ite_sizes (by simp) rfl

@[simp] theorem enterRundown_sizes (d : Dir) (s : State) : (enterRundown d s).sizes = s.sizes := by simp [enterRundown]

@[simp] theorem quietReached_sizes (d : Dir) (s : State) : (quietReached d s).sizes = s.sizes :=
  ite_sizes (by simp) (by simp)

@[simp] theorem setFlow_sizes (d : Dir) (s : State) : (setFlow d s).2.sizes = s.sizes := by
  unfold setFlow; repeat' split
  all_goals simp

@[simp] theorem requestFlow_sizes (d : Dir) (s : State) : (requestFlow d s).state.sizes = s.sizes := by
  have h := setFlow_sizes d s
  unfold requestFlow; split
  · rfl
  · split
    all_goals
      rename_i hf
      rw [hf] at h
      exact h

@[simp] theorem setMode_sizes (a : List Octet) (s : State) : (setMode a s).state.sizes = s.sizes := by
  unfold setMode; dsimp only; repeat' split
  all_goals simp [refuse]

@[simp] theorem esdActivated_sizes (s : State) : (esdActivated s).sizes = s.sizes := by simp [esdActivated]

@[simp] theorem esdCleared_sizes (s : State) : (esdCleared s).sizes = s.sizes := by simp [esdCleared]

@[simp] theorem actLineup_sizes (l : Lineup) (s : State) : (actLineup l s).sizes = s.sizes := by
  unfold actLineup; split <;> simp

@[simp] theorem stationReport_sizes (p : List Octet) (s : State) : (stationReport p s).sizes = s.sizes := by
  unfold stationReport recordLineup; split
  · simp [apply_ite State.sizes]
  · rfl

@[simp] theorem stationDeparted_sizes (s : State) : (stationDeparted s).sizes = s.sizes := by
  unfold stationDeparted; split <;> simp

@[simp] theorem changeFlag_sizes (b : Bool) (s : State) : (changeFlag b s).sizes = s.sizes := by simp [changeFlag]

@[simp] theorem pressureNotice_sizes (c : Nat) (s : State) : (pressureNotice c s).sizes = s.sizes := by
  unfold pressureNotice usePressures; dsimp only; repeat' split
  all_goals simp

/-! ### The Meter Run Computer -/

@[simp] theorem onRun_sizes (r : Nat) {f : RunState → RunState} (h : ∀ x, (f x).slots.length = x.slots.length) (s : State) :
    (s.onRun r f).sizes = s.sizes := by
  have hm : (s.runs.modify r f).map (·.slots.length) = s.runs.map (·.slots.length) := by
    refine List.ext_getElem (by simp) fun i _ _ => ?_
    by_cases hi : r = i <;> simp [hi, h]
  simp [State.onRun, State.sizes, hm]

theorem mapIdx_runs_sizes {f : Nat → RunState → RunState} (h : ∀ i x, (f i x).slots.length = x.slots.length)
    (l : List RunState) : (l.mapIdx f).map (·.slots.length) = l.map (·.slots.length) :=
  List.ext_getElem (by simp) fun i _ _ => by simp [h]

@[simp] theorem checkRun_sizes (r : Nat) (s : State) : (checkRun r s).sizes = s.sizes := ite_sizes (by simp) rfl

@[simp] theorem recordTrigger_sizes (r : Nat) (s : State) : (recordTrigger r s).sizes = s.sizes := by
  simp [recordTrigger]

@[simp] theorem RunState.after_slots_length (now : Nat) (k : Computed) (x : RunState) :
    (x.after now k).slots.length = x.slots.length := by
  unfold RunState.after; dsimp only; split <;> simp

@[simp] theorem computeTrigger_sizes (r m : Nat) (s : State) : (computeTrigger r m s).sizes = s.sizes := by
  unfold computeTrigger useInputs stageEvents
  exact ite_sizes ((flowNotice_sizes _).trans (ite_sizes (by simp) (by simp))) (ite_sizes (by simp) (by simp))

@[simp] theorem trigger_sizes (r : Nat) (s : State) : (trigger r s).sizes = s.sizes := by
  unfold trigger; dsimp only; repeat' split
  all_goals simp

@[simp] theorem flowCompletion_sizes (c : Nat) (s : State) : (flowCompletion c s).sizes = s.sizes :=
  foldl_sizes (fun _ _ => ite_sizes (by simp) rfl) _ _

@[simp] theorem refFault_sizes (r : Nat) (s : State) : (refFault r s).sizes = s.sizes :=
  ite_sizes rfl (by simp)

@[simp] theorem refStale_sizes (r : Nat) (s : State) : (refStale r s).sizes = s.sizes :=
  ite_sizes (by simp) rfl

@[simp] theorem calorificCompletion_sizes (c : Nat) (s : State) : (calorificCompletion c s).sizes = s.sizes := by
  refine foldl_sizes (fun t r => ite_sizes ?_ rfl) _ _
  split
  · exact onRun_sizes r (f := RunState.calGood _ _ _) (fun _ => rfl) t
  · simp
  · rfl

@[simp] theorem calorificAged_sizes (c : Nat) (s : State) : (calorificAged c s).sizes = s.sizes :=
  foldl_sizes (fun _ _ => ite_sizes (by simp) rfl) _ _

@[simp] theorem handover_sizes (n r : Nat) (s : State) : (handover n r s).sizes = s.sizes :=
  ite_sizes rfl (by simp [RunState.handedOver])

/-! ### Sample channels -/

@[simp] theorem completionNotices_sizes (c : Nat) (s : State) : (completionNotices c s).sizes = s.sizes := by
  simp [completionNotices]

@[simp] theorem comparatorNotices_sizes (c : Nat) (b : ChannelState) (s : State) :
    (comparatorNotices c b s).sizes = s.sizes := by
  simp [comparatorNotices, apply_ite State.sizes]

@[simp] theorem finishConditioning_sizes (c : Nat) (k : Conditioning) (s : State) :
    (finishConditioning c k s).sizes = s.sizes := by
  simp [finishConditioning]

@[simp] theorem useFilter_sizes (n : Nat) (s : State) : (useFilter n s).sizes = s.sizes :=
  ite_sizes rfl (ite_sizes (by simp) rfl)

@[simp] theorem beginCustody_sizes (c : Nat) (s : State) : (beginCustody c s).sizes = s.sizes := by
  unfold beginCustody
  exact ite_sizes (by simp) (by simp)

@[simp] theorem accept_sizes (c : Nat) (x : Item) (s : State) : (accept c x s).sizes = s.sizes := by
  unfold accept proceed; split <;> simp

@[simp] theorem examinePending_sizes (c : Nat) (s : State) : (examinePending c s).sizes = s.sizes := by
  unfold examinePending; split
  · rfl
  · exact ite_sizes (by simp) rfl

@[simp] theorem arrive_sizes (c : Nat) (x : Item) (s : State) : (arrive c x s).sizes = s.sizes := by
  simp [arrive, arriveMarked, apply_ite State.sizes]

@[simp] theorem takeItem_sizes (e : Nat) (s : State) (x : Nat × Item) : (takeItem e s x).sizes = s.sizes := by
  unfold takeItem; dsimp only; repeat' split
  all_goals simp

@[simp] theorem sampleFrame_sizes (e : Nat) (p : List Octet) (s : State) : (sampleFrame e p s).sizes = s.sizes :=
  foldl_sizes (fun _ _ => by simp) _ _

@[simp] theorem custodyDone_sizes (c : Nat) (k : Conditioning) (s : State) : (custodyDone c k s).sizes = s.sizes := by
  simp [custodyDone, apply_ite State.sizes]

@[simp] theorem beginService_sizes (c : Nat) (s : State) : (beginService c s).sizes = s.sizes := by
  unfold beginService serviceFails
  exact ite_sizes (by simp) (by simp)

@[simp] theorem engineDone_sizes (c : Nat) (k : Conditioning) (s : State) : (engineDone c k s).sizes = s.sizes := by
  simp [engineDone, apply_ite State.sizes]

@[simp] theorem channelAged_sizes (c : Nat) (s : State) : (channelAged c s).sizes = s.sizes := by simp [channelAged]

@[simp] theorem listChannel_sizes (s : State) (c : Nat) : (listChannel s c).sizes = s.sizes := by
  unfold listChannel
  exact ite_sizes (by simp) (ite_sizes (by simp) (by simp))

@[simp] theorem beginSweep_sizes (s : State) : (beginSweep s).sizes = s.sizes := by
  simp [beginSweep, foldl_sizes]

@[simp] theorem startSweepTimer_sizes (s : State) : (startSweepTimer s).sizes = s.sizes := by simp [startSweepTimer]

@[simp] theorem sweepPeriod_sizes (s : State) : (sweepPeriod s).sizes = s.sizes := by
  unfold sweepPeriod
  exact ite_sizes (by simp) (ite_sizes (by simp) (by simp))

@[simp] theorem channelsDeparted_sizes (e : Nat) (s : State) : (channelsDeparted e s).sizes = s.sizes :=
  foldl_sizes (fun _ _ => ite_sizes (by simp) rfl) _ _

@[simp] theorem resetChannel_sizes (c : Nat) (s : State) : (resetChannel c s).sizes = s.sizes := by
  unfold resetChannel voidService; rw [onChan_sizes]; repeat' split
  all_goals simp

@[simp] theorem channelsTakeEffect_sizes (o : List ChannelCfg) (s : State) : (channelsTakeEffect o s).sizes = s.sizes :=
  (foldl_sizes (fun _ _ => ite_sizes rfl (by simp)) _ _).trans (by simp)

/-! ### The Unit Directory and the frames -/

@[simp] theorem leavePresent_sizes (i : Nat) (c : UnitClass) (s : State) : (leavePresent i c s).sizes = s.sizes := by
  unfold leavePresent; dsimp only; split <;> simp

@[simp] theorem entryGone_sizes (i : Nat) (a : Attach) (c : UnitClass) (s : State) :
    (entryGone i a c s).sizes = s.sizes := by
  simp [entryGone, apply_ite State.sizes]

@[simp] theorem unitFoundBad_sizes (i : Nat) (s : State) : (unitFoundBad i s).sizes = s.sizes := by
  simp [unitFoundBad, apply_ite State.sizes]

@[simp] theorem lookupCheck_sizes (a : Addr) (s : State) : (lookupCheck a s).sizes = s.sizes := by
  unfold lookupCheck; split
  · exact ite_sizes (by simp) rfl
  · rfl

@[simp] theorem departEntry_sizes (i : Nat) (s : State) : (departEntry i s).sizes = s.sizes :=
  ite_sizes rfl (by simp)

@[simp] theorem announce_sizes (i : Nat) (p : List Octet) (s : State) : (announce i p s).sizes = s.sizes := by
  unfold announce; split <;> simp

@[simp] theorem releaseEntry_sizes (i : Nat) (s : State) : (releaseEntry i s).sizes = s.sizes := by
  unfold releaseEntry; split <;> simp

@[simp] theorem unitsTakeEffect_sizes (o : List UnitCfg) (w : Nat → Bool) (s : State) :
    (unitsTakeEffect o w s).sizes = s.sizes := by
  have reset (i : Nat) (c : UnitClass) (t : State) : (resetUnitEntry i c t).sizes = t.sizes := by
    simp [resetUnitEntry, apply_ite State.sizes]
  exact (foldl_sizes (fun _ _ => ite_sizes rfl (reset _ _ _)) _ _).trans (by simp)

@[simp] theorem examine_sizes (i : Nat) (f : Frame) (s : State) : (examine i f s).sizes = s.sizes := by
  unfold examine examineState; repeat' split
  all_goals simp

@[simp] theorem checkOwnTable_sizes (s : State) : (checkOwnTable s).sizes = s.sizes := by
  have entry (i : Nat) (t : State) : (checkOwnEntry i t).sizes = t.sizes := ite_sizes (by simp) rfl
  simp [checkOwnTable, entry]

@[simp] theorem judge_sizes (i : Nat) (p : List Octet) (s : State) : (judge i p s).1.sizes = s.sizes := by
  unfold judge; split <;> simp [stationCommand_frame]

/-! ### The Account Engine and a COMPRESSORS image -/

@[simp] theorem tryAllocate_sizes (s : State) : (tryAllocate s).sizes = s.sizes := by
  unfold tryAllocate; repeat' split
  all_goals simp

@[simp] theorem completeGroup_sizes (n : Nat) (s : State) : (completeGroup n s).sizes = s.sizes := by simp [completeGroup]

@[simp] theorem beginClose_sizes (n : Notice) (s : State) : (beginClose n s).sizes = s.sizes := by
  simp [beginClose, rollSlots]

@[simp] theorem acctBoundary_sizes (n : Notice) (s : State) : (acctBoundary n s).sizes = s.sizes := by
  unfold acctBoundary; dsimp only; split <;> simp

@[simp] theorem acctIntervalLength_sizes (s : State) : (acctIntervalLength s).sizes = s.sizes := by simp [acctIntervalLength]

@[simp] theorem writeClose_sizes (op : CloseOp) (r : AllocResult) (s : State) : (writeClose op r s).sizes = s.sizes := by
  unfold writeClose joinHistory; dsimp only; repeat' split
  all_goals simp

@[simp] theorem carryTransfer_sizes (i j n : Nat) (s : State) : (carryTransfer i j n s).sizes = s.sizes :=
  ite_sizes rfl (by simp [moveInventory])

@[simp] theorem compressorsTakeEffect_sizes (o : List CompCfg) (s : State) :
    (compressorsTakeEffect o s).sizes = s.sizes := by
  have former : (withdrawFormer o s).sizes = s.sizes := foldl_sizes (fun _ _ => ite_sizes (by simp) rfl) _ _
  simp [compressorsTakeEffect, former]

end Sys2Proof.Machine

/-!
SUPPORT. Sizes and places together (spec/00 "Capacities", R5, R9, R11, R15 to R17, R177): the operations that write the
link's queues, the requests, the close history or a whole table, then every command, then the step. An operation that
stays within the frame of the Unit Directory (Laws/Frames.lean) needs its size equation only.
-/

namespace Sys2Proof.Machine

theorem ByMetering.toDirectory {s t : State} (h : ByMetering s t) : ByDirectory s t := h.up

theorem ByStation.toDirectory {s t : State} (h : ByStation s t) : ByDirectory s t := h.up.up

theorem ByDrying.toDirectory {s t : State} (h : ByDrying s t) : ByDirectory s t := h.up.up.up

theorem ByTrain.toDirectory {s t : State} (h : ByTrain s t) : ByDirectory s t := h.up.up.up.up

theorem ByDuty.toDirectory {s t : State} (h : ByDuty s t) : ByDirectory s t := h.up.up.up.up.up

/-- The two invariants together. -/
def State.Bounded (s : State) : Prop := s.Sized ∧ s.QueuesOk

theorem sized_of_sizes {s t : State} (h : t.sizes = s.sizes) (hs : s.Sized) : t.Sized := by
  rw [sized_iff, h]
  exact (sized_iff s).1 hs

theorem queuesOk_of_frame {s t : State} (h : ByDirectory s t) (hs : s.QueuesOk) : t.QueuesOk := by
  unfold State.QueuesOk
  rw [h.link, h.resp, h.mgmt, h.ret]
  exact hs

theorem State.Bounded.of_frame {s t : State} (h : ByDirectory s t) (hz : t.sizes = s.sizes) (hs : s.Bounded) : t.Bounded :=
  ⟨sized_of_sizes hz hs.1, queuesOk_of_frame h hs.2⟩

theorem State.Bounded.ite {c : Prop} [Decidable c] {s t : State} (h : s.Bounded) (k : t.Bounded) :
    State.Bounded (if c then s else t) := by
  split
  · exact h
  · exact k

/-! ### Answers -/

theorem leaveService_bounded {s : State} (hs : s.Bounded) : (leaveService s).Bounded := by
  obtain ⟨hz, up, down, resp, waiting, -, runF, runS, history⟩ := hs
  rw [leaveService_eq]
  refine ⟨hz, up, down, resp, ?_, ?_, runF, runS, history⟩
  · exact (List.length_tail ▸ Nat.sub_le _ _).trans waiting
  · cases hw : s.mgmt.waiting <;> simp

theorem offerResponse_bounded (r : Response) {s : State} (hs : s.Bounded) : (offerResponse r s).Bounded := by
  obtain ⟨hz, up, down, resp, waiting, idle, runF, runS, history⟩ := hs
  rcases offerResponse_cases r s with ⟨room, h⟩ | ⟨-, h⟩ <;> rw [h]
  · exact leaveService_bounded ⟨hz, up, down, by simpa using room, waiting, idle, runF, runS, history⟩
  · exact ⟨hz, up, down, resp, waiting, by simp, runF, runS, history⟩

theorem answerRequest_bounded (q : Request) (st : Status) (r : List Octet) {s : State} (hs : s.Bounded) :
    (answerRequest q st r s).Bounded  :=
  State.Bounded.ite (leaveService_bounded hs) (offerResponse_bounded _ hs)

theorem reoffer_bounded {s : State} (hs : s.Bounded) : (reoffer s).Bounded := by
  rcases reoffer_cases s with ⟨-, h⟩ | ⟨r, -, h⟩ <;> rw [h]
  · exact hs
  · exact offerResponse_bounded r hs

/-- An answer that goes on leaves a bounded state. -/
def Answer.Bounded : Answer → Prop
  | .next t => t.Bounded
  | .fault _ => True
  | .refused _ => True

theorem serve_bounded {code : Octet} {f : List Octet → State → Reply} {s : State} (hs : s.Bounded)
    (h : ∀ args, (f args s).state.Bounded) : Answer.Bounded (serve code f s) := by
  unfold serve; split
  · exact hs
  · split
    · exact answerRequest_bounded _ _ _ (h _)
    · exact answerRequest_bounded _ _ _ hs

theorem guarded_bounded {c d : Prop} [Decidable c] [Decidable d] {r : Refusal} {s t : State} (ht : t.Bounded)
    (hs : s.Bounded) : Answer.Bounded (if c then .refused r else .next (if d then t else s)) := by
  split
  · trivial
  · exact State.Bounded.ite ht hs

/-! ### The arbiters and the frames of both ports -/

theorem sendUpstream_bounded {s : State} (hs : s.Bounded) : (sendUpstream s).Bounded := by
  obtain ⟨hz, up, down, resp, waiting, idle, runF, runS, history⟩ := hs
  unfold sendUpstream; split
  · exact ⟨hz, up, down, resp, waiting, idle, runF, runS, history⟩
  next f rest hq =>
    refine ⟨hz, ?_, down, resp, waiting, idle, runF, Nat.zero_le _, history⟩
    rw [hq] at up; exact Nat.le_of_succ_le up

theorem sendResponse_bounded {r : Response} {rest : List Response} {s : State} (hr : s.resp = r :: rest)
    (hs : s.Bounded) : (sendResponse r rest s).Bounded := by
  obtain ⟨hz, up, down, resp, waiting, idle, runF, runS, history⟩ := hs
  rw [hr, List.length_cons] at resp
  unfold sendResponse; dsimp only; split
  · exact reoffer_bounded ⟨hz, up, down, Nat.le_of_succ_le resp, waiting, idle, runF, Nat.min_le_left _ _, history⟩
  · exact ⟨hz, up, down, resp, waiting, idle, runF, Nat.min_le_left _ _, history⟩

theorem selectPortS_bounded {s : State} (hs : s.Bounded) : (selectPortS s).Bounded := by
  unfold selectPortS; split
  · exact sendUpstream_bounded hs
  · split
    next hr => exact sendResponse_bounded hr hs
    · split
      · obtain ⟨hz, up, down, resp, waiting, idle, runF, runS, history⟩ := hs
        exact ⟨hz, up, down, resp, waiting, idle, runF, Nat.min_le_left _ _, history⟩
      · exact sendUpstream_bounded hs

theorem selectPortF_bounded {s : State} (hs : s.Bounded) : (selectPortF s).Bounded := by
  have downstream : (sendDownstream s).Bounded := by
    obtain ⟨hz, up, down, resp, waiting, idle, runF, runS, history⟩ := hs
    unfold sendDownstream; split
    · exact ⟨hz, up, down, resp, waiting, idle, runF, runS, history⟩
    next f rest hq =>
      refine ⟨hz, up, ?_, resp, waiting, idle, Nat.zero_le _, runS, history⟩
      rw [hq] at down; exact Nat.le_of_succ_le down
  unfold selectPortF; split
  · exact downstream
  · split
    · obtain ⟨hz, up, down, resp, waiting, idle, runF, runS, history⟩ := hs
      exact ⟨hz, up, down, resp, waiting, idle, Nat.min_le_left _ _, runS, history⟩
    · exact downstream

theorem occur_bounded (n b : Nat) {s : State} (hs : s.Bounded) : (occur n b s).Bounded :=
  hs.of_frame (occur_frame n b s).toDirectory (by simp)

theorem checkOwnTable_bounded {s : State} (hs : s.Bounded) : (checkOwnTable s).Bounded := by
  refine ⟨sized_of_sizes (checkOwnTable_sizes s) hs.1, ?_⟩
  rw [checkOwnTable_only]
  exact hs.2

theorem lookupCheck_bounded (a : Addr) {s : State} (hs : s.Bounded) : (lookupCheck a s).Bounded :=
  hs.of_frame (lookupCheck_frame a s) (by simp)

theorem examine_frame (i : Nat) (f : Frame) (s : State) : ByDirectory s (examine i f s) := by
  have state : ByDirectory s (examineState i f.payload s) := by
    unfold examineState; split
    · exact (compressorReport_frame _ _ _).toDirectory
    · exact (dryerReport_frame _ _ _).toDirectory
    · exact (stationReport_frame _ _).toDirectory
    all_goals exact .refl s
  refine .ite (announce_frame _ _ _) (.ite (departEntry_frame _ _) (.ite ?_ (.ite (.ite state (.refl s)) (.refl s))))
  exact .ite (sampleFrame_frame _ _ _).toDirectory (.refl s)

theorem offerUpstream_bounded (f : Frame) (b : Nat) {s : State} (hs : s.Bounded) : (offerUpstream f b s).Bounded := by
  unfold offerUpstream; split
  next room =>
    unfold State.upCapacity at room
    obtain ⟨hz, up, down, resp, waiting, idle, runF, runS, history⟩ := hs
    refine ⟨hz, ?_, down, resp, waiting, idle, runF, runS, history⟩
    simp only [List.length_append, List.length_singleton]
    split at room <;> omega
  · exact occur_bounded _ _ hs

theorem arriveF_bounded (f : Frame) {s : State} (hs : s.Bounded) : (arriveF f s).Bounded := by
  have h := lookupCheck_bounded f.src (checkOwnTable_bounded hs)
  unfold arriveF; dsimp only
  split
  next i _ =>
    have heard := h.of_frame (hear_frame i _) (by simp [hear])
    exact .ite (occur_bounded _ _ heard) ((offerUpstream_bounded _ _ heard).of_frame (examine_frame i f _) (by simp))
  · exact .ite (occur_bounded _ _ h) (offerUpstream_bounded _ _ h)

theorem judge_frame (i : Nat) (p : List Octet) (s : State) : ByDirectory s (judge i p s).1 := by
  unfold judge; split
  · exact (compressorCommand_frame _ _ _).toDirectory
  · exact (dryerCommand_frame _ _ _).toDirectory
  · rw [stationCommand_frame]; exact .refl s
  all_goals exact .refl s

theorem joinDown_bounded (f : Frame) {s : State} (room : s.link.downQ.length < 8) (hs : s.Bounded) :
    (joinDown f s).Bounded := by
  obtain ⟨hz, up, down, resp, waiting, idle, runF, runS, history⟩ := hs
  exact ⟨hz, up, by simpa [joinDown] using room, resp, waiting, idle, runF, runS, history⟩

theorem carryVerdict_bounded (i : Nat) (f : Frame) {r : State × Verdict} (room : r.1.link.downQ.length < 8)
    (hs : r.1.Bounded) : (carryVerdict i f r).Bounded := by
  unfold carryVerdict; split
  · exact joinDown_bounded _ room hs
  · exact joinDown_bounded _ room hs
  · exact occur_bounded _ _ hs

theorem forwardDown_bounded (f : Frame) {s : State} (hs : s.Bounded) : (forwardDown f s).Bounded := by
  have h := lookupCheck_bounded f.dst hs
  unfold forwardDown; dsimp only; split
  · exact occur_bounded _ _ h
  next full =>
    have room : (lookupCheck f.dst s).link.downQ.length < 8 := by
      rw [(lookupCheck_frame f.dst s).link]; exact Nat.lt_of_not_le full
    split
    · split
      next i _ =>
        have k := judge_frame i f.payload (lookupCheck f.dst s)
        exact carryVerdict_bounded _ _ (k.link ▸ room) (h.of_frame k (by simp))
      · exact joinDown_bounded _ room h
    · exact joinDown_bounded _ (Nat.lt_of_not_le full) hs

theorem offerRequest_bounded (q : Request) {s : State} (hs : s.Bounded) : (offerRequest q s).Bounded := by
  have hb := hs
  obtain ⟨hz, up, down, resp, waiting, idle, runF, runS, history⟩ := hs
  unfold offerRequest; split
  next room =>
    rcases enterService_cases { s with mgmt := { s.mgmt with waiting := s.mgmt.waiting ++ [q] } } with
      ⟨busy, h⟩ | ⟨q', rest, none, he, h⟩ <;> rw [h]
    · refine ⟨hz, up, down, resp, by simpa using room, fun none => ?_, runF, runS, history⟩
      simp_all
    · refine ⟨hz, up, down, resp, ?_, by simp, runF, runS, history⟩
      have hl := congrArg List.length he
      simp only [List.length_append, List.length_cons, List.length_nil] at hl ⊢
      omega
  · refine occur_bounded _ _ ?_
    unfold answerBusy State.respRoom; split
    · exact hb
    next hr =>
      refine ⟨hz, up, down, ?_, waiting, idle, runF, runS, history⟩
      simp at hr ⊢; omega

theorem arriveS_bounded (f : Frame) {s : State} (hs : s.Bounded) : (arriveS f s).Bounded := by
  have h := checkOwnTable_bounded hs
  unfold arriveS addressedS broadcastS; dsimp only; split
  · exact .ite (offerRequest_bounded _ h) (occur_bounded _ _ h)
  · exact .ite (occur_bounded _ _ h) (.ite (forwardDown_bounded f (offerRequest_bounded _ h)) (forwardDown_bounded f h))
  · exact forwardDown_bounded f h

theorem takeFrameF_bounded (rx : Option (List Octet)) {s : State} (hs : s.Bounded) : (takeFrameF rx s).Bounded := by
  unfold takeFrameF; repeat' split
  · exact hs
  · exact occur_bounded _ _ hs
  · exact arriveF_bounded _ hs

theorem takeFrameS_bounded (rx : Option (List Octet)) {s : State} (hs : s.Bounded) : (takeFrameS rx s).Bounded := by
  unfold takeFrameS; repeat' split
  · exact hs
  · exact occur_bounded _ _ hs
  · exact arriveS_bounded _ hs

theorem execFrameArrivalPortF_bounded (run : LineRun) {s : State} (hs : s.Bounded) :
    Answer.Bounded (execFrameArrivalPortF run s) :=
  takeFrameF_bounded _ (s := { s with link := { s.link with rxF := collect none run.behind } }) hs

theorem execFrameArrivalPortS_bounded (run : LineRun) {s : State} (hs : s.Bounded) :
    Answer.Bounded (execFrameArrivalPortS run s) :=
  takeFrameS_bounded _ (s := { s with link := { s.link with rxS := collect none run.behind } }) hs

/-! ### Table images -/

theorem Tables.load_sized (t : TableId) (image : List Octet) {ts : Tables} (h : ts.Sized) : (ts.load t image).Sized := by
  obtain ⟨h1, h2, h3, h4, h5, h6, h7, h8, h9⟩ := h
  cases t <;> simp_all [Tables.load, Tables.Sized, decodeEntries, entryCount, decodeLink]

theorem State.Bounded.withTables {s : State} {ts : Tables} (h : ts.Sized) (hs : s.Bounded) :
    State.Bounded { s with tables := ts } := by
  obtain ⟨⟨parity, -, rest⟩, queues⟩ := hs
  exact ⟨⟨parity, h, rest⟩, queues⟩

/-- An image in the place of its table, whatever the retained store then holds besides the close history. -/
theorem State.Bounded.install (t : TableId) (img : StoredImage) {s : State} (hs : s.Bounded) :
    (installImage t img s).Bounded := by
  refine State.Bounded.withTables (Tables.load_sized t _ hs.1.2.1) ⟨sized_of_sizes ?_ hs.1, hs.2⟩
  rw [clearMarks_sizes]; simp [State.putCommitted]

/-! ### Closes -/

theorem curtail_bounded (j : Option Nat) {s : State} (hs : s.Bounded) : (curtail j s).Bounded :=
  hs.of_frame (curtail_frame j s).toDirectory (by simp)

theorem reclampAll_bounded {s : State} (hs : s.Bounded) : (reclampAll s).Bounded :=
  hs.of_frame (reclampAll_frame s).toDirectory (by simp)

theorem tryAllocate_bounded {s : State} (hs : s.Bounded) : (tryAllocate s).Bounded := by
  refine ⟨sized_of_sizes (tryAllocate_sizes s) hs.1, ?_⟩
  unfold tryAllocate; repeat' split
  all_goals exact hs.2

theorem State.Bounded.withAcct {s : State} {a : AcctState} (hs : s.Bounded)
    (h : a.slots = s.acct.slots := by dsimp only) : State.Bounded { s with acct := a } := by
  obtain ⟨⟨parity, tables, units, chans, runs, slots, recs, trains, accts, evs⟩, queues⟩ := hs
  exact ⟨⟨parity, tables, units, chans, runs, slots, recs, trains, h ▸ accts, evs⟩, queues⟩

theorem State.Bounded.withTime {s : State} (t : TimeState) (hs : s.Bounded) : State.Bounded { s with time := t } := hs

theorem beginClose_bounded (n : Notice) {s : State} (hs : s.Bounded) : (beginClose n s).Bounded := by
  have checked : (checkShippers s).Bounded := hs.of_frame (checkShippers_frame s).toDirectory (by simp)
  have rolled {t : State} (ht : t.Bounded) : (rollSlots t).Bounded :=
    ht.of_frame (rollSlots_frame t).toDirectory (by simp [rollSlots])
  unfold beginClose; dsimp only
  refine tryAllocate_bounded (curtail_bounded none (State.Bounded.withAcct ?_))
  exact reclampAll_bounded (rolled (State.Bounded.withAcct checked))

theorem acctBoundary_bounded (n : Notice) {s : State} (hs : s.Bounded) : (acctBoundary n s).Bounded := by
  have opened := hs.of_frame (openGroup_frame n.num s).toDirectory (by simp)
  unfold acctBoundary; dsimp only; split
  · exact beginClose_bounded n opened
  · exact opened

theorem writeClose_bounded (op : CloseOp) (r : AllocResult) {s : State} (hs : s.Bounded) :
    (writeClose op r s).Bounded := by
  refine ⟨sized_of_sizes (writeClose_sizes op r s) hs.1, ?_⟩
  obtain ⟨-, up, down, resp, waiting, idle, runF, runS, history⟩ := hs
  unfold writeClose joinHistory; dsimp only; split
  · exact ⟨up, down, resp, waiting, idle, runF, runS, by simp⟩
  next oldest rest hh =>
    rw [hh] at history
    split
    next room => exact ⟨up, down, resp, waiting, idle, runF, runS, by simpa using room⟩
    · exact queuesOk_of_frame (occurIf_frame _ _ _ _).toDirectory
        ⟨up, down, resp, waiting, idle, runF, runS, by simpa using history⟩

theorem shippersTakeEffect_bounded (img : StoredImage) {s : State} (hs : s.Bounded) :
    (shippersTakeEffect img s).Bounded := by
  have installed := State.Bounded.install .shippers img hs
  refine occur_bounded _ _ ⟨sized_of_sizes ?_ installed.1, installed.2⟩
  simp [State.sizes, installImage]

theorem applyShippers_bounded {s : State} (hs : s.Bounded) : (applyShippers s).Bounded := by
  unfold applyShippers; split
  · exact hs
  · exact .ite hs (shippersTakeEffect_bounded _ hs)

theorem nextClose_bounded {s : State} (hs : s.Bounded) : (nextClose s).Bounded := by
  unfold nextClose; split
  · exact hs
  · exact beginClose_bounded _ hs

theorem completeClose_bounded (op : CloseOp) (r : AllocResult) {s : State} (hs : s.Bounded) :
    (completeClose op r s).Bounded := by
  have written {t : State} (ht : t.Bounded) : (curtail none (reclampAll (applyShippers (writeClose op r t)))).Bounded :=
    curtail_bounded none (reclampAll_bounded (applyShippers_bounded (writeClose_bounded op r ht)))
  unfold completeClose; dsimp only; split
  · exact nextClose_bounded (occur_bounded _ _ (occur_bounded _ _ (.withAcct (written (.withAcct hs)))))
  · exact nextClose_bounded (occur_bounded _ _ (.withAcct (written (.withAcct hs))))

/-! ### Boundaries and station time -/

theorem completeGroup_bounded (num : Nat) {s : State} (hs : s.Bounded) : (completeGroup num s).Bounded :=
  tryAllocate_bounded (hs.of_frame ((openGroup_frame num s).trans (onGroup_frame num _ _)).toDirectory (by simp))

theorem runsTakeEffect_bounded (img : StoredImage) {s : State} (hs : s.Bounded) : (runsTakeEffect img s).Bounded := by
  have installed := State.Bounded.install .runs img hs
  refine occur_bounded _ _ ⟨sized_of_sizes ?_ installed.1, installed.2⟩
  simp [State.sizes, installImage, mapIdx_runs_sizes, RunState.takes, apply_ite RunState.slots]

theorem handoverAll_bounded (num : Nat) {s : State} (hs : s.Bounded) : (handoverAll num s).Bounded := by
  have handed : State.Bounded ((List.range 8).foldl (fun s r => handover num r s) s) :=
    hs.of_frame (ByMetering.foldl (fun _ _ => handover_frame _ _ _) _ _).toDirectory (foldl_sizes (fun _ _ => by simp) _ _)
  unfold handoverAll; dsimp only; split
  · exact completeGroup_bounded num (runsTakeEffect_bounded _ handed)
  · exact completeGroup_bounded num handed

theorem sweepAfter_bounded (n : Nat) {s : State} (hs : s.Bounded) : (sweepAfter n s).Bounded :=
  .ite hs (hs.of_frame (startSweepTimer_frame s).toDirectory (by simp))

theorem stationTakesEffect_bounded (img : StoredImage) {s : State} (hs : s.Bounded) :
    (stationTakesEffect img s).Bounded := by
  have installed : State.Bounded { installImage .station img s with
      ret := { (installImage .station img s).ret with pendStation := none } } := by
    obtain ⟨sizes, queues⟩ := State.Bounded.install .station img hs
    exact ⟨sizes, queues⟩
  have taken := sweepAfter_bounded s.stationRead.sweep (occur_bounded Src.tableCommitted noSubject installed)
  unfold stationTakesEffect; dsimp only; split
  · exact taken
  · exact (taken.of_frame (acctIntervalLength_frame _).toDirectory (by simp)).of_frame
      (dutyEvaluation_frame _).toDirectory (by simp)

theorem applyStation_bounded {s : State} (hs : s.Bounded) : (applyStation s).Bounded := by
  unfold applyStation; split
  · exact stationTakesEffect_bounded _ hs
  · exact hs

theorem giveNotices_bounded (n : Notice) {s : State} (hs : s.Bounded) : (giveNotices n s).Bounded := by
  have written {t : State} (ht : t.Bounded) : (writeRunSeconds t).Bounded := ht
  exact written (acctBoundary_bounded n (handoverAll_bounded n.num hs))

theorem raiseBoundary_bounded {s : State} (hs : s.Bounded) : (raiseBoundary s).Bounded := by
  have checked : (checkStation s).Bounded := hs.of_frame (checkStation_frame s).toDirectory (by simp)
  unfold raiseBoundary; dsimp only
  exact .withTime _ (applyStation_bounded (.withTime _ (giveNotices_bounded _ (.withTime _ checked))))

theorem timeStep_bounded (n : Nat) {s : State} (hs : s.Bounded) : (timeStep n s).Bounded :=
  occur_bounded _ _ (.withTime _ hs)

theorem backwardStep_bounded (n : Nat) {s : State} (hs : s.Bounded) : (backwardStep n s).Bounded := by
  unfold backwardStep; dsimp only
  exact .withTime _ (timeStep_bounded n hs)

theorem wrapTime_bounded {s : State} (hs : s.Bounded) : (wrapTime s).Bounded :=
  .ite (.withTime _ hs) (backwardStep_bounded _ hs)

theorem stepTime_bounded (n : Nat) {s : State} (hs : s.Bounded) : (stepTime n s).2.Bounded := by
  have stepped := timeStep_bounded n hs
  have forward (crosses : Bool) : (if crosses then
      if s.acct.closing.isSome then (Status.closing, s) else (.ok, raiseBoundary (timeStep n s))
      else (.ok, timeStep n s)).2.Bounded := by
    cases crosses
    · exact stepped
    · rw [if_pos rfl]
      split
      · exact hs
      · exact raiseBoundary_bounded stepped
  unfold stepTime
  by_cases same : n = s.time.count
  · rw [if_pos same]; exact hs
  · rw [if_neg same]
    by_cases back : n < s.time.count
    · rw [if_pos back]; exact backwardStep_bounded n hs
    · rw [if_neg back]; exact forward _

theorem setTime_bounded (args : List Octet) {s : State} (hs : s.Bounded) : (setTime args s).state.Bounded := by
  have stepped := stepTime_bounded (fieldAt args 0 6) hs
  unfold setTime; dsimp only; split
  · dsimp only; exact raiseBoundary_bounded (.withTime _ hs)
  · split
    all_goals
      rename_i h
      rw [h] at stepped
      exact stepped

/-! ### Requests -/

theorem nominate_bounded (args : List Octet) {s : State} (hs : s.Bounded) : (nominate args s).state.Bounded := by
  have checked (i : Nat) : (checkShipper i s).Bounded := hs.of_frame (checkShipper_frame i s).toDirectory (by simp)
  have current (i : Nat) (d : Dir) (n : Nat) : (nominateCurrent i d n (checkShipper i s)).state.Bounded := by
    have used := (checked i).of_frame (checkStation_frame _).toDirectory (by simp)
    unfold nominateCurrent; dsimp only; split
    · exact used
    · exact curtail_bounded _ (used.of_frame (onSlot_frame i _ _).toDirectory (by simp))
  unfold nominate; dsimp only; repeat' split
  · exact hs
  · exact hs
  · exact hs
  · exact hs
  · exact checked _
  · exact current _ _ _
  · exact (checked _).of_frame (onSlot_frame _ _ _).toDirectory (by simp [nominateNext])

theorem transfer_bounded (args : List Octet) {s : State} (hs : s.Bounded) : (transfer args s).state.Bounded := by
  have checked (i j : Nat) : (checkShipper j (checkShipper i s)).Bounded :=
    hs.of_frame ((checkShipper_frame i s).trans (checkShipper_frame j _)).toDirectory (by simp)
  have carried (i j n : Nat) {t : State} (ht : t.Bounded) : (carryTransfer i j n t).Bounded := by
    refine .ite ht (curtail_bounded none (State.Bounded.of_frame ?_ ?_ (s := moveInventory i j n t) ht))
    · exact ((reclamp_frame i _).trans (reclamp_frame j _)).toDirectory
    · simp
  unfold transfer; dsimp only; repeat' split
  · exact hs
  · exact hs
  · exact checked _ _
  · exact checked _ _
  · exact checked _ _
  · exact carried _ _ _ (checked _ _)
  · exact hs

theorem readClose_bounded (args : List Octet) {s : State} (hs : s.Bounded) : (readClose args s).state.Bounded := by
  have cleared (i : Nat) : (clearPending i s).Bounded := by
    obtain ⟨hz, up, down, resp, waiting, idle, runF, runS, history⟩ := hs
    exact ⟨hz, up, down, resp, waiting, idle, runF, runS, by simpa [clearPending] using history⟩
  unfold readClose; dsimp only; repeat' split
  · exact hs
  · exact hs
  · exact hs
  · exact hs
  · exact cleared _
  · exact hs

theorem readTable_state (args : List Octet) (s : State) : (readTable args s).state = s := by
  unfold readTable readSelected readFrom refuse; dsimp only; repeat' split
  all_goals rfl

theorem loadBegin_bounded (args : List Octet) {s : State} (hs : s.Bounded) : (loadBegin args s).state.Bounded := by
  unfold loadBegin beginLoad; repeat' split
  · exact hs
  · exact hs
  · exact hs
  · exact occur_bounded _ _ hs
  · exact hs

theorem loadData_bounded (args : List Octet) {s : State} (hs : s.Bounded) : (loadData args s).state.Bounded := by
  unfold loadData; dsimp only; repeat' split
  all_goals exact hs

theorem loadAbort_bounded (args : List Octet) {s : State} (hs : s.Bounded) : (loadAbort args s).state.Bounded := by
  unfold loadAbort; split <;> exact hs

theorem ownerActs_bounded (t : TableId) (before : State) {s : State} (hs : s.Bounded) : (ownerActs t before s).Bounded := by
  cases t
  case units => exact hs.of_frame (unitsTakeEffect_frame _ _ _) (unitsTakeEffect_sizes _ _ _)
  case channels => exact hs.of_frame (channelsTakeEffect_frame _ _).toDirectory (channelsTakeEffect_sizes _ _)
  case compressors => exact hs.of_frame (compressorsTakeEffect_frame _ _).toDirectory (compressorsTakeEffect_sizes _ _)
  case dryers => exact hs.of_frame (dryersTakeEffect_frame _ _ _).toDirectory (dryersTakeEffect_sizes _ _ _)
  case runs => exact hs
  case station => exact hs
  case shippers => exact hs
  all_goals exact occur_bounded _ _ hs

theorem takeImage_bounded (t : TableId) (img : StoredImage) {s : State} (hs : s.Bounded) : (takeImage t img s).Bounded := by
  refine .ite (ownerActs_bounded t s (State.Bounded.install t img hs)) ?_
  unfold makePending; split <;> exact hs

theorem useNamed_bounded (l : Load) {s : State} (hs : s.Bounded) : (l.useNamed s).Bounded :=
  hs.of_frame (useNamed_frame l s).toDirectory (ite_sizes (by simp) rfl)

theorem refuseCommit_bounded (q : Request) (l : Load) (f : Finding) {s : State} (hs : s.Bounded) :
    (refuseCommit q l f s).Bounded := by
  unfold refuseCommit; split
  · exact answerRequest_bounded _ _ _ hs
  · exact answerRequest_bounded _ _ _ hs
  · exact answerRequest_bounded _ _ _ (useNamed_bounded l hs)
  · exact answerRequest_bounded _ _ _ (occur_bounded _ _ (useNamed_bounded l hs))
  · exact hs

/-! ### Resets and the clock -/

theorem samplingReset_bounded {s : State} (hs : s.Bounded) : (samplingReset s).Bounded := by
  have blank : State.Bounded { s with
      chans := s.tables.channels.map fun c => ChannelState.initial (ageAtReset s.now c), engine := ⟨none, [], none⟩ } := by
    obtain ⟨⟨parity, tables, units, -, rest⟩, queues⟩ := hs
    exact ⟨⟨parity, tables, units, by simpa using tables.2.2.1, rest⟩, queues⟩
  unfold samplingReset
  exact (blank.of_frame (checkStation_frame _).toDirectory (checkStation_sizes _)).of_frame
    (startSweepTimer_frame _).toDirectory (startSweepTimer_sizes _)

theorem eventsReset_bounded {s : State} (hs : s.Bounded) : (eventsReset s).Bounded := by
  obtain ⟨⟨parity, tables, units, chans, runs, slots, recs, trains, accts, -⟩, queues⟩ := hs
  exact ⟨⟨parity, tables, units, chans, runs, slots, recs, trains, accts, by simp [eventsReset]⟩, queues⟩

theorem linkRestart_bounded {s : State} (hs : s.Bounded) : (linkRestart s).Bounded := by
  obtain ⟨hz, up, down, -, waiting, idle, -, -, history⟩ := hs
  exact ⟨hz, up, down, by simp [linkRestart], waiting, idle, Nat.zero_le _, Nat.zero_le _, history⟩

theorem directoryReset_bounded {s : State} (hs : s.Bounded) : (directoryReset s).Bounded := by
  obtain ⟨⟨parity, tables, -, rest⟩, queues⟩ := hs
  exact ⟨⟨parity, tables, by simp [directoryReset], rest⟩, queues⟩

theorem runsRestart_bounded {s : State} (hs : s.Bounded) : (runsRestart s).Bounded :=
  hs.of_frame (runsRestart_frame s).toDirectory (by simp [State.sizes, runsRestart, mapIdx_runs_sizes])

theorem dryReset_bounded {s : State} (hs : s.Bounded) : (dryReset s).Bounded := by
  obtain ⟨⟨parity, tables, units, chans, runs, slots, recs, -, accts, evs⟩, queues⟩ := hs
  exact ⟨⟨parity, tables, units, chans, runs, slots, recs, by simp [dryReset], accts, evs⟩, queues⟩

theorem mgmtRestart_bounded {s : State} (hs : s.Bounded) : (mgmtRestart s).Bounded := by
  obtain ⟨hz, up, down, resp, -, -, runF, runS, history⟩ := hs
  exact ⟨hz, up, down, resp, by simp [mgmtRestart], fun _ => rfl, runF, runS, history⟩

theorem fieldRestart_bounded {s : State} (hs : s.Bounded) : (fieldRestart s).Bounded := by
  have mode {t : State} (b : Bool) (ht : t.Bounded) : (modeReset b t).Bounded :=
    ht.of_frame (modeReset_frame b t).toDirectory (by simp [modeReset])
  have duty {t : State} (ht : t.Bounded) : (compRestart t).Bounded :=
    ht.of_frame (compRestart_frame t).toDirectory (by simp [compRestart])
  have blocks : (restartBlocks s).Bounded :=
    mgmtRestart_bounded (dryReset_bounded (duty (mode _ (runsRestart_bounded (samplingReset_bounded
      (directoryReset_bounded (linkRestart_bounded (eventsReset_bounded hs))))))))
  exact blocks.of_frame ((acctCompressor_frame 0 _).trans (acctDrying_frame 0 _)).toDirectory
    ((acctDrying_sizes _ _).trans (acctCompressor_sizes _ _))

theorem Committed.tables_sized (c : Committed) : c.tables.Sized := by
  unfold Committed.tables
  refine List.foldlRecOn _ _ (motive := fun ts => Tables.Sized ts) (by decide) fun ts h t _ => ?_
  split
  · exact Tables.load_sized _ _ h
  · exact h

theorem runsPowerOn_bounded {s : State} (hs : s.Bounded) : (runsPowerOn s).Bounded := by
  obtain ⟨⟨parity, tables, units, chans, -, -, rest⟩, queues⟩ := hs
  exact ⟨⟨parity, tables, units, chans, by simpa [runsPowerOn] using tables.2.2.2.2.1,
    by simp [runsPowerOn, RunState.initial], rest⟩, queues⟩

theorem compPowerOn_bounded {s : State} (hs : s.Bounded) : (compPowerOn s).Bounded := by
  refine hs.of_frame (compPowerOn_frame s).toDirectory ?_
  obtain ⟨⟨-, -, -, -, -, -, recs, -⟩, -⟩ := hs
  simp [compPowerOn, recs]

theorem powerOnBlocks_bounded {s : State} (hs : s.Bounded) : (powerOnBlocks s).Bounded := by
  obtain ⟨-, -, -, -, -, -, -, -, history⟩ := hs
  have reset : State.reset.Bounded := by unfold State.Bounded; decide
  obtain ⟨⟨parity, -, rest⟩, up, down, resp, waiting, idle, runF, runS, -⟩ := reset
  unfold powerOnBlocks; dsimp only
  exact compPowerOn_bounded (samplingReset_bounded (runsPowerOn_bounded
    ⟨⟨parity, Committed.tables_sized _, rest⟩, up, down, resp, waiting, idle, runF, runS, history⟩))

theorem execPowerOnReset_bounded {s : State} (hs : s.Bounded) : Answer.Bounded (execPowerOnReset s) := by
  have repeated (n : Nat) : State.Bounded (Nat.repeat (occur Src.tableParity noSubject) n (powerOnBlocks s)) := by
    induction n with
    | zero => exact powerOnBlocks_bounded hs
    | succ n ih => exact occur_bounded _ _ ih
  exact repeated _

theorem tick_bounded {s : State} (hs : s.Bounded) : (tick s).Bounded := by
  refine ⟨sized_of_sizes ?_ hs.1, hs.2⟩
  simp [tick, advance, State.sizes, mapIdx_runs_sizes, RunState.holdTimer, apply_ite RunState.slots]

/-- A request whose handler stays within its frame and keeps every size. -/
theorem serve_bounded_of_frame {code : Octet} {f : List Octet → State → Reply} {s : State} (hs : s.Bounded)
    (h : ∀ a, ByDirectory s (f a s).state) (hz : ∀ a, (f a s).state.sizes = s.sizes) : Answer.Bounded (serve code f s) :=
  serve_bounded hs fun a => hs.of_frame (h a) (hz a)

theorem releaseUnit_sizes (a : List Octet) (s : State) : (releaseUnit a s).state.sizes = s.sizes := by
  unfold releaseUnit; dsimp only; repeat' split
  all_goals simp [refuse]

theorem sweepRequest_sizes (a : List Octet) (s : State) : (sweepRequest a s).state.sizes = s.sizes := by
  unfold sweepRequest; split <;> simp [refuse]

theorem readChannelRequest_sizes (a : List Octet) (s : State) : (readChannelRequest a s).state.sizes = s.sizes := by
  unfold readChannelRequest; dsimp only; split <;> simp [refuse]

theorem readPeaks_sizes (a : List Octet) (s : State) : (readPeaks a s).state.sizes = s.sizes := by
  unfold readPeaks; dsimp only; split <;> simp [refuse, clearPeaks]

theorem readRun_sizes (a : List Octet) (s : State) : (readRun a s).state.sizes = s.sizes := by
  unfold readRun; dsimp only; split <;> simp [refuse]

theorem withComp_sizes (a : List Octet) (s : State) {f : Nat → Reply} (h : ∀ k, (f k).state.sizes = s.sizes) :
    (withComp a s f).state.sizes = s.sizes := by
  unfold withComp; dsimp only; repeat' split
  · rfl
  · rfl
  · exact h _

theorem resetUnit_sizes (a : List Octet) (s : State) : (resetUnit a s).state.sizes = s.sizes :=
  withComp_sizes a s fun k => by split <;> simp [refuse]

theorem setUnitMode_sizes (m : UnitMode) (a : List Octet) (s : State) : (setUnitMode m a s).state.sizes = s.sizes :=
  withComp_sizes a s fun k => by
    repeat' split
    all_goals simp [refuse]

theorem rotate_sizes (a : List Octet) (s : State) : (rotate a s).state.sizes = s.sizes := by simp [rotate]

theorem readCompressor_sizes (a : List Octet) (s : State) : (readCompressor a s).state.sizes = s.sizes := by
  unfold readCompressor; dsimp only; split <;> simp [refuse]

theorem withTrain_sizes (i : Nat) (s : State) {f : State → Reply} (h : ∀ t, (f t).state.sizes = t.sizes) :
    (withTrain i s f).state.sizes = s.sizes := by
  unfold withTrain; dsimp only; repeat' split
  · rfl
  · simp [refuse]
  · simp [refuse]
  · rw [h, useTrain_sizes]

theorem holdTrain_sizes (a : List Octet) (s : State) : (holdTrain a s).state.sizes = s.sizes :=
  withTrain_sizes _ s fun t => by simp

theorem resumeTrain_sizes (a : List Octet) (s : State) : (resumeTrain a s).state.sizes = s.sizes := by
  unfold resumeTrain; dsimp only
  exact withTrain_sizes _ s fun t => by simp

theorem forceSwitch_sizes (a : List Octet) (s : State) : (forceSwitch a s).state.sizes = s.sizes :=
  withTrain_sizes _ s fun t => by split <;> simp [refuse]

theorem returnBed_sizes (a : List Octet) (s : State) : (returnBed a s).state.sizes = s.sizes := by
  unfold returnBed; dsimp only; split
  · rfl
  · exact withTrain_sizes _ s fun t => by split <;> simp [refuse]

theorem readDryer_sizes (a : List Octet) (s : State) : (readDryer a s).state.sizes = s.sizes := by
  unfold readDryer; dsimp only; split <;> simp [refuse]

theorem readShipper_sizes (a : List Octet) (s : State) : (readShipper a s).state.sizes = s.sizes := by
  unfold readShipper; dsimp only; split <;> simp [refuse]

theorem clearEvents_sizes (a : List Octet) (s : State) : (clearEvents a s).state.sizes = s.sizes := by
  simp [clearEvents]

theorem forceEvent_sizes (a : List Octet) (s : State) : (forceEvent a s).state.sizes = s.sizes := by
  unfold forceEvent; dsimp only; split <;> simp [refuse]

theorem readEvents_sizes (a : List Octet) (s : State) : (readEvents a s).state.sizes = s.sizes := by simp [readEvents]

theorem readUnit_state (a : List Octet) (s : State) : (readUnit a s).state = s := by
  unfold readUnit; dsimp only; split <;> rfl

theorem restart_bounded (a : List Octet) {s : State} (hs : s.Bounded) : (restart a s).state.Bounded := by
  unfold restart; dsimp only
  exact fieldRestart_bounded hs

theorem execLineupTimerExpiry_bounded {s : State} (hs : s.Bounded) : Answer.Bounded (execLineupTimerExpiry s) := by
  have failed : (failTransition s).Bounded := hs.of_frame (failTransition_frame s).toDirectory (by simp)
  unfold execLineupTimerExpiry Answer.Bounded; dsimp only; split
  · exact .ite failed hs
  · exact hs

theorem execRundownTimerExpiry_bounded {s : State} (hs : s.Bounded) : Answer.Bounded (execRundownTimerExpiry s) := by
  have failed : (failTransition s).Bounded := hs.of_frame (failTransition_frame s).toDirectory (by simp)
  unfold execRundownTimerExpiry Answer.Bounded; dsimp only; split
  · exact .ite failed hs
  · exact hs

theorem execQuietDwellExpiry_bounded {s : State} (hs : s.Bounded) : Answer.Bounded (execQuietDwellExpiry s) := by
  unfold execQuietDwellExpiry Answer.Bounded; dsimp only; split
  · exact .ite (hs.of_frame (quietReached_frame _ s).toDirectory (by simp)) hs
  · exact hs

theorem execEngineSelect_bounded {s : State} (hs : s.Bounded) : Answer.Bounded (execEngineSelect s) := by
  unfold execEngineSelect Answer.Bounded; dsimp only; split
  · exact hs.of_frame (beginService_frame _ s).toDirectory (by simp)
  · exact hs

theorem execEngineConditioningDone_bounded {s : State} (hs : s.Bounded) :
    Answer.Bounded (execEngineConditioningDone s) := by
  unfold execEngineConditioningDone; split
  · exact hs
  · exact hs.of_frame (engineDone_frame _ _ s).toDirectory (by simp)

theorem execCustodyConditioningDone_bounded (ch : Nat) {s : State} (hs : s.Bounded) :
    Answer.Bounded (execCustodyConditioningDone ch s) := by
  unfold execCustodyConditioningDone; repeat' split
  · trivial
  · exact hs
  · exact hs.of_frame (custodyDone_frame _ _ s).toDirectory (by simp)

theorem execOpeningValveTimeout_bounded (i : Nat) {s : State} (hs : s.Bounded) :
    Answer.Bounded (execOpeningValveTimeout i s) := by
  unfold execOpeningValveTimeout; repeat' split
  · trivial
  · exact hs
  · exact hs.of_frame ((failOpening_frame _ _ _ s).trans (evalTrain_frame _ _)).toDirectory (by simp)

theorem execReleasingValveTimeout_bounded (i : Nat) {s : State} (hs : s.Bounded) :
    Answer.Bounded (execReleasingValveTimeout i s) := by
  unfold execReleasingValveTimeout; repeat' split
  · trivial
  · exact hs
  · exact hs.of_frame ((failRelease_frame _ _ _ s).trans (evalTrain_frame _ _)).toDirectory (by simp)

theorem execCloseComplete_bounded {s : State} (hs : s.Bounded) : Answer.Bounded (execCloseComplete s) := by
  unfold execCloseComplete Answer.Bounded; dsimp only; repeat' split
  · exact hs
  · exact hs
  · exact completeClose_bounded _ _ hs

theorem execUnknownRequest_bounded {s : State} (hs : s.Bounded) : Answer.Bounded (execUnknownRequest s) := by
  unfold execUnknownRequest; split
  · exact hs
  · exact State.Bounded.ite (answerRequest_bounded _ _ _ hs) hs

theorem execLoadCommit_bounded {s : State} (hs : s.Bounded) : Answer.Bounded (execLoadCommit s) := by
  unfold execLoadCommit; repeat' split
  · exact hs
  · exact answerRequest_bounded _ _ _ hs
  · exact answerRequest_bounded _ _ _ hs
  · obtain ⟨hz, up, down, resp, waiting, -, runF, runS, history⟩ := hs
    exact ⟨hz, up, down, resp, waiting, by simp, runF, runS, history⟩

theorem execCommitComplete_bounded {s : State} (hs : s.Bounded) : Answer.Bounded (execCommitComplete s) := by
  unfold execCommitComplete Answer.Bounded; dsimp only; split
  next q l _ =>
    have unloaded {t : State} (ht : t.Bounded) : (setLoad none t).Bounded := ht
    exact .ite (answerRequest_bounded _ _ _ (takeImage_bounded _ _ (unloaded (useNamed_bounded l hs)))) hs
  · exact hs

theorem execCommitRefused_bounded {s : State} (hs : s.Bounded) : Answer.Bounded (execCommitRefused s) := by
  unfold execCommitRefused Answer.Bounded; dsimp only; split
  · exact refuseCommit_bounded _ _ _ hs
  · exact hs

theorem execAbortDelimiter_bounded (a : LineAbort) {s : State} (hs : s.Bounded) :
    Answer.Bounded (execAbortDelimiter a s) := by
  unfold execAbortDelimiter Answer.Bounded dropCollected; dsimp only; split <;> exact hs

/-- Every command keeps the sizes and the places. -/
theorem exec_bounded (c : Instr) {s : State} (hs : s.Bounded) : Answer.Bounded (exec c s) := by
  cases c with
  | powerOnReset => exact execPowerOnReset_bounded hs
  | custodyLineChange => exact hs
  | frameArrivalPortF run => exact execFrameArrivalPortF_bounded run hs
  | frameArrivalPortS run => exact execFrameArrivalPortS_bounded run hs
  | portSSelect => exact State.Bounded.ite (selectPortS_bounded hs) hs
  | portSTransmitEnd => exact hs
  | portFSelect => exact State.Bounded.ite (selectPortF_bounded hs) hs
  | portFTransmitEnd => exact hs
  | silenceTimeout i => exact guarded_bounded (hs.of_frame (departEntry_frame i s) (by simp)) hs
  | releaseUnit => exact serve_bounded_of_frame hs (releaseUnit_frame · s) (releaseUnit_sizes · s)
  | readUnit => exact serve_bounded hs fun a => (readUnit_state a s).symm ▸ hs
  | intervalTimerExpiry ch =>
    exact guarded_bounded (hs.of_frame ((onChan_frame ch _ s).trans (examinePending_frame ch _)).toDirectory (by simp)) hs
  | custodyConditioningDone ch => exact execCustodyConditioningDone_bounded ch hs
  | engineSelect => exact execEngineSelect_bounded hs
  | engineConditioningDone => exact execEngineConditioningDone_bounded hs
  | ageTimerExpiry ch => exact guarded_bounded (hs.of_frame (channelAged_frame ch s).toDirectory (by simp)) hs
  | sweepPeriodExpiry => exact State.Bounded.ite (hs.of_frame (sweepPeriod_frame s).toDirectory (by simp)) hs
  | sweep => exact serve_bounded_of_frame hs (fun a => (sweepRequest_frame a s).toDirectory) (sweepRequest_sizes · s)
  | readChannel =>
    exact serve_bounded_of_frame hs (fun a => (readChannelRequest_frame a s).toDirectory) (readChannelRequest_sizes · s)
  | readPeaks => exact serve_bounded_of_frame hs (fun a => (readPeaks_frame a s).toDirectory) (readPeaks_sizes · s)
  | refStaleTimerExpiry r => exact guarded_bounded (hs.of_frame (refStale_frame r s).toDirectory (by simp)) hs
  | readRun => exact serve_bounded_of_frame hs (fun a => (readRun_frame a s).toDirectory) (readRun_sizes · s)
  | boundary => exact State.Bounded.ite (raiseBoundary_bounded hs) hs
  | timeWrap => exact State.Bounded.ite (wrapTime_bounded hs) hs
  | setTime => exact serve_bounded hs fun a => setTime_bounded a hs
  | setMode => exact serve_bounded_of_frame hs (fun a => (setMode_frame a s).toDirectory) (setMode_sizes · s)
  | lineupTimerExpiry => exact execLineupTimerExpiry_bounded hs
  | rundownTimerExpiry => exact execRundownTimerExpiry_bounded hs
  | quietDwellExpiry => exact execQuietDwellExpiry_bounded hs
  | readStatus => exact serve_bounded hs fun _ => hs
  | startConfirmExpiry k => exact guarded_bounded (hs.of_frame (failStart_frame k s).toDirectory (by simp)) hs
  | minimumRunExpiry k => exact guarded_bounded (hs.of_frame (minimumRunOver_frame k s).toDirectory (by simp)) hs
  | stopConfirmExpiry k =>
    exact guarded_bounded (hs.of_frame (stopTimedOut_frame k s).toDirectory (by simp [stopTimedOut])) hs
  | cooldownExpiry k => exact guarded_bounded (hs.of_frame (cooledDown_frame k s).toDirectory (by simp [cooledDown])) hs
  | startMarkAgeout k => exact guarded_bounded (hs.of_frame (markAgeout_frame k s).toDirectory (by simp)) hs
  | resetUnit => exact serve_bounded_of_frame hs (fun a => (resetUnit_frame a s).toDirectory) (resetUnit_sizes · s)
  | setUnitAuto =>
    exact serve_bounded_of_frame hs (fun a => (setUnitMode_frame .auto a s).toDirectory) (setUnitMode_sizes .auto · s)
  | setUnitManual =>
    exact serve_bounded_of_frame hs (fun a => (setUnitMode_frame .manual a s).toDirectory) (setUnitMode_sizes .manual · s)
  | rotate => exact serve_bounded_of_frame hs (fun a => (rotate_frame a s).toDirectory) (rotate_sizes · s)
  | readCompressor =>
    exact serve_bounded_of_frame hs (fun a => (readCompressor_frame a s).toDirectory) (readCompressor_sizes · s)
  | adsorbLimitExpiry i => exact guarded_bounded (hs.of_frame (adsorbLimit_frame i s).toDirectory (by simp)) hs
  | openingValveTimeout i => exact execOpeningValveTimeout_bounded i hs
  | releasingValveTimeout i => exact execReleasingValveTimeout_bounded i hs
  | heatTimeReached i x => exact guarded_bounded (hs.of_frame (heatReached_frame i x s).toDirectory (by simp)) hs
  | heatShort i x => exact guarded_bounded (hs.of_frame (heatShort_frame i x s).toDirectory (by simp)) hs
  | coolTimerExpiry i x => exact guarded_bounded (hs.of_frame (cooled_frame i x s).toDirectory (by simp)) hs
  | holdTrain => exact serve_bounded_of_frame hs (fun a => (holdTrain_frame a s).toDirectory) (holdTrain_sizes · s)
  | resumeTrain => exact serve_bounded_of_frame hs (fun a => (resumeTrain_frame a s).toDirectory) (resumeTrain_sizes · s)
  | forceSwitch => exact serve_bounded_of_frame hs (fun a => (forceSwitch_frame a s).toDirectory) (forceSwitch_sizes · s)
  | returnBed => exact serve_bounded_of_frame hs (fun a => (returnBed_frame a s).toDirectory) (returnBed_sizes · s)
  | readDryer => exact serve_bounded_of_frame hs (fun a => (readDryer_frame a s).toDirectory) (readDryer_sizes · s)
  | nominate => exact serve_bounded hs fun a => nominate_bounded a hs
  | closeComplete => exact execCloseComplete_bounded hs
  | transfer => exact serve_bounded hs fun a => transfer_bounded a hs
  | readShipper => exact serve_bounded_of_frame hs (fun a => (readShipper_frame a s).toDirectory) (readShipper_sizes · s)
  | readClose => exact serve_bounded hs fun a => readClose_bounded a hs
  | clearEvents => exact serve_bounded_of_frame hs (fun a => (clearEvents_frame a s).toDirectory) (clearEvents_sizes · s)
  | forceEvent => exact serve_bounded_of_frame hs (fun a => (forceEvent_frame a s).toDirectory) (forceEvent_sizes · s)
  | readEvents => exact serve_bounded_of_frame hs (fun a => (readEvents_frame a s).toDirectory) (readEvents_sizes · s)
  | readTable => exact serve_bounded hs fun a => (readTable_state a s).symm ▸ hs
  | restart => exact serve_bounded hs fun a => restart_bounded a hs
  | unknownRequest => exact execUnknownRequest_bounded hs
  | loadBegin => exact serve_bounded hs fun a => loadBegin_bounded a hs
  | loadData => exact serve_bounded hs fun a => loadData_bounded a hs
  | loadAbort => exact serve_bounded hs fun a => loadAbort_bounded a hs
  | loadCommit => exact execLoadCommit_bounded hs
  | commitComplete => exact execCommitComplete_bounded hs
  | abortDelimiter a => exact execAbortDelimiter_bounded a hs
  | commitRefused => exact execCommitRefused_bounded hs

theorem step_bounded {s : State} (hs : s.Bounded) : Answer.Bounded (step s) := by
  unfold step; split
  · exact tick_bounded hs
  next rest _ => exact exec_bounded _ (s := { s with pending := rest }) hs

/-- Settles O54: the sizes and the places are kept together, since a table image that takes effect has the entries of its
table whatever the image holds, and every queue is written behind a test of its places. -/
theorem stepKeepsSizesAndQueues : Obligations.StepKeepsSizesAndQueues := by
  intro s t sized queues h
  have bounded := step_bounded ⟨sized, queues⟩
  rw [h] at bounded
  exact bounded

end Sys2Proof.Machine

/-!
SUPPORT. Collecting and checking a frame (R1, R2, R213): what a receive path holds at an end delimiter, and the two
directions of the correspondence between frames and their octets.
-/

namespace Sys2Proof.Machine

/-! ### Octets -/

/-- The octets of a number that fits are the octets that spell it. -/
theorem ofBe_pair (hi lo : Octet) : ofBe [hi, lo] = hi.toNat * 256 + lo.toNat := by
  simp [ofBe]

theorem be_one_toNat (b : Octet) : be 1 b.toNat = [b] := by
  simp [be]

theorem be_two_ofBe (hi lo : Octet) : be 2 (ofBe [hi, lo]) = [hi, lo] := by
  have := lo.isLt
  have high : (hi.toNat * 256 + lo.toNat) / 256 = hi.toNat := by omega
  have low : BitVec.ofNat 8 (hi.toNat * 256 + lo.toNat) = lo := BitVec.eq_of_toNat_eq (by simp; omega)
  simp [ofBe_pair, be, high, low]

/-! ### The check of R2 -/

theorem Frame.body_length (f : Frame) : f.body.length = 7 + f.payload.length := by
  simp [Frame.body]
  omega

theorem Frame.octets_length (f : Frame) : f.octets.length = 9 + f.payload.length := by
  simp [Frame.octets, Frame.body_length]
  omega

/-- The octet of Length in a frame's octets (R213). -/
theorem Frame.octets_lengthOctet (f : Frame) : f.octets.getD 6 0 = BitVec.ofNat 8 f.payload.length := by
  simp [Frame.octets, Frame.body, be]

/-- The last two octets of a frame are the CRC-16 of those before it, so the check accepts it (R2). -/
theorem Frame.octets_valid (f : Frame) (short : f.payload.length ≤ 240) : frameValid f.octets = true := by
  have lengthOctet : (f.octets.getD 6 0).toNat = f.payload.length := by
    rw [f.octets_lengthOctet, BitVec.toNat_ofNat]
    omega
  have ahead : f.octets.length - 2 = f.body.length := by
    rw [f.octets_length, f.body_length]
    omega
  have body : f.octets.take f.body.length = f.body := List.take_left
  have check : fieldAt f.octets f.body.length 2 = (crc16 f.body).toNat := by
    have tail : f.octets.drop f.body.length = be 2 (crc16 f.body).toNat := List.drop_left
    rw [fieldAt, tail, List.take_of_length_le (be_length _ _).le, ofBe_be _ _ (crc16 f.body).isLt]
  rw [frameValid, lengthOctet, ahead, body, check]
  simp [f.octets_length, short]

theorem frameOf_octets (f : Frame) (short : f.payload.length ≤ 240) : frameOf f.octets = f := by
  have fits : f.payload.length % 256 = f.payload.length := Nat.mod_eq_of_lt (by omega)
  simp [frameOf, Frame.octets, Frame.body, be, fits]

theorem parseFrame_octets (f : Frame) (short : f.payload.length ≤ 240) : parseFrame f.octets = some f := by
  rw [parseFrame, if_pos (f.octets_valid short), frameOf_octets f short]

/-- Octets that pass the check are seven of a header, the payload that Length counts, and two of the check. -/
theorem frameValid_form {bs : List Octet} (valid : frameValid bs = true) :
    ∃ d0 d1 s0 s1 kind seq n payload hi lo,
      bs = [d0, d1, s0, s1, kind, seq, n] ++ payload ++ [hi, lo] ∧ n.toNat ≤ 240 ∧ payload.length = n.toNat ∧
        ofBe [hi, lo] = (crc16 ([d0, d1, s0, s1, kind, seq, n] ++ payload)).toNat := by
  simp only [frameValid, Bool.and_eq_true, decide_eq_true_eq] at valid
  obtain ⟨⟨⟨long, small⟩, agree⟩, check⟩ := valid
  obtain ⟨d0, d1, s0, s1, kind, seq, n, rest, rfl⟩ :
      ∃ d0 d1 s0 s1 kind seq n rest, bs = d0 :: d1 :: s0 :: s1 :: kind :: seq :: n :: rest := by
    match bs, long with
    | d0 :: d1 :: s0 :: s1 :: kind :: seq :: n :: rest, _ => exact ⟨d0, d1, s0, s1, kind, seq, n, rest, rfl⟩
  simp only [List.getD_cons_succ, List.getD_cons_zero, List.length_cons] at small agree
  obtain ⟨payload, last, rfl, count⟩ : ∃ payload last, rest = payload ++ last ∧ payload.length = n.toNat :=
    ⟨rest.take n.toNat, rest.drop n.toNat, (List.take_append_drop _ _).symm, by simp; omega⟩
  obtain ⟨hi, lo, rfl⟩ : ∃ hi lo, last = [hi, lo] :=
    List.length_eq_two.mp (by simp at agree; omega)
  refine ⟨d0, d1, s0, s1, kind, seq, n, payload, hi, lo, by simp, small, count, ?_⟩
  have body : (d0 :: d1 :: s0 :: s1 :: kind :: seq :: n :: (payload ++ [hi, lo])) =
      ([d0, d1, s0, s1, kind, seq, n] ++ payload) ++ [hi, lo] := by simp
  rw [body, List.length_append, List.length_cons, List.length_singleton, Nat.add_sub_cancel, List.take_left, fieldAt,
    List.drop_left] at check
  exact check

/-- The frame that valid octets make has those octets (R2, R213). -/
theorem octets_frameOf {bs : List Octet} (valid : frameValid bs = true) :
    (frameOf bs).octets = bs ∧ (frameOf bs).payload.length ≤ 240 := by
  obtain ⟨d0, d1, s0, s1, kind, seq, n, payload, hi, lo, rfl, small, count, check⟩ := frameValid_form valid
  have made : frameOf ([d0, d1, s0, s1, kind, seq, n] ++ payload ++ [hi, lo]) =
      ⟨⟨d0, d1⟩, ⟨s0, s1⟩, kind, seq, payload⟩ := by
    simp [frameOf, ← count]
  have body : Frame.body ⟨⟨d0, d1⟩, ⟨s0, s1⟩, kind, seq, payload⟩ = [d0, d1, s0, s1, kind, seq, n] ++ payload := by
    simp [Frame.body, count, be_one_toNat]
  rw [made]
  refine ⟨?_, count ▸ small⟩
  rw [Frame.octets, body, ← check, be_two_ofBe]

/-- Settles O6: a frame's octets pass the check and give its fields back, and valid octets are spelled out from their
form. -/
theorem frameOctetsReadBack : Obligations.FrameOctetsReadBack := by
  refine ⟨parseFrame_octets, fun bs f parsed => ?_⟩
  rw [parseFrame] at parsed
  split at parsed
  next valid =>
    obtain rfl := Option.some.inj parsed
    exact octets_frameOf valid
  next => cases parsed

/-! ### Collecting -/

theorem collect_octets_of_none (bs : List Octet) : collect none (bs.map .octet) = none := by
  induction bs with
  | nil => rfl
  | cons b bs ih => exact ih

theorem collect_octets_of_some (held bs : List Octet) : collect (some held) (bs.map .octet) = some (held ++ bs) := by
  induction bs generalizing held with
  | nil => simp [collect]
  | cons b bs ih =>
    have first : collect (some held) ((b :: bs).map .octet) = collect (some (held ++ [b])) (bs.map .octet) := rfl
    rw [first, ih, List.append_assoc, List.singleton_append]

/-- A start delimiter begins a new frame whatever the path held and whatever came before it (R1). -/
theorem collect_startDelim (rx : Option (List Octet)) (before : List LineSym) (bs : List Octet) :
    collect rx (before ++ .startDelim :: bs.map .octet) = some bs := by
  have begun : collect rx (before ++ .startDelim :: bs.map .octet) = collect (some []) (bs.map .octet) := by
    simp [collect, collectSym]
  rw [begun, collect_octets_of_some, List.nil_append]

/-! ### What an end delimiter takes -/

section
variable {s : State} {before behind : List LineSym} {bs : List Octet} {f : Frame}

theorem exec_frameArrivalPortF : exec (.frameArrivalPortF ⟨before, behind⟩) s =
    .next (takeFrameF (collect s.link.rxF before) { s with link := { s.link with rxF := collect none behind } }) := rfl

theorem exec_frameArrivalPortS : exec (.frameArrivalPortS ⟨before, behind⟩) s =
    .next (takeFrameS (collect s.link.rxS before) { s with link := { s.link with rxS := collect none behind } }) := rfl

theorem exec_frameArrivalPortF_of_none (empty : collect s.link.rxF before = none) :
    exec (.frameArrivalPortF ⟨before, behind⟩) s =
      .next { s with link := { s.link with rxF := collect none behind } } := by
  rw [exec_frameArrivalPortF, empty, takeFrameF]

theorem exec_frameArrivalPortS_of_none (empty : collect s.link.rxS before = none) :
    exec (.frameArrivalPortS ⟨before, behind⟩) s =
      .next { s with link := { s.link with rxS := collect none behind } } := by
  rw [exec_frameArrivalPortS, empty, takeFrameS]

theorem exec_frameArrivalPortF_of_bad (collected : collect s.link.rxF before = some bs) (bad : parseFrame bs = none) :
    exec (.frameArrivalPortF ⟨before, behind⟩) s =
      .next (occur Src.fCheck noSubject { s with link := { s.link with rxF := collect none behind } }) := by
  simp only [exec_frameArrivalPortF, collected, takeFrameF, bad]

theorem exec_frameArrivalPortS_of_bad (collected : collect s.link.rxS before = some bs) (bad : parseFrame bs = none) :
    exec (.frameArrivalPortS ⟨before, behind⟩) s =
      .next (occur Src.sCheck noSubject { s with link := { s.link with rxS := collect none behind } }) := by
  simp only [exec_frameArrivalPortS, collected, takeFrameS, bad]

theorem exec_frameArrivalPortF_of_valid (collected : collect s.link.rxF before = some bs)
    (valid : parseFrame bs = some f) : exec (.frameArrivalPortF ⟨before, behind⟩) s =
      .next (arriveF f { s with link := { s.link with rxF := collect none behind } }) := by
  simp only [exec_frameArrivalPortF, collected, takeFrameF, valid]

theorem exec_frameArrivalPortS_of_valid (collected : collect s.link.rxS before = some bs)
    (valid : parseFrame bs = some f) : exec (.frameArrivalPortS ⟨before, behind⟩) s =
      .next (arriveS f { s with link := { s.link with rxS := collect none behind } }) := by
  simp only [exec_frameArrivalPortS, collected, takeFrameS, valid]

/-- The octets of one whole frame behind its start delimiter arrive on Port F. -/
theorem exec_frameArrivalPortF_octets (short : f.payload.length ≤ 240) :
    exec (.frameArrivalPortF ⟨.startDelim :: f.octets.map .octet, behind⟩) s =
      .next (arriveF f { s with link := { s.link with rxF := collect none behind } }) :=
  exec_frameArrivalPortF_of_valid (collect_startDelim _ [] _) (parseFrame_octets f short)

theorem exec_frameArrivalPortS_octets (short : f.payload.length ≤ 240) :
    exec (.frameArrivalPortS ⟨.startDelim :: f.octets.map .octet, behind⟩) s =
      .next (arriveS f { s with link := { s.link with rxS := collect none behind } }) :=
  exec_frameArrivalPortS_of_valid (collect_startDelim _ [] _) (parseFrame_octets f short)

end

/-- Settles O7: what a path has collected at the delimiter, by where the last start delimiter stands, decides the row. -/
theorem framesAreTakenAtTheirEndDelimiter : Obligations.FramesAreTakenAtTheirEndDelimiter := by
  refine ⟨fun s before behind bs => ⟨?whole, ?wholeBad, ?heldF, ?heldS, ?outsideF, ?outsideS, rfl, rfl⟩,
    fun before bs => ⟨collect_octets_of_none bs, collect_startDelim none before bs⟩⟩
  case whole =>
    exact fun f valid => ⟨exec_frameArrivalPortF_of_valid (collect_startDelim ..) valid,
      exec_frameArrivalPortS_of_valid (collect_startDelim ..) valid⟩
  case wholeBad =>
    exact fun bad => ⟨exec_frameArrivalPortF_of_bad (collect_startDelim ..) bad,
      exec_frameArrivalPortS_of_bad (collect_startDelim ..) bad⟩
  case heldF =>
    intro held rx
    have collected : collect s.link.rxF (bs.map .octet) = some (held ++ bs) := rx ▸ collect_octets_of_some held bs
    exact ⟨fun f => exec_frameArrivalPortF_of_valid collected, exec_frameArrivalPortF_of_bad collected⟩
  case heldS =>
    intro held rx
    have collected : collect s.link.rxS (bs.map .octet) = some (held ++ bs) := rx ▸ collect_octets_of_some held bs
    exact ⟨fun f => exec_frameArrivalPortS_of_valid collected, exec_frameArrivalPortS_of_bad collected⟩
  case outsideF => exact fun rx => exec_frameArrivalPortF_of_none (rx ▸ collect_octets_of_none bs)
  case outsideS => exact fun rx => exec_frameArrivalPortS_of_none (rx ▸ collect_octets_of_none bs)

end Sys2Proof.Machine

/-!
SUPPORT. The own addresses as they act (R3), and what each arbiter selects (R16, R17).
-/

namespace Sys2Proof.Machine

/-! ### Own addresses (R3) -/

/-- The entry acts as an enabled one: enabled, or entry 0 when all are disabled, and without a parity mark. -/
def State.acts (s : State) (a : OwnAddr) (i : Nat) : Bool :=
  (a.enabled || decide (i = 0) && !s.tables.link.own.any (·.enabled)) && !s.marked .link i

theorem State.acts_iff (s : State) (a : OwnAddr) (i : Nat) : s.acts a i = true ↔
    (a.enabled = true ∨ (i = 0 ∧ ∀ b ∈ s.tables.link.own, b.enabled = false)) ∧ s.marked .link i = false := by
  simp [State.acts]

theorem storedActing_eq {s : State} {a0 a1 a2 a3 : OwnAddr} (own : s.tables.link.own = [a0, a1, a2, a3]) :
    storedActing s.tables.link =
      [{ a0 with enabled := a0.enabled || !s.tables.link.own.any (·.enabled) }, a1, a2, a3] := by
  cases any : s.tables.link.own.any (·.enabled) with
  | true =>
    rw [storedActing, any, own]
    simp
  | false =>
    rw [storedActing, any, own]
    simp

/-- An entry with a parity mark acts as a disabled one. -/
theorem disabled_of_marked (a : OwnAddr) (marked : Bool) :
    (if marked then { a with enabled := false } else a) = { a with enabled := a.enabled && !marked } := by
  cases marked <;> simp

/-- The four entries as they act, and the fallback in the place of entry 0 when none acts. -/
theorem ownActing_eq {s : State} {a0 a1 a2 a3 : OwnAddr} (own : s.tables.link.own = [a0, a1, a2, a3]) :
    s.ownActing =
      if s.acts a0 0 || s.acts a1 1 || s.acts a2 2 || s.acts a3 3 then
        [{ a0 with enabled := s.acts a0 0 }, { a1 with enabled := s.acts a1 1 }, { a2 with enabled := s.acts a2 2 },
          { a3 with enabled := s.acts a3 3 }]
      else [fallbackAddr, { a1 with enabled := false }, { a2 with enabled := false }, { a3 with enabled := false }] := by
  have acting : (storedActing s.tables.link).zipIdx.map
        (fun p => if s.marked .link p.2 then { p.1 with enabled := false } else p.1) =
      [{ a0 with enabled := s.acts a0 0 }, { a1 with enabled := s.acts a1 1 }, { a2 with enabled := s.acts a2 2 },
        { a3 with enabled := s.acts a3 3 }] := by
    simp [storedActing_eq own, disabled_of_marked, State.acts, List.zipIdx]
  unfold State.ownActing
  simp only [acting, List.any_cons, List.any_nil, Bool.or_false, Bool.or_assoc]
  split
  · rfl
  next none_acts => simp_all

/-- The address of originated frames by the lowest acting entry among 0 to 2 (R14). -/
theorem stationAddr_eq {s : State} {a0 a1 a2 a3 : OwnAddr} (own : s.tables.link.own = [a0, a1, a2, a3]) :
    s.stationAddr =
      if s.acts a0 0 then a0.addr else if s.acts a1 1 then a1.addr else if s.acts a2 2 then a2.addr
      else if s.acts a3 3 then a0.addr else ⟨0xFE, 0xFE⟩ := by
  unfold State.stationAddr
  rw [ownActing_eq own]
  cases s.acts a0 0 with
  | true => rfl
  | false =>
    cases s.acts a1 1 with
    | true => rfl
    | false =>
      cases s.acts a2 2 with
      | true => rfl
      | false => cases s.acts a3 3 <;> rfl

/-! ### Port S (R16) -/

section
variable {s : State}

theorem exec_portSSelect_of_busy (busy : s.link.txS ≠ none) : exec .portSSelect s = .next s := by
  obtain ⟨f, sending⟩ := Option.ne_none_iff_exists'.mp busy
  have arm : exec .portSSelect s = .next (if s.link.txS.isNone then selectPortS s else s) := rfl
  rw [arm, sending, Option.isNone_some, if_neg Bool.false_ne_true]

theorem exec_portSSelect_of_free (free : s.link.txS = none) : exec .portSSelect s = .next (selectPortS s) := by
  have arm : exec .portSSelect s = .next (if s.link.txS.isNone then selectPortS s else s) := rfl
  rw [arm, free, Option.isNone_none, if_pos rfl]

/-- A forwarded frame goes after three own frames in a row, or when no own frame waits. -/
theorem selectPortS_upstream (turn : (s.link.ownRunS = 3 ∧ s.link.upQ ≠ []) ∨ s.resp = [] ∧ s.ev.alerts = []) :
    selectPortS s = sendUpstream s := by
  unfold selectPortS
  split
  next => rfl
  next notTurn =>
    obtain ⟨resp, alerts⟩ := turn.resolve_left notTurn
    rw [resp, alerts]

/-- With own frames in front no forwarded frame has its turn. -/
theorem not_upstreamTurn (own : s.link.ownRunS ≠ 3 ∨ s.link.upQ = []) : ¬(s.link.ownRunS = 3 ∧ s.link.upQ ≠ []) :=
  fun ⟨three, waits⟩ => own.elim (· three) waits

theorem selectPortS_response {r : Response} {rest : List Response} (own : s.link.ownRunS ≠ 3 ∨ s.link.upQ = [])
    (resp : s.resp = r :: rest) : selectPortS s = sendResponse r rest s := by
  rw [selectPortS, if_neg (not_upstreamTurn own), resp]

theorem selectPortS_alert {a : Alert} {rest : List Alert} (own : s.link.ownRunS ≠ 3 ∨ s.link.upQ = [])
    (resp : s.resp = []) (alerts : s.ev.alerts = a :: rest) : selectPortS s = sendAlert a rest s := by
  rw [selectPortS, if_neg (not_upstreamTurn own), resp, alerts]

theorem sendUpstream_of_nil (empty : s.link.upQ = []) : sendUpstream s = s := by
  rw [sendUpstream, empty]

theorem sendUpstream_of_cons {f : Frame} {rest : List Frame} (queue : s.link.upQ = f :: rest) :
    sendUpstream s = { s with link := { s.link with upQ := rest, txS := some f, ownRunS := 0 } } := by
  rw [sendUpstream, queue]

theorem sendResponse_of_more {r : Response} {p q : List Octet} {ps : List (List Octet)} (rest : List Response)
    (parts : r.parts = p :: q :: ps) : sendResponse r rest s = { s with
      link := { s.link with txS := some ⟨r.dst, r.src, kindResponse, r.seq, p⟩, ownRunS := min 3 (s.link.ownRunS + 1) }
      resp := { r with parts := q :: ps } :: rest } := by
  rw [sendResponse, parts]
  rfl

theorem sendResponse_of_last {r : Response} {p : List Octet} (rest : List Response) (parts : r.parts = [p]) :
    sendResponse r rest s = reoffer { s with
      link := { s.link with txS := some ⟨r.dst, r.src, kindResponse, r.seq, p⟩, ownRunS := min 3 (s.link.ownRunS + 1) }
      resp := rest } := by
  rw [sendResponse, parts]
  rfl

theorem reoffer_of_none_held (free : ∀ h, s.mgmt.service ≠ some (.holding h)) : reoffer s = s := by
  rcases reoffer_cases s with ⟨-, same⟩ | ⟨h, held, -⟩
  · exact same
  · exact absurd held (free h)

/-- A held response takes the free place, and the next request enters service (R197). -/
theorem reoffer_of_held {h : Response} (held : s.mgmt.service = some (.holding h)) (room : s.resp.length < 2) :
    reoffer s = { s with
      resp := s.resp ++ [h]
      mgmt := { s.mgmt with waiting := s.mgmt.waiting.tail, service := s.mgmt.waiting.head?.map .taken } } := by
  simp [reoffer, held, offerResponse, State.respRoom, room, leaveService_eq]

/-! ### Port F (R17) -/

theorem exec_portFSelect_of_busy (busy : s.link.txF ≠ none) : exec .portFSelect s = .next s := by
  obtain ⟨f, sending⟩ := Option.ne_none_iff_exists'.mp busy
  have arm : exec .portFSelect s = .next (if s.link.txF.isNone then selectPortF s else s) := rfl
  rw [arm, sending, Option.isNone_some, if_neg Bool.false_ne_true]

theorem exec_portFSelect_of_free (free : s.link.txF = none) : exec .portFSelect s = .next (selectPortF s) := by
  have arm : exec .portFSelect s = .next (if s.link.txF.isNone then selectPortF s else s) := rfl
  rw [arm, free, Option.isNone_none, if_pos rfl]

theorem selectPortF_downstream (turn : (s.link.ownRunF = 3 ∧ s.link.downQ ≠ []) ∨ s.own = []) :
    selectPortF s = sendDownstream s := by
  unfold selectPortF
  split
  next => rfl
  next notTurn => rw [turn.resolve_left notTurn]

theorem selectPortF_own {e : OwnEntry} {rest : List OwnEntry} (own : s.link.ownRunF ≠ 3 ∨ s.link.downQ = [])
    (queue : s.own = e :: rest) : selectPortF s = issueOwn e rest s := by
  rw [selectPortF, if_neg fun ⟨three, waits⟩ => own.elim (· three) waits, queue]

theorem sendDownstream_of_nil (empty : s.link.downQ = []) : sendDownstream s = s := by
  rw [sendDownstream, empty]

theorem sendDownstream_of_cons {f : Frame} {rest : List Frame} (queue : s.link.downQ = f :: rest) :
    sendDownstream s = { s with link := { s.link with downQ := rest, txF := some f, ownRunF := 0 } } := by
  rw [sendDownstream, queue]

end

/-! ### The link after either reset (R18) -/

theorem answerRequest_link (q : Request) (status : Status) (result : List Octet) (s : State) :
    (answerRequest q status result s).link = s.link := by
  rw [answerRequest_frame]

theorem restartBlocks_link (s : State) : (restartBlocks s).link = { s.link with ownRunF := 0, ownRunS := 0 } := by
  have sampled := (samplingReset_frame (directoryReset (linkRestart (eventsReset s)))).link
  unfold restartBlocks
  generalize samplingReset (directoryReset (linkRestart (eventsReset s))) = t at sampled ⊢
  exact sampled

theorem fieldRestart_link (s : State) : (fieldRestart s).link = { s.link with ownRunF := 0, ownRunS := 0 } :=
  ((acctCompressor_frame 0 (restartBlocks s)).trans (acctDrying_frame 0 _)).link.trans (restartBlocks_link s)

theorem powerOnBlocks_link (s : State) : (powerOnBlocks s).link = State.reset.link := by
  unfold powerOnBlocks
  dsimp only
  rw [(compPowerOn_frame _).link, (samplingReset_frame _).link]
  rfl

theorem powerOnReset_link {s t : State} (done : exec .powerOnReset s = .next t) : t.link = State.reset.link := by
  have repeated (n : Nat) : (Nat.repeat (occur Src.tableParity noSubject) n (powerOnBlocks s)).link = State.reset.link := by
    induction n with
    | zero => exact powerOnBlocks_link s
    | succ n ih => exact (occur_frame _ _ _).link.trans ih
  have arm : exec .powerOnReset s =
      .next (Nat.repeat (occur Src.tableParity noSubject) s.ret.failures (powerOnBlocks s)) := rfl
  obtain rfl := Host.Outcome.next.inj (arm.symm.trans done)
  exact repeated _

theorem restart_link {s t : State} {q : Request} (taken : s.mgmt.service = some (.taken q)) (asks : q.payload = [0x48])
    (done : exec .restart s = .next t) : t.link = { s.link with ownRunF := 0, ownRunS := 0 } := by
  have arm : exec .restart s = serve 0x48 restart s := rfl
  have found : s.requestFor 0x48 = some q := by
    simp [State.requestFor, State.inService, taken, Request.unknown, Request.code, asks, knownRequests]
  have served : serve 0x48 restart s = .next (answerRequest q .ok [] (fieldRestart s)) := by
    rw [serve, found]
    simp [Request.wellSized, Request.args, Request.code, asks, requestLength, restart]
  obtain rfl := Host.Outcome.next.inj (served.symm.trans (arm.symm.trans done))
  rw [answerRequest_link, fieldRestart_link]

/-! ### The obligation -/

/-- Settles O5: each source of an arbiter by its own equation, the station address by the entries that act, and the counts
after a reset through the frames of the blocks that reset with the link. -/
theorem arbitersSelect : Obligations.ArbitersSelect := by
  refine ⟨fun s => exec_portSSelect_of_busy, fun s => rfl, ?upstream, ?morePartsLeft, ?lastPart, ?alert, ?idleS,
    fun s => exec_portFSelect_of_busy, fun s => rfl, ?downstream, ?own, ?idleF, ?address, ?powerOn, ?restart⟩
  case upstream =>
    intro s f up free queue turn
    have hasTurn : (s.link.ownRunS = 3 ∧ s.link.upQ ≠ []) ∨ s.resp = [] ∧ s.ev.alerts = [] :=
      turn.imp_left fun three => ⟨three, by simp [queue]⟩
    rw [exec_portSSelect_of_free free, selectPortS_upstream hasTurn, sendUpstream_of_cons queue]
  case morePartsLeft =>
    intro s r rest p q ps free own resp parts
    rw [exec_portSSelect_of_free free, selectPortS_response own resp, sendResponse_of_more rest parts]
  case lastPart =>
    intro s r rest p free own resp parts
    dsimp only
    rw [exec_portSSelect_of_free free, selectPortS_response own resp, sendResponse_of_last rest parts]
    exact ⟨fun noneHeld => congrArg _ (reoffer_of_none_held noneHeld),
      fun h held room => congrArg _ (reoffer_of_held held room)⟩
  case alert =>
    intro s a rest free own resp alerts
    rw [exec_portSSelect_of_free free, selectPortS_alert own resp alerts]
    rfl
  case idleS =>
    intro s up resp alerts
    by_cases free : s.link.txS = none
    · rw [exec_portSSelect_of_free free, selectPortS_upstream (.inr ⟨resp, alerts⟩), sendUpstream_of_nil up]
    · exact exec_portSSelect_of_busy free
  case downstream =>
    intro s f down free queue turn
    have hasTurn : (s.link.ownRunF = 3 ∧ s.link.downQ ≠ []) ∨ s.own = [] :=
      turn.imp_left fun three => ⟨three, by simp [queue]⟩
    rw [exec_portFSelect_of_free free, selectPortF_downstream hasTurn, sendDownstream_of_cons queue]
  case own =>
    intro s e rest free own queue bed payload
    have asSpelled : e.command.payload = payload := by
      obtain ⟨target, sort, command⟩ := e
      rcases command with _ | _ | rpm | x | x | lineup
      case openBed | closeBed => cases x <;> rfl
      case lineup => cases lineup <;> rfl
      all_goals rfl
    rw [exec_portFSelect_of_free free, selectPortF_own own queue, issueOwn, asSpelled]
  case idleF =>
    intro s down own
    by_cases free : s.link.txF = none
    · rw [exec_portFSelect_of_free free, selectPortF_downstream (.inr own), sendDownstream_of_nil down]
    · exact exec_portFSelect_of_busy free
  case address =>
    intro s a0 a1 a2 a3 own allOff acts
    have acts_iff (a : OwnAddr) (i : Nat) : acts a i ↔ s.acts a i = true := (s.acts_iff a i).symm
    simp only [acts_iff]
    rw [stationAddr_eq own]
    refine ⟨fun h0 => ?_, fun h0 h1 => ?_, fun h0 h1 h2 => ?_, fun h0 h1 h2 h3 => ?_, fun h0 h1 h2 h3 => ?_⟩
    all_goals simp [*]
  case powerOn =>
    intro s t done
    rw [powerOnReset_link done]
    exact ⟨rfl, rfl⟩
  case restart =>
    intro s t q taken asks done
    rw [restart_link taken asks done]
    exact ⟨rfl, rfl⟩

end Sys2Proof.Machine

/-!
SUPPORT. The Unit Directory: what an announcement settles (R23, R24) and the requests READ_UNIT and RELEASE_UNIT (R27,
R29).
-/

namespace Sys2Proof.Machine

/-! ### Event records (R185) -/

/-- The record of a source other than TABLE_PARITY after an occurrence: latched, one more counted, with the subject; a bad
EVENTS entry adds records of TABLE_PARITY alone. -/
theorem occur_source {n : Nat} (b : Nat) {s : State} (place : n < s.ev.recs.length) (other : n ≠ Src.tableParity) :
    (occur n b s).source n = ⟨true, min 255 ((s.source n).count + 1), BitVec.ofNat 8 b⟩ := by
  have plain {t : State} (recs : t.ev.recs.length = s.ev.recs.length) :
      (occurPlain n b t).source n = ⟨true, min 255 ((t.source n).count + 1), BitVec.ofNat 8 b⟩ := by
    simp [State.source, List.getD_eq_getElem?_getD, recs, place]
  have kept (m : Nat) (t : State) :
      (occurPlain Src.tableParity m t).source n = t.source n ∧
        (occurPlain Src.tableParity m t).ev.recs.length = t.ev.recs.length := by
    simp [State.source, List.getD_eq_getElem?_getD, List.getElem?_set_ne other.symm]
  rcases occur_cases n b s with ⟨-, eq⟩ | ⟨-, isParity, -⟩ | ⟨-, -, eq⟩
  · rw [eq, plain rfl]
  · exact absurd isParity other
  · have parity : (occurParity n (s.setMark .events n)).source n = s.source n ∧
        (occurParity n (s.setMark .events n)).ev.recs.length = s.ev.recs.length := by
      unfold occurParity
      split
      · rw [(kept _ _).1, (kept _ _).1, (kept _ _).2, (kept _ _).2]
        exact ⟨rfl, rfl⟩
      · rw [(kept _ _).1, (kept _ _).2]
        exact ⟨rfl, rfl⟩
    rw [eq, plain parity.2, parity.1]

theorem occur_unit (n b : Nat) (s : State) (i : Nat) : (occur n b s).unit i = s.unit i := by
  rw [occur_only, State.unit, State.unit]

/-! ### Announcement (R23, R24) -/

theorem examine_of_announce {f : Frame} (kind : f.kind = kindAnnounce) (i : Nat) (s : State) :
    examine i f s = announce i f.payload s := if_pos kind

theorem agrees_iff (expected : UnitClass) (reported : Option UnitClass) : agrees expected reported = true ↔
    reported ≠ none ∧ (reported = some expected ∨ expected = .generic) := by
  cases reported <;> simp [agrees]

/-- An announcement changes nothing when the entry is not ABSENT or the payload has not three octets. -/
theorem announce_of_other {s : State} {i : Nat} {p : List Octet}
    (other : (s.unit i).attach ≠ .absent ∨ p.length ≠ 3) : announce i p s = s := by
  unfold announce
  split
  next absent => exact absurd other (by simp [absent])
  next => rfl

/-- What an announcement by an ABSENT entry settles. -/
def State.announcedUnit (s : State) (i : Nat) (c n rev : Octet) : UnitLive := { s.unit i with
  attach := (announced (agrees (s.unitCfg i).cls (reportedClass c)) (s.unit i).departed).1
  identity := some ⟨reportedClass c, min 16 n.toNat, rev⟩
  silence := startTimer s.now ((s.unitCfg i).timeout * 1000) }

/-- The source an announcement latches. -/
def State.announceSource (s : State) (i : Nat) (c : Octet) : Nat :=
  (announced (agrees (s.unitCfg i).cls (reportedClass c)) (s.unit i).departed).2

theorem announce_of_absent {s : State} {i : Nat} (c n rev : Octet) (absent : (s.unit i).attach = .absent) :
    announce i [c, n, rev] s = occur (s.announceSource i c) i (s.onUnit i fun u => { u with
      attach := (announced (agrees (s.unitCfg i).cls (reportedClass c)) (s.unit i).departed).1
      identity := some ⟨reportedClass c, min 16 n.toNat, rev⟩
      silence := startTimer s.now ((s.unitCfg i).timeout * 1000) }) := by
  unfold announce
  rw [absent]
  rfl

theorem announce_unit_same {s : State} {i : Nat} (c n rev : Octet) (place : i < s.units.length)
    (absent : (s.unit i).attach = .absent) : (announce i [c, n, rev] s).unit i = s.announcedUnit i c n rev := by
  rw [announce_of_absent c n rev absent, occur_unit, State.unit_onUnit, if_pos ⟨rfl, place⟩]
  rfl

theorem announce_unit_other {s : State} {i j : Nat} (c n rev : Octet) (absent : (s.unit i).attach = .absent)
    (other : j ≠ i) : (announce i [c, n, rev] s).unit j = s.unit j := by
  rw [announce_of_absent c n rev absent, occur_unit, State.unit_onUnit, if_neg fun same => other same.1.symm]

theorem announceSource_lt (s : State) (i : Nat) (c : Octet) :
    s.announceSource i c < 48 ∧ s.announceSource i c ≠ Src.tableParity := by
  unfold State.announceSource announced
  split
  · split <;> exact ⟨by decide, by decide⟩
  · exact ⟨by decide, by decide⟩

theorem announce_source {s : State} {i : Nat} (c n rev : Octet) (recs : s.ev.recs.length = 48)
    (absent : (s.unit i).attach = .absent) : (announce i [c, n, rev] s).source (s.announceSource i c) =
      ⟨true, min 255 ((s.source (s.announceSource i c)).count + 1), BitVec.ofNat 8 i⟩ := by
  obtain ⟨place, other⟩ := announceSource_lt s i c
  rw [announce_of_absent c n rev absent, occur_source _ (by simpa [recs] using place) other]
  rfl

/-! ### READ_UNIT and RELEASE_UNIT (R27, R29) -/

theorem fieldAt_single (b : Octet) : fieldAt [b] 0 1 = b.toNat := by
  simp [fieldAt, ofBe]

theorem identityResult_eq (id : Option Identity) : identityResult id = id.elim [0, 0, 0, 0] fun id =>
    1 :: be 1 ((id.cls.map UnitClass.code).getD 7) ++ be 1 id.channels ++ [id.revision] := by
  cases id <;> rfl

theorem readUnit_of_le {b : Octet} (le : b.toNat ≤ 47) (s : State) :
    readUnit [b] s = ⟨.ok, s.unitResult b.toNat, s⟩ := by
  simp [readUnit, fieldAt_single, Nat.not_lt.mpr le]

theorem readUnit_of_gt {b : Octet} (gt : 47 < b.toNat) (s : State) : readUnit [b] s = ⟨.badArgument, [], s⟩ := by
  simp [readUnit, fieldAt_single, gt, refuse]

theorem releaseUnit_of_gt {b : Octet} (gt : 47 < b.toNat) (s : State) : releaseUnit [b] s = ⟨.badArgument, [], s⟩ := by
  simp [releaseUnit, fieldAt_single, gt, refuse]

section
variable {s : State} {b : Octet}

theorem releaseUnit_of_notInUse (le : b.toNat ≤ 47) (unused : s.unitInUse b.toNat = false) :
    releaseUnit [b] s = ⟨.unknownTarget, [], s⟩ := by
  simp [releaseUnit, fieldAt_single, Nat.not_lt.mpr le, unused, refuse]

theorem releaseUnit_of_mismatch (le : b.toNat ≤ 47) (inUse : s.unitInUse b.toNat = true)
    (mismatch : (s.unit b.toNat).attach = .mismatch) :
    releaseUnit [b] s = ⟨.wrongState, [3, if (s.unit b.toNat).departed then 1 else 0], s⟩ := by
  simp [releaseUnit, fieldAt_single, Nat.not_lt.mpr le, inUse, mismatch, State.releaseResult, Attach.code, be, beFlag]

/-- In every other state the release is done, and its result is of the entry after it. -/
theorem releaseUnit_of_other (le : b.toNat ≤ 47) (inUse : s.unitInUse b.toNat = true)
    (other : (s.unit b.toNat).attach ≠ .mismatch) : releaseUnit [b] s =
      ⟨.ok, (releaseEntry b.toNat s).releaseResult b.toNat, releaseEntry b.toNat s⟩ := by
  simp [releaseUnit, fieldAt_single, Nat.not_lt.mpr le, inUse, other]

theorem releaseEntry_of_present {i : Nat} (present : (s.unit i).attach = .present) : releaseEntry i s = s := by
  rw [releaseEntry, present]

theorem releaseEntry_of_held {i : Nat} (held : (s.unit i).attach = .held) :
    releaseEntry i s = s.onUnit i fun u => { u with attach := .present, departed := false } := by
  rw [releaseEntry, held]

theorem releaseEntry_of_absent {i : Nat} (absent : (s.unit i).attach = .absent) :
    releaseEntry i s = s.onUnit i fun u => { u with departed := false } := by
  rw [releaseEntry, absent]

theorem releaseResult_onUnit {i : Nat} (place : i < s.units.length) (f : UnitLive → UnitLive) :
    (s.onUnit i f).releaseResult i = be 1 (f (s.unit i)).attach.code ++ beFlag (f (s.unit i)).departed := by
  rw [State.releaseResult, State.unit_onUnit, if_pos ⟨rfl, place⟩]

/-- A RELEASE_UNIT of an entry in use that is no MISMATCH. -/
theorem exec_releaseUnit_of_other {q : Request} {t : State} {result : List Octet} (asks : s.Asks q 0x20 [b])
    (le : b.toNat ≤ 47) (inUse : s.unitInUse b.toNat = true) (other : (s.unit b.toNat).attach ≠ .mismatch)
    (released : releaseEntry b.toNat s = t) (asksAfter : t.Asks q 0x20 [b]) (shown : t.releaseResult b.toNat = result) :
    exec .releaseUnit s = .next (t.answered q .ok result) := by
  have arm : exec .releaseUnit s = serve 0x20 releaseUnit s := rfl
  rw [arm, serve_of_asks asks rfl rfl, releaseUnit_of_other le inUse other, released, shown]
  exact congrArg _ (answerRequest_of_asks asksAfter _ _)

end

/-! ### The obligation -/

/-- Settles O11: an announcement acts for an ABSENT entry and three octets alone, and each request by its ordered
checks. -/
theorem announceAndDirectoryRequests : Obligations.AnnounceAndDirectoryRequests := by
  refine ⟨fun s i f kind => examine_of_announce kind i s, ?settles, fun s i p => announce_of_other, ?result, ?requests⟩
  case settles =>
    intro s i c n rev place recs absent reported agree t outcome
    have done {a : Attach} {src : Nat}
        (settled : announced (agrees (s.unitCfg i).cls reported) (s.unit i).departed = (a, src)) : outcome a src := by
      have unit := announce_unit_same c n rev place absent
      have source := announce_source c n rev recs absent
      rw [State.announcedUnit, settled] at unit
      rw [State.announceSource, settled] at source
      exact ⟨unit, source⟩
    refine ⟨fun j other => announce_unit_other c n rev absent other, fun yes clear => ?_, fun yes set => ?_, fun no => ?_⟩
    · exact done (by simp [announced, (agrees_iff _ _).mpr yes, clear])
    · exact done (by simp [announced, (agrees_iff _ _).mpr yes, set])
    · exact done (by simp [announced, mt (agrees_iff _ _).mp no])
  case result =>
    intro s i u identity
    have identity_eq : identityResult u.identity = identity := identityResult_eq _
    rw [← identity_eq]
    rfl
  case requests =>
    intro s q b sized
    refine ⟨fun asks => ⟨fun le => ?_, fun gt => ?_⟩, fun asks => ⟨fun gt => ?_, fun le unused => ?_, fun le inUse => ?_⟩⟩
    · exact serve_of_asks_same asks rfl rfl (readUnit_of_le le s)
    · exact serve_of_asks_same asks rfl rfl (readUnit_of_gt gt s)
    · exact serve_of_asks_same asks rfl rfl (releaseUnit_of_gt gt s)
    · exact serve_of_asks_same asks rfl rfl (releaseUnit_of_notInUse le unused)
    have place : b.toNat < s.units.length := by omega
    refine ⟨fun held => ?_, fun absent => ?_, fun present => ?_, fun mismatch => ?_⟩
    · refine exec_releaseUnit_of_other asks le inUse (by simp [held]) (releaseEntry_of_held held) asks ?_
      simp [releaseResult_onUnit place, Attach.code, be, beFlag]
    · refine exec_releaseUnit_of_other asks le inUse (by simp [absent]) (releaseEntry_of_absent absent) asks ?_
      rw [releaseResult_onUnit place, absent]
      rfl
    · refine exec_releaseUnit_of_other asks le inUse (by simp [present]) (releaseEntry_of_present present) asks ?_
      rw [State.releaseResult, present]
      rfl
    · exact serve_of_asks_same asks rfl rfl (releaseUnit_of_mismatch le inUse mismatch)

end Sys2Proof.Machine

/-!
SUPPORT. The report of a compressor (R105 to R107, R110, R128): what a duty evaluation keeps of the parity marks, how a
report is recorded, and the table of what it does by duty state and condition.
-/

namespace Sys2Proof.Machine

/-! ### Parity marks through a duty evaluation -/

theorem offerOwn_parity (e : Nat) (c : Command) (s : State) : (offerOwn e c s).parity = s.parity := by
  unfold offerOwn
  split <;> rfl

theorem takeStop_parity (k : Nat) (s : State) : (takeStop k s).parity = s.parity := by
  unfold takeStop
  split
  · exact offerOwn_parity _ _ _
  · rfl

theorem ownStart_parity (k : Nat) (s : State) : (ownStart k s).parity = s.parity := by
  unfold ownStart
  split
  · rfl
  · split
    · exact offerOwn_parity _ _ _
    · rfl

theorem actOn_parity (wanted : List Nat) (k : Nat) (s : State) : (actOn wanted k s).parity = s.parity := by
  unfold actOn
  split
  · split
    · exact ownStart_parity k s
    · rfl
  · split
    · rfl
    · split
      · rfl
      · exact takeStop_parity k s
  · rfl

theorem offerSpeed_parity (demand running k : Nat) (s : State) : (offerSpeed demand running k s).parity = s.parity := by
  unfold offerSpeed
  dsimp only
  split
  · exact offerOwn_parity _ _ _
  · rfl

theorem foldl_parity {f : State → Nat → State} (kept : ∀ s k, (f s k).parity = s.parity) (l : List Nat) (s : State) :
    (l.foldl f s).parity = s.parity := by
  induction l generalizing s with
  | nil => rfl
  | cons k l ih => rw [List.foldl_cons, ih, kept]

theorem evalCore_parity (s : State) : (evalCore s).parity = s.parity := by
  have acted := foldl_parity (fun t k => actOn_parity s.desired k t) s.comp.order s
  unfold evalCore offerSpeeds
  split
  · exact acted
  · rw [foldl_parity fun t k => offerSpeed_parity _ _ k t, acted]

/-- A parity mark of a duty record is not removed. -/
def KeepsMarks (s t : State) : Prop := ∀ k, s.marked .compressors k = true → t.marked .compressors k = true

theorem KeepsMarks.of_parity {s t : State} (same : t.parity.get .compressors = s.parity.get .compressors) :
    KeepsMarks s t := by
  intro k marked
  rwa [State.marked, same]

theorem KeepsMarks.foldl {f : State → Nat → State} (kept : ∀ s k, KeepsMarks s (f s k)) (l : List Nat) (s : State) :
    KeepsMarks s (l.foldl f s) := by
  induction l generalizing s with
  | nil => exact fun _ marked => marked
  | cons k l ih => exact fun j marked => ih (f s k) j (kept s k j marked)

theorem checkComp_keepsMarks (k : Nat) (s : State) : KeepsMarks s (checkComp k s) := by
  unfold checkComp
  split
  next bad =>
    have found : KeepsMarks s (markEntry .compressors k k s) := fun j marked => by
      rw [(markEntry_spec s k j k bad (by decide)).1, marked, Bool.true_or]
    split
    · exact found
    · exact found
  next => exact fun _ marked => marked

theorem curtailCore_keepsMarks (just : Option Nat) (s : State) : KeepsMarks s (curtailCore just s) := by
  refine .of_parity ?_
  unfold curtailCore occurIf
  dsimp only
  split
  · rfl
  · split
    · exact occur_parity _ _ _ (by decide)
    · rfl

theorem tellSums_parity (s : State) : (tellSums s).parity = s.parity := rfl

theorem publish_keepsMarks (s : State) : KeepsMarks s (publish s) := by
  unfold publish
  dsimp only
  split
  · exact fun _ marked => marked
  · intro k marked
    have computed := curtailCore_keepsMarks none { s with
        comp := { s.comp with published := s.compCapacity }
        acct := { s.acct with compCap := s.compCapacity } } k marked
    split
    · rwa [State.marked, evalCore_parity, tellSums_parity]
    · exact computed

theorem dutyEvaluation_keepsMarks (s : State) : KeepsMarks s (dutyEvaluation s) := by
  intro k marked
  refine publish_keepsMarks _ k ?_
  rw [State.marked, evalCore_parity]
  exact KeepsMarks.foldl (fun t j => checkComp_keepsMarks j t) s.comp.order s k marked

/-! ### Records -/

theorem onComp_onComp (k : Nat) (f g : CompRec → CompRec) (s : State) :
    (s.onComp k f).onComp k g = s.onComp k (g ∘ f) := by
  simp [State.onComp, List.modify_modify_eq]

theorem compOf_spec {s : State} {e k : Nat} (found : s.compOf e = some k) :
    k < 6 ∧ s.compInUse k = true ∧ s.compEntry k = e := by
  have mem := List.mem_of_find?_eq_some found
  have holds := List.find?_some found
  simp only [Bool.and_eq_true, decide_eq_true_eq] at holds
  exact ⟨List.mem_range.mp mem, holds⟩

theorem appendMark_of_short {marks : List Nat} (now : Nat) (short : marks.length ≤ 7) :
    appendMark now marks = marks ++ [now] := by
  simp [appendMark, Nat.sub_eq_zero_of_le short]

theorem appendMark_of_full {marks : List Nat} (now : Nat) (full : marks.length = 8) :
    appendMark now marks = marks.tail ++ [now] := by
  cases marks with
  | nil => cases full
  | cons m marks => simp [appendMark, full]

theorem conditionOf_iff (b : Octet) : (conditionOf b = .stopped ↔ b = 0) ∧ (conditionOf b = .running ↔ b = 2) ∧
    (conditionOf b = .tripped ↔ b = 3) := by
  by_cases zero : b = 0
  · subst zero
    decide
  by_cases two : b = 2
  · subst two
    decide
  by_cases three : b = 3
  · subst three
    decide
  · rw [conditionOf, if_neg zero, if_neg two, if_neg three]
    exact ⟨⟨nofun, (absurd · zero)⟩, ⟨nofun, (absurd · two)⟩, ⟨nofun, (absurd · three)⟩⟩

/-! ### The check of the record (R128) -/

theorem useComp_of_sound {s : State} {k : Nat} (sound : s.foundBad .compressors k = false) : useComp k s = s := by
  rw [useComp, sound, if_neg Bool.false_ne_true]

/-- A marked entry is not found bad again (R208). -/
theorem not_foundBad_of_marked {s : State} {t : TableId} {i : Nat} (marked : s.marked t i = true) :
    s.foundBad t i = false := by
  unfold State.marked at marked
  rw [State.foundBad, marked, Bool.not_true, Bool.and_false]

theorem useComp_of_bad {s : State} {k : Nat} (bad : s.foundBad .compressors k = true) (inUse : s.compInUse k = true) :
    useComp k s = dutyEvaluation (lockByParity k (markEntry .compressors k k s)) := by
  rw [useComp, if_pos bad, checkComp, if_pos bad, if_pos inUse]

/-- The record is marked once its check has found it bad. -/
theorem useComp_marked {s : State} {k : Nat} (bad : s.foundBad .compressors k = true) (inUse : s.compInUse k = true) :
    (useComp k s).marked .compressors k = true := by
  rw [useComp_of_bad bad inUse]
  have mark : (markEntry .compressors k k s).marked .compressors k = true := by
    rw [(markEntry_spec s k k k bad (by decide)).1, decide_eq_true rfl, decide_eq_true rfl, Bool.and_self, Bool.or_true]
  exact dutyEvaluation_keepsMarks _ k mark

/-- A record that a mark locks out is the one it was, the event record and the marks apart. -/
theorem lockByParity_markEntry (k : Nat) (s : State) : lockByParity k (markEntry .compressors k k s) =
    withdrawAll (s.compRec k).entry ((markEntry .compressors k k s).onComp k fun y => { y with
      state := .lockedOut
      tStart := none
      tStop := none
      tMinRun := none
      tCool := none
      stopPending := false }) := by
  have entry : (markEntry .compressors k k s).compEntry k = (s.compRec k).entry := by
    rw [markEntry_only]
    rfl
  rw [lockByParity, entry]
  rfl

/-! ### Recording a report (R105) -/

/-- The record's last report is the condition. -/
def recordReport (k : Nat) (c : Condition) (s : State) : State := s.onComp k fun y => { y with lastReport := some c }

/-- A report of a record without a parity mark is recorded, and one of TRIPPED that follows another is an event. -/
def State.withReport (s : State) (k : Nat) (c : Condition) : State :=
  if c = .tripped ∧ (s.compRec k).lastReport ≠ some .tripped then occur Src.unitTripped k (recordReport k c s)
  else recordReport k c s

/-- A reported state differs from the state before in the last report, the events and their marks. -/
theorem withReport_only (s : State) (k : Nat) (c : Condition) : s.withReport k c = { recordReport k c s with
    parity := (s.withReport k c).parity, ev := (s.withReport k c).ev } := by
  unfold State.withReport
  split
  · exact occur_only _ _ _
  · rfl

theorem withReport_now (s : State) (k : Nat) (c : Condition) : (s.withReport k c).now = s.now := by
  rw [withReport_only]
  rfl

theorem withReport_compCfg (s : State) (k j : Nat) (c : Condition) : (s.withReport k c).compCfg j = s.compCfg j := by
  rw [withReport_only]
  rfl

theorem withReport_compRec {s : State} {k : Nat} (c : Condition) (place : k < s.comp.recs.length) :
    (s.withReport k c).compRec k = { s.compRec k with lastReport := some c } := by
  have same : (s.withReport k c).compRec k = (recordReport k c s).compRec k := by
    rw [withReport_only]
    rfl
  rw [same, recordReport, State.compRec_onComp, if_pos ⟨rfl, place⟩]

theorem withReport_marked (s : State) (k j : Nat) (c : Condition) :
    (s.withReport k c).marked .compressors j = s.marked .compressors j := by
  have same : (s.withReport k c).parity.get .compressors = s.parity.get .compressors := by
    unfold State.withReport
    split
    · exact occur_parity _ _ _ (by decide)
    · rfl
  rw [State.marked, same, State.marked]

/-- A report of a marked record is recorded and does nothing else. -/
theorem reportTo_of_marked {s : State} {k : Nat} (c : Condition) (marked : (useComp k s).marked .compressors k = true) :
    reportTo k c s = recordReport k c (useComp k s) := by
  have recorded : (recordReport k c (useComp k s)).marked .compressors k = true := marked
  unfold reportTo
  simp only [marked, Bool.not_true, Bool.false_and, occurIf, Bool.false_eq_true, if_false]
  exact if_pos recorded

theorem reportTo_of_sound {s : State} {k : Nat} (c : Condition) (sound : s.foundBad .compressors k = false)
    (clear : s.marked .compressors k = false) : reportTo k c s = actReport k c (s.withReport k c) := by
  have recorded : occurIf (!s.marked .compressors k && decide (c = .tripped) &&
      decide ((s.compRec k).lastReport ≠ some .tripped)) Src.unitTripped k
        (s.onComp k fun r => { r with lastReport := some c }) = s.withReport k c := by
    simp [occurIf, clear, State.withReport, recordReport]
  unfold reportTo
  simp only [useComp_of_sound sound, recorded]
  rw [withReport_marked, clear, if_neg Bool.false_ne_true]

/-! ### What a report does (R106, R107, R110) -/

section
variable {s : State} {k : Nat} {c : Condition}

theorem actReport_of_unavailable (state : (s.compRec k).state = .unavailable) :
    actReport k c s = firstReport k c s := by
  simp only [actReport, state]

theorem actReport_of_lockedOut (state : (s.compRec k).state = .lockedOut) : actReport k c s = s := by
  simp only [actReport, state]

theorem actReport_of_tripped (known : (s.compRec k).state ≠ .unavailable) (free : (s.compRec k).state ≠ .lockedOut) :
    actReport k .tripped s = dutyEvaluation (tripLock k s) := by
  unfold actReport
  split <;> simp_all

/-- RUNNING from a unit at rest is a local start. -/
theorem actReport_of_localStart (state : (s.compRec k).state = .stopped ∨ (s.compRec k).state = .cooldown) :
    actReport k .running s = dutyEvaluation (localStart k s) := by
  rcases state with state | state <;> simp only [actReport, state]

theorem actReport_of_confirmed (state : (s.compRec k).state = .starting) :
    actReport k .running s = dutyEvaluation (confirmStart k s) := by
  simp only [actReport, state]

theorem actReport_of_stopped (state : (s.compRec k).state = .running ∨ (s.compRec k).state = .unloading) :
    actReport k .stopped s = dutyEvaluation (stoppedReport k s) := by
  rcases state with state | state <;> simp only [actReport, state]

/-- STOPPED and TRANSIENT tell nothing new of a unit at rest or starting. -/
theorem actReport_of_notRunning (state : (s.compRec k).state = .stopped ∨ (s.compRec k).state = .cooldown ∨
    (s.compRec k).state = .starting) (quiet : c = .stopped ∨ c = .transient) : actReport k c s = s := by
  rcases state with state | state | state <;> rcases quiet with rfl | rfl <;> simp only [actReport, state]

/-- RUNNING and TRANSIENT tell nothing new of a unit that runs or unloads. -/
theorem actReport_of_stillRunning (state : (s.compRec k).state = .running ∨ (s.compRec k).state = .unloading)
    (quiet : c = .running ∨ c = .transient) : actReport k c s = s := by
  rcases state with state | state <;> rcases quiet with rfl | rfl <;> simp only [actReport, state]

/-! ### A first report (R106) -/

theorem firstReport_transient : firstReport k .transient s = s := rfl

/-- A trip, or any report but TRANSIENT of a unit held locked, settles LOCKED_OUT. -/
theorem firstReport_lockedOut (locks : c = .tripped ∨ c ≠ .transient ∧ (s.compRec k).lockHeld = true) :
    firstReport k c s = dutyEvaluation (settleFirst k .lockedOut s) := by
  rcases locks with rfl | ⟨told, held⟩
  · rfl
  · cases c with
    | transient => exact absurd rfl told
    | tripped => rfl
    | stopped => rw [firstReport, held, if_pos rfl]
    | running => rw [firstReport, held, if_pos rfl]

theorem firstReport_stopped (free : (s.compRec k).lockHeld = false) :
    firstReport k .stopped s = dutyEvaluation (settleFirst k .stopped s) := by
  rw [firstReport, free, if_neg Bool.false_ne_true]

theorem firstReport_running (free : (s.compRec k).lockHeld = false) :
    firstReport k .running s = dutyEvaluation (s.onComp k fun y => { y with
      state := .running
      lostOp := false
      lockHeld := false
      tMinRun := startTimer s.now ((s.compCfg k).minRun * 1000)
      lastSpeed := none }) := by
  rw [firstReport, free, if_neg Bool.false_ne_true, settleFirst, onComp_onComp]
  rfl

/-- A cooldown of 0 leaves the unit STOPPED with its timer stopped (R113). -/
theorem enterCooldown_eq (now cool : Nat) (r : CompRec) : r.enterCooldown now cool = { r with
    state := if cool = 0 then .stopped else .cooldown
    tCool := startTimer now (cool * 1000) } := by
  unfold CompRec.enterCooldown
  split
  next zero => simp [zero, startTimer]
  next => rfl

end

/-! ### Examination of a STATE frame (R8) -/

section
variable {s : State} {f : Frame} {i : Nat}

theorem examine_of_state (kind : f.kind = kindState) (present : s.present i = true) :
    examine i f s = examineState i f.payload s := by
  have code : kindState ≠ kindAnnounce ∧ kindState ≠ kindDepart ∧ kindState ≠ kindSample := by decide
  simp [examine, kind, code, present]

theorem examine_of_state_notPresent (kind : f.kind = kindState) (gone : s.present i = false) : examine i f s = s := by
  have code : kindState ≠ kindAnnounce ∧ kindState ≠ kindDepart ∧ kindState ≠ kindSample := by decide
  simp [examine, kind, code, gone]

theorem examine_of_compressorState (kind : f.kind = kindState) (present : s.present i = true)
    (cls : (s.unitCfg i).cls = .compressor) : examine i f s = compressorReport i f.payload s := by
  rw [examine_of_state kind present, examineState, cls]

theorem compressorReport_of_none {p : List Octet} (none : p = [] ∨ s.compOf i = none) : compressorReport i p s = s := by
  unfold compressorReport
  split
  next found => simp_all
  next => rfl

theorem compressorReport_of_some {b : Octet} {more : List Octet} {k : Nat} (found : s.compOf i = some k) :
    compressorReport i (b :: more) s = reportTo k (conditionOf b) s := by
  simp only [compressorReport, found]

end

/-! ### The obligation -/

/-- Settles O27: a matched report is `actReport` on the state that records it, whose entry, budget and clock are those
before; the rows of the table are the cases of that function. -/
theorem compressorReports : Obligations.CompressorReports := by
  refine ⟨fun now marks => ⟨appendMark_of_short now, appendMark_of_full now⟩, fun s f i kind =>
    ⟨examine_of_state_notPresent kind, fun present cls => ⟨fun none => ?_, ?_⟩⟩⟩
  · rw [examine_of_compressorState kind present cls, compressorReport_of_none none]
  intro b more k payload found sized c r recorded v ranOn lock settled
  obtain ⟨place, inUse, -⟩ := compOf_spec found
  have examined : examine i f s = reportTo k c s := by
    rw [examine_of_compressorState kind present cls, payload, compressorReport_of_some found]
  obtain ⟨stopped, running, tripped⟩ := conditionOf_iff b
  refine ⟨stopped, running, tripped, fun bad => ?bad, fun marked => ?marked, fun sound clear => ?sound⟩
  case bad =>
    rw [examined, reportTo_of_marked c (useComp_marked bad inUse), useComp_of_bad bad inUse, lockByParity_markEntry]
    rfl
  case marked =>
    have same : useComp k s = s := useComp_of_sound (not_foundBad_of_marked marked)
    rw [examined, reportTo_of_marked c (same.symm ▸ marked), same]
    rfl
  case sound =>
    have acts : examine i f s = actReport k c v := examined.trans (reportTo_of_sound c sound clear)
    have v_now : v.now = s.now := withReport_now s k c
    have v_cfg : v.compCfg k = s.compCfg k := withReport_compCfg s k k c
    have v_rec : v.compRec k = { r with lastReport := some c } := withReport_compRec c (sized ▸ place)
    have v_entry : v.compEntry k = r.entry := by rw [State.compEntry, v_rec]
    have v_state : (v.compRec k).state = r.state := by rw [v_rec]
    have v_held : (v.compRec k).lockHeld = r.lockHeld := by rw [v_rec]
    rw [acts]
    clear_value v
    refine ⟨fun state => ?first, fun state => actReport_of_lockedOut (v_state.trans state), fun known free trip => ?trip,
      fun state => ?atRest, fun state => ?starting, fun state => ?turning⟩
    case first =>
      rw [actReport_of_unavailable (v_state.trans state)]
      refine ⟨fun tells => ?_, fun locks => ?_, fun tells free => ?_, fun tells free => ?_⟩
      · rw [tells, firstReport_transient]
      · exact firstReport_lockedOut (locks.imp_right (And.imp_right v_held.trans))
      · rw [tells, firstReport_stopped (v_held.trans free)]
        rfl
      · rw [tells, firstReport_running (v_held.trans free), v_now, v_cfg]
    case trip =>
      rw [trip, actReport_of_tripped (v_state ▸ known) (v_state ▸ free), tripLock, v_entry]
      rfl
    case atRest =>
      refine ⟨fun tells => ?_, fun tells => actReport_of_notRunning (v_state ▸ state.imp_right .inl) tells⟩
      rw [tells, actReport_of_localStart (v_state ▸ state), localStart, v_entry, v_now, v_cfg]
    case starting =>
      refine ⟨fun tells => ?_, fun tells => actReport_of_notRunning (v_state ▸ .inr (.inr state)) tells⟩
      rw [tells, actReport_of_confirmed (v_state.trans state), confirmStart, v_entry, v_now, v_cfg]
    case turning =>
      refine ⟨fun tells => ?_, fun tells => actReport_of_stillRunning (v_state ▸ state) tells⟩
      rw [tells, actReport_of_stopped (v_state ▸ state), stoppedReport, v_entry, v_now, v_cfg]
      simp only [enterCooldown_eq]

end Sys2Proof.Machine

/-!
SUPPORT. The arrival of a valid frame: the checks it makes (R3, R28), what it finds of the address it looks up, and the
two ports by reach (R5 to R11, R21).
-/

namespace Sys2Proof.Machine

/-! ### The check of the own-address table (R3) -/

theorem checkOwnEntry_eq (i : Nat) (s : State) : checkOwnEntry i s =
    if s.foundBad .link i then occur Src.tableParity noSubject (s.setMark .link i) else s := by
  rw [checkOwnEntry, markEntry_eq_occur]

theorem checkOwnTable_eq_foldl (s : State) : checkOwnTable s = (List.range 4).foldl (fun x i =>
    if x.foundBad .link i then occur Src.tableParity noSubject (x.setMark .link i) else x) s := by
  simp only [← checkOwnEntry_eq]
  rfl

/-- The check of one entry marks it when it is bad, and no other. -/
theorem checkOwnEntry_marks (i j : Nat) (s : State) :
    (checkOwnEntry i s).marked .link j = (s.marked .link j || (decide (i = j) && s.foundBad .link i)) ∧
    (checkOwnEntry i s).foundBad .link j = (s.foundBad .link j && !decide (i = j)) := by
  unfold checkOwnEntry
  split
  next bad =>
    obtain ⟨marked, found⟩ := markEntry_spec s i j noSubject bad (u := .link) (by decide)
    rw [marked, found, bad]
    simp
  next sound =>
    rw [Bool.not_eq_true] at sound
    refine ⟨by simp [sound], ?_⟩
    by_cases same : i = j
    · simp [← same, sound]
    · simp [same]

/-- After the check no own-address entry is bad, and an entry is marked that was so or was found bad. -/
theorem checkOwnTable_marks (s : State) {i : Nat} (place : i < 4) : (checkOwnTable s).foundBad .link i = false ∧
    (checkOwnTable s).marked .link i = (s.marked .link i || s.foundBad .link i) := by
  simp only [checkOwnTable, checkOwnEntry_marks]
  interval_cases i <;> simp

theorem checkOwnEntry_parity (i : Nat) (s : State) {t : TableId} (link : t ≠ .link) (events : t ≠ .events) :
    (checkOwnEntry i s).parity.get t = s.parity.get t := by
  rw [checkOwnEntry_eq]
  split
  · rw [occur_parity _ _ _ events, State.setMark, Parity.get_put, if_neg link.symm]
  · rfl

section
variable (s : State)

theorem checkOwnTable_link : (checkOwnTable s).link = s.link := by rw [checkOwnTable_only]

theorem checkOwnTable_tables : (checkOwnTable s).tables = s.tables := by rw [checkOwnTable_only]

theorem checkOwnTable_time : (checkOwnTable s).time = s.time := by rw [checkOwnTable_only]

theorem checkOwnTable_now : (checkOwnTable s).now = s.now := by rw [checkOwnTable_only]

theorem checkOwnTable_mgmt : (checkOwnTable s).mgmt = s.mgmt := by rw [checkOwnTable_only]

theorem checkOwnTable_resp : (checkOwnTable s).resp = s.resp := by rw [checkOwnTable_only]

end

theorem checkOwnTable_parity (s : State) {t : TableId} (link : t ≠ .link) (events : t ≠ .events) :
    (checkOwnTable s).parity.get t = s.parity.get t := by
  simp only [checkOwnTable, checkOwnEntry_parity _ _ link events]

/-! ### Reach (R3) -/

/-- The destination matches the entry, were it enabled. -/
def OwnAddr.matches (e : OwnAddr) (dst : Addr) : Bool :=
  decide (e.addr.unit = dst.unit) && (decide (e.addr.seg = dst.seg) || e.ignoreSeg)

theorem OwnAddr.matches_iff (e : OwnAddr) (dst : Addr) :
    e.matches dst = true ↔ e.addr.unit = dst.unit ∧ (e.addr.seg = dst.seg ∨ e.ignoreSeg = true) := by
  simp [OwnAddr.matches]

theorem OwnAddr.accepts_withEnabled (e : OwnAddr) (on : Bool) (dst : Addr) :
    OwnAddr.accepts { e with enabled := on } dst = (on && e.matches dst) := by
  simp [OwnAddr.accepts, OwnAddr.matches, Bool.and_assoc]

theorem fallbackAddr_accepts (dst : Addr) : fallbackAddr.accepts dst = decide (dst = ⟨0xFE, 0xFE⟩) := by
  obtain ⟨seg, unit⟩ := dst
  simp [OwnAddr.accepts, fallbackAddr, eq_comm, Bool.and_comm]

/-- A frame is for the part by its first three acting entries, and for all by the last. -/
theorem reachOf_ownActing {s : State} {a0 a1 a2 a3 : OwnAddr} (own : s.tables.link.own = [a0, a1, a2, a3]) (dst : Addr) :
    reachOf s.ownActing dst =
      if s.acts a0 0 || s.acts a1 1 || s.acts a2 2 || s.acts a3 3 then
        if s.acts a0 0 && a0.matches dst || s.acts a1 1 && a1.matches dst || s.acts a2 2 && a2.matches dst then .addressed
        else if s.acts a3 3 && a3.matches dst then .broadcast
        else .passing
      else if dst = ⟨0xFE, 0xFE⟩ then .addressed else .passing := by
  rw [ownActing_eq own]
  split
  · simp only [reachOf, List.take_succ_cons, List.take_zero, List.drop_succ_cons, List.drop_zero, List.any_cons,
      List.any_nil, OwnAddr.accepts_withEnabled, Bool.or_false, Bool.or_assoc]
  · simp [reachOf, OwnAddr.accepts_withEnabled, fallbackAddr_accepts]

/-! ### What lookups and reach depend on -/

theorem ownActing_congr {s t : State} (tables : t.tables = s.tables) (link : t.parity.link = s.parity.link) :
    t.ownActing = s.ownActing := by
  have marked (i : Nat) : t.marked .link i = s.marked .link i := by
    simp only [State.marked, Parity.get, link]
  simp only [State.ownActing, tables, marked]

theorem unitCfg_congr {s t : State} (tables : t.tables = s.tables) (i : Nat) : t.unitCfg i = s.unitCfg i := by
  rw [State.unitCfg, tables, State.unitCfg]

theorem marked_congr {s t : State} {tb : TableId} (same : t.parity.get tb = s.parity.get tb) (i : Nat) :
    t.marked tb i = s.marked tb i := by
  rw [State.marked, same, State.marked]

theorem foundBad_congr {s t : State} {tb : TableId} (same : t.parity.get tb = s.parity.get tb) (i : Nat) :
    t.foundBad tb i = s.foundBad tb i := by
  rw [State.foundBad, same, State.foundBad]

theorem entryAtAddr_congr {s t : State} (tables : t.tables = s.tables)
    (units : t.parity.get .units = s.parity.get .units) (a : Addr) : t.entryAtAddr a = s.entryAtAddr a := by
  simp only [State.entryAtAddr, State.unitInUse, unitCfg_congr tables, marked_congr units]

theorem upCapacity_congr {s t : State} (tables : t.tables = s.tables) : t.upCapacity = s.upCapacity := by
  rw [State.upCapacity, tables, State.upCapacity]

/-! ### Lookup of an address (R19, R28) -/

theorem place_of_foundBad {s : State} {t : TableId} {i : Nat} (bad : s.foundBad t i = true) :
    i < (s.parity.get t).length := by
  refine Nat.lt_of_not_le fun outside => ?_
  rw [State.foundBad, List.getD_eq_default _ _ outside] at bad
  exact absurd bad (by decide)

theorem lookupCheck_of_sound {s : State} {a : Addr} (sound : ∀ i, s.entryAtAddr a = some i → s.foundBad .units i = false) :
    lookupCheck a s = s := by
  unfold lookupCheck
  split
  next i found => rw [sound i found, if_neg Bool.false_ne_true]
  next => rfl

theorem lookupCheck_of_none {s : State} {a : Addr} (none : s.entryAtAddr a = none) : lookupCheck a s = s :=
  lookupCheck_of_sound fun i found => by rw [none] at found; cases found

theorem lookupCheck_of_entry {s : State} {a : Addr} {i : Nat} (entry : s.entryAtAddr a = some i)
    (sound : s.foundBad .units i = false) : lookupCheck a s = s :=
  lookupCheck_of_sound fun j found => by rwa [← Option.some.inj (entry.symm.trans found)]

theorem lookupCheck_of_bad {s : State} {a : Addr} {i : Nat} (entry : s.entryAtAddr a = some i)
    (bad : s.foundBad .units i = true) : lookupCheck a s = unitFoundBad i s := by
  simp only [lookupCheck, entry, bad, if_true]

/-- An entry found bad as its mark leaves it: ABSENT with departure flag clear and silence timer stopped. -/
def markUnit (i : Nat) (s : State) : State :=
  (occur Src.tableParity i (s.setMark .units i)).onUnit i fun y => { y with
    attach := .absent
    departed := false
    silence := none }

theorem markUnit_eq (i : Nat) (s : State) : (markEntry .units i i s).onUnit i (fun u => { u with
    attach := .absent, departed := false, silence := none }) = markUnit i s := by
  rw [markEntry_eq_occur, markUnit]

theorem unitFoundBad_of_notPresent {s : State} {i : Nat} (gone : (s.unit i).attach ≠ .present) :
    unitFoundBad i s = markUnit i s := by
  unfold unitFoundBad
  dsimp only
  rw [if_neg gone, markUnit_eq]

theorem markUnit_tables (i : Nat) (s : State) : (markUnit i s).tables = s.tables := by
  rw [markUnit, occur_only]
  rfl

theorem unitFoundBad_of_present {s : State} {i : Nat} (present : (s.unit i).attach = .present) :
    unitFoundBad i s = leavePresent i (s.unitCfg i).cls (occur Src.unitDeparted i (markUnit i s)) := by
  unfold unitFoundBad
  dsimp only
  rw [if_pos present, markUnit_eq, entryGone, if_pos present, unitCfg_congr (markUnit_tables i s)]

theorem unitFoundBad_units (i : Nat) (s : State) : (unitFoundBad i s).units = (markUnit i s).units := by
  have marked : (markUnit i s).units =
      s.units.modify i fun u => { u with attach := .absent, departed := false, silence := none } := by
    rw [markUnit, occur_only]
    rfl
  exact (unitFoundBad_spec i s).2.trans marked.symm

theorem unitFoundBad_marked {s : State} {i : Nat} (bad : s.foundBad .units i = true) (j : Nat) :
    (unitFoundBad i s).marked .units j = (s.marked .units j || decide (i = j)) := by
  have same : (unitFoundBad i s).parity.get .units = (s.setMark .units i).parity.get .units := (unitFoundBad_spec i s).1
  rw [marked_congr same, (setMark_spec s .units .units i j (place_of_foundBad bad)).1]
  simp

/-- The address of an entry found bad is no entry's, when no other entry in use holds it. -/
theorem entryAtAddr_unitFoundBad {s : State} {i : Nat} {a : Addr} (bad : s.foundBad .units i = true)
    (alone : ∀ j < 48, j ≠ i → (s.unitCfg j).inUse = true → (s.unitCfg j).addr ≠ a) :
    (unitFoundBad i s).entryAtAddr a = none := by
  refine List.find?_eq_none.mpr fun j mem => ?_
  rw [State.unitInUse, unitFoundBad_marked bad, unitCfg_congr (unitFoundBad_frame i s).tables]
  by_cases same : i = j
  · simp [same]
  · have free := alone j (List.mem_range.mp mem) (Ne.symm same)
    simp only [Bool.and_eq_true, decide_eq_true_eq]
    exact fun ⟨⟨inUse, _⟩, addr⟩ => free inUse addr

theorem lookupCheck_link (a : Addr) (s : State) : (lookupCheck a s).link = s.link := (lookupCheck_frame a s).link

theorem lookupCheck_tables (a : Addr) (s : State) : (lookupCheck a s).tables = s.tables := (lookupCheck_frame a s).tables

theorem lookupCheck_ownActing (a : Addr) (s : State) : (lookupCheck a s).ownActing = s.ownActing :=
  ownActing_congr (lookupCheck_frame a s).tables (lookupCheck_frame a s).linkParity

/-! ### Port F (R7 to R9, R21) -/

theorem offerUpstream_of_room {s : State} (f : Frame) (subject : Nat) (room : s.link.upQ.length < s.upCapacity) :
    offerUpstream f subject s = { s with link := { s.link with upQ := s.link.upQ ++ [f] } } := if_pos room

theorem offerUpstream_of_full {s : State} (f : Frame) (subject : Nat) (full : ¬s.link.upQ.length < s.upCapacity) :
    offerUpstream f subject s = occur Src.upOverrun subject s := if_neg full

/-- A frame whose address has no entry after the lookup is MISDIRECTED or offered upstream. -/
theorem arriveF_of_none {s u w : State} {f : Frame} (own : checkOwnTable s = u) (checked : lookupCheck f.src u = w)
    (none : w.entryAtAddr f.src = none) : arriveF f s =
      if misdirectedF (reachOf w.ownActing f.dst) f.kind then occur Src.misdirected noSubject w
      else offerUpstream f noSubject w := by
  simp only [arriveF, own, checked, none, subjectOf]

theorem arriveF_of_some {s u w : State} {f : Frame} {i : Nat} (own : checkOwnTable s = u)
    (checked : lookupCheck f.src u = w) (found : w.entryAtAddr f.src = some i) : arriveF f s =
      if misdirectedF (reachOf w.ownActing f.dst) f.kind then occur Src.misdirected i (hear i w)
      else examine i f (offerUpstream f i (hear i w)) := by
  have acting : (hear i w).ownActing = w.ownActing := ownActing_congr rfl rfl
  simp only [arriveF, own, checked, found, subjectOf, acting]

/-- A frame is examined by four kinds alone, SAMPLE and STATE for a PRESENT entry, and STATE by class (R8). -/
theorem examine_of_otherKind {f : Frame} (other : f.kind ∉ [kindAnnounce, kindDepart, kindSample, kindState]) (i : Nat)
    (s : State) : examine i f s = s := by
  simp only [List.mem_cons, List.not_mem_nil, or_false, not_or] at other
  obtain ⟨announce, depart, sample, state⟩ := other
  rw [examine, if_neg announce, if_neg depart, if_neg sample, if_neg state]

theorem examine_of_notPresent {s : State} {i : Nat} {f : Frame} (kind : f.kind = kindSample ∨ f.kind = kindState)
    (gone : (s.unit i).attach ≠ .present) : examine i f s = s := by
  have absent : s.present i = false := decide_eq_false gone
  rcases kind with kind | kind
  · have code : kindSample ≠ kindAnnounce ∧ kindSample ≠ kindDepart := by decide
    simp [examine, kind, code, absent]
  · exact examine_of_state_notPresent kind absent

theorem examine_of_ungoverned {s : State} {i : Nat} {f : Frame} (kind : f.kind = kindState)
    (cls : (s.unitCfg i).cls ∈ [UnitClass.meter, .transmitter, .analyser, .generic]) : examine i f s = s := by
  cases present : s.present i with
  | false => exact examine_of_state_notPresent kind present
  | true =>
    rw [examine_of_state kind present, examineState]
    split <;> simp_all

/-! ### Port S (R5, R6, R10) -/

section
variable {s u : State} {f : Frame}

theorem arriveS_of_addressed (own : checkOwnTable s = u) (reach : reachOf u.ownActing f.dst = .addressed) :
    arriveS f s = addressedS f u := by
  unfold arriveS
  dsimp only
  rw [own, reach]

theorem arriveS_of_broadcast (own : checkOwnTable s = u) (reach : reachOf u.ownActing f.dst = .broadcast) :
    arriveS f s = broadcastS f u := by
  unfold arriveS
  dsimp only
  rw [own, reach]

theorem arriveS_of_passing (own : checkOwnTable s = u) (reach : reachOf u.ownActing f.dst = .passing) :
    arriveS f s = forwardDown f u := by
  unfold arriveS
  dsimp only
  rw [own, reach]

theorem addressedS_of_request (kind : f.kind = kindRequest) (s : State) :
    addressedS f s = offerRequest (requestOf f false) s := if_pos kind

theorem addressedS_of_other (kind : f.kind ≠ kindRequest) (s : State) :
    addressedS f s = occur Src.misdirected noSubject s := if_neg kind

theorem broadcastS_of_command (kind : f.kind = kindCommand) (s : State) :
    broadcastS f s = occur Src.commandRefused noSubject s := if_pos kind

/-- A broadcast SET_TIME is taken without a response and forwarded (R6). -/
theorem broadcastS_of_setTime (kind : f.kind = kindRequest) (code : f.payload.head? = some 0x10) (s : State) :
    broadcastS f s = forwardDown f (offerRequest (requestOf f true) s) := by
  have other : kindRequest ≠ kindCommand := by decide
  rw [broadcastS, if_neg (kind ▸ other), if_pos ⟨kind, code⟩]

theorem broadcastS_of_other (command : f.kind ≠ kindCommand) (request : f.kind = kindRequest → f.payload.head? ≠ some 0x10)
    (s : State) : broadcastS f s = forwardDown f s := by
  rw [broadcastS, if_neg command, if_neg fun setTime => request setTime.1 setTime.2]

end

theorem offerRequest_of_idle {s : State} (q : Request) (service : s.mgmt.service = none) (waiting : s.mgmt.waiting = []) :
    offerRequest q s = { s with mgmt := { s.mgmt with service := some (.taken q) } } := by
  simp [offerRequest, waiting, enterService, service]

theorem offerRequest_of_busy {s : State} (q : Request) (service : s.mgmt.service ≠ none)
    (room : s.mgmt.waiting.length < 2) :
    offerRequest q s = { s with mgmt := { s.mgmt with waiting := s.mgmt.waiting ++ [q] } } := by
  obtain ⟨v, taken⟩ := Option.ne_none_iff_exists'.mp service
  simp [offerRequest, room, enterService, taken]

theorem offerRequest_of_full {s : State} (q : Request) (full : 2 ≤ s.mgmt.waiting.length) :
    offerRequest q s = occur Src.requestBusy noSubject (answerBusy q s) := if_neg (Nat.not_lt.mpr full)

theorem answerBusy_of_room {s : State} {q : Request} (answers : q.noResponse = false) (room : s.resp.length < 2) :
    answerBusy q s = { s with resp := s.resp ++ [responseTo q .busy []] } := by
  simp [answerBusy, answers, State.respRoom, room]

theorem answerBusy_of_dropped {s : State} {q : Request} (dropped : q.noResponse = true ∨ 2 ≤ s.resp.length) :
    answerBusy q s = s := by
  rcases dropped with silent | full
  · simp [answerBusy, silent]
  · simp [answerBusy, State.respRoom, Nat.not_lt.mpr full]

/-! ### The downstream queue (R10, R11) -/

theorem forwardDown_of_full {s : State} (f : Frame) (full : 8 ≤ s.link.downQ.length) : forwardDown f s =
    occur Src.downOverrun (subjectOf ((lookupCheck f.dst s).entryAtAddr f.dst)) (lookupCheck f.dst s) := if_pos full

theorem forwardDown_of_noCommand {s : State} {f : Frame} (room : s.link.downQ.length < 8) (kind : f.kind ≠ kindCommand) :
    forwardDown f s = joinDown f s := by
  rw [forwardDown, if_neg (Nat.not_le.mpr room), if_neg kind]

/-- A COMMAND to no entry joins the queue, as one whose entry the lookup has found bad. -/
theorem forwardDown_of_none {s w : State} {f : Frame} (room : s.link.downQ.length < 8) (kind : f.kind = kindCommand)
    (checked : lookupCheck f.dst s = w) (none : w.entryAtAddr f.dst = none) : forwardDown f s = joinDown f w := by
  simp only [forwardDown, if_neg (Nat.not_le.mpr room), if_pos kind, checked, none]

/-- A COMMAND to an entry is carried out by its verdict. -/
theorem forwardDown_of_entry {s : State} {f : Frame} {i : Nat} (room : s.link.downQ.length < 8)
    (kind : f.kind = kindCommand) (entry : s.entryAtAddr f.dst = some i) (sound : s.foundBad .units i = false) :
    forwardDown f s = carryVerdict i f (judge i f.payload s) := by
  simp only [forwardDown, if_neg (Nat.not_le.mpr room), if_pos kind, lookupCheck_of_entry entry sound, entry]

/-! ### The obligations -/

/-- Settles O8: the lookup gives a state whose address has the sound entry or none, and the frame arrives by that. -/
theorem fieldFramesGoUpstream : Obligations.FieldFramesGoUpstream := by
  refine ⟨fun s f behind short => ?arrival, fun s i f =>
    ⟨fun other => examine_of_otherKind other i s, examine_of_notPresent, examine_of_ungoverned⟩, ?lookup⟩
  case arrival =>
    intro arrival u room joined anonymous
    have arrives : exec arrival s = .next (arriveF f { s with link := { s.link with rxF := collect none behind } }) :=
      exec_frameArrivalPortF_octets short
    have own : checkOwnTable { s with link := { s.link with rxF := collect none behind } } = u := rfl
    have upQ : u.link.upQ = s.link.upQ := by rw [← own, checkOwnTable_link]
    have tables : u.tables = s.tables := checkOwnTable_tables _
    have time : u.time = s.time := checkOwnTable_time _
    have now : u.now = s.now := checkOwnTable_now _
    have units : u.parity.get .units = s.parity.get .units := checkOwnTable_parity _ (by decide) (by decide)
    clear_value u
    have found : u.entryAtAddr f.src = s.entryAtAddr f.src := entryAtAddr_congr tables units _
    have bad (i : Nat) : u.foundBad .units i = s.foundBad .units i := foundBad_congr units i
    have anonymously {w : State} (checked : lookupCheck f.src u = w) (noEntry : w.entryAtAddr f.src = none) :
        anonymous w := by
      have reach : w.ownActing = u.ownActing := checked ▸ lookupCheck_ownActing _ _
      have queue : w.link.upQ = s.link.upQ := by rw [← checked, lookupCheck_link, upQ]
      have capacity : w.upCapacity = s.upCapacity := by
        rw [← checked, upCapacity_congr (lookupCheck_tables _ _), upCapacity_congr tables]
      have eq := arriveF_of_none own checked noEntry
      rw [reach] at eq
      refine ⟨fun mis => ?_, fun notMis => ⟨fun fits => ?_, fun full => ?_⟩⟩
      · rw [arrives, eq, if_pos mis]
      · rw [arrives, eq, notMis, if_neg Bool.false_ne_true, offerUpstream_of_room f _ (by rwa [queue, capacity]), queue]
      · rw [arrives, eq, notMis, if_neg Bool.false_ne_true, offerUpstream_of_full f _ (by rwa [queue, capacity])]
    refine ⟨fun none => anonymously (lookupCheck_of_none (found.trans none)) (found.trans none), fun i entry => ?_⟩
    intro heard
    have hears : hear i u = heard := by
      simp only [hear, State.silenceEnd, time, now, unitCfg_congr tables]
      rfl
    refine ⟨fun sound => ?_, fun isBad alone => ?_⟩
    · have eq := arriveF_of_some own (lookupCheck_of_entry (found.trans entry) ((bad i).trans sound)) (found.trans entry)
      rw [hears] at eq
      have capacity : heard.upCapacity = s.upCapacity := upCapacity_congr tables
      have queue : heard.link.upQ = s.link.upQ := upQ
      clear_value heard
      refine ⟨fun mis => ?_, fun notMis => ⟨fun fits => ?_, fun full => ?_⟩⟩
      · rw [arrives, eq, if_pos mis]
      · rw [arrives, eq, notMis, if_neg Bool.false_ne_true, offerUpstream_of_room f _ (by rwa [queue, capacity]), queue]
      · rw [arrives, eq, notMis, if_neg Bool.false_ne_true, offerUpstream_of_full f _ (by rwa [queue, capacity])]
    · refine anonymously rfl ?_
      rw [lookupCheck_of_bad (found.trans entry) ((bad i).trans isBad)]
      exact entryAtAddr_unitFoundBad ((bad i).trans isBad) (by simpa only [unitCfg_congr tables] using alone)
  case lookup =>
    intro s a
    refine ⟨lookupCheck_of_sound, fun i entry bad => ?_⟩
    rw [lookupCheck_of_bad entry bad]
    refine ⟨unitFoundBad_of_notPresent, unitFoundBad_of_present, unitFoundBad_units i s, ?_, fun j other => ?_,
      entryAtAddr_unitFoundBad bad⟩
    · simp [unitFoundBad_marked bad]
    · simp [unitFoundBad_marked bad, other.symm]

/-- Settles O9: the own-address check leaves queues and requests as they were, so each reach and kind has its equation. -/
theorem portSFramesByReach : Obligations.PortSFramesByReach := by
  refine ⟨fun s f behind short => ?arrival, fun s => ⟨checkOwnTable_eq_foldl s, fun i place => ?check⟩, ?reach, ?forward⟩
  case arrival =>
    intro arrival u request idle serving queued
    have arrives : exec arrival s = .next (arriveS f { s with link := { s.link with rxS := collect none behind } }) :=
      exec_frameArrivalPortS_octets short
    have mgmt : u.mgmt = s.mgmt := checkOwnTable_mgmt _
    have resp : u.resp = s.resp := checkOwnTable_resp _
    have own : checkOwnTable { s with link := { s.link with rxS := collect none behind } } = u := rfl
    rw [arrives]
    clear_value u
    refine ⟨fun reach => ?addressed, fun reach => ?broadcast, fun reach => ?passing⟩
    case addressed =>
      rw [arriveS_of_addressed own reach]
      refine ⟨fun kind isIdle => ?_, fun kind busy room => ?_, fun kind full room => ?_, fun kind full noRoom => ?_,
        fun kind => ?_⟩
      · rw [addressedS_of_request kind, offerRequest_of_idle _ (mgmt ▸ isIdle.1) (mgmt ▸ isIdle.2), mgmt]
        rfl
      · rw [addressedS_of_request kind, offerRequest_of_busy _ (mgmt ▸ busy) (mgmt ▸ room), mgmt]
        rfl
      · rw [addressedS_of_request kind, offerRequest_of_full _ (mgmt ▸ full), answerBusy_of_room rfl (resp ▸ room), resp]
        rfl
      · rw [addressedS_of_request kind, offerRequest_of_full _ (mgmt ▸ full), answerBusy_of_dropped (.inr (resp ▸ noRoom))]
      · rw [addressedS_of_other kind]
    case broadcast =>
      rw [arriveS_of_broadcast own reach]
      refine ⟨fun kind => ?_, fun kind setTime => ⟨fun isIdle => ?_, fun busy room => ?_, fun full => ?_⟩,
        fun command request => ?_⟩
      · rw [broadcastS_of_command kind]
      · rw [broadcastS_of_setTime kind setTime, offerRequest_of_idle _ (mgmt ▸ isIdle.1) (mgmt ▸ isIdle.2), mgmt]
        rfl
      · rw [broadcastS_of_setTime kind setTime, offerRequest_of_busy _ (mgmt ▸ busy) (mgmt ▸ room), mgmt]
        rfl
      · rw [broadcastS_of_setTime kind setTime, offerRequest_of_full _ (mgmt ▸ full), answerBusy_of_dropped (.inl rfl)]
      · rw [broadcastS_of_other command request]
    case passing => rw [arriveS_of_passing own reach]
  case check =>
    obtain ⟨found, marked⟩ := checkOwnTable_marks s place
    refine ⟨found, ?_⟩
    rw [marked, Bool.or_eq_true]
  case reach =>
    intro s dst a0 a1 a2 a3 own allOff acts takes left mine
    have left_iff : left ↔ (s.acts a0 0 || s.acts a1 1 || s.acts a2 2 || s.acts a3 3) = true := by
      simp only [left, acts, allOff, ← State.acts_iff, Bool.or_eq_true, or_assoc]
    have takes_iff (a : OwnAddr) (i : Nat) : takes a i ↔ (s.acts a i && a.matches dst) = true := by
      rw [Bool.and_eq_true, State.acts_iff, OwnAddr.matches_iff]
    have mine_iff : mine ↔ (s.acts a0 0 && a0.matches dst || s.acts a1 1 && a1.matches dst ||
        s.acts a2 2 && a2.matches dst) = true := by
      simp only [mine, takes_iff, Bool.or_eq_true, or_assoc]
    simp only [left_iff, mine_iff, takes_iff]
    rw [reachOf_ownActing own]
    refine ⟨fun some_ first => ?_, fun some_ notFirst last => ?_, fun some_ notFirst notLast => ?_, fun none_ => ?_⟩
    · rw [if_pos some_, if_pos first]
    · rw [if_pos some_, if_neg notFirst, if_pos last]
    · rw [if_pos some_, if_neg notFirst, if_neg notLast]
    · rw [if_neg none_]
  case forward =>
    intro s f passed
    refine ⟨fun room => ⟨forwardDown_of_noCommand room, fun kind noEntry => ?_⟩,
      fun full => ⟨fun noEntry => ?_, fun i entry => ⟨fun sound => ?_, fun bad alone => ?_⟩⟩⟩
    · exact forwardDown_of_none room kind (lookupCheck_of_none noEntry) noEntry
    · rw [forwardDown_of_full f full, lookupCheck_of_none noEntry, noEntry]
      rfl
    · rw [forwardDown_of_full f full, lookupCheck_of_entry entry sound, entry]
      rfl
    · rw [forwardDown_of_full f full, lookupCheck_of_bad entry bad, entryAtAddr_unitFoundBad bad alone]
      rfl

end Sys2Proof.Machine

/-!
SUPPORT. The verdict on a supervisor COMMAND by the class of its unit (R10): compressors (R124 to R128), valve sets of
trains (R150) and of the station (R98).
-/

namespace Sys2Proof.Machine

/-! ### Verdicts carried out (R10, R11) -/

theorem carryVerdict_pass (i : Nat) (f : Frame) (s : State) : carryVerdict i f (s, .pass) = joinDown f s := rfl

theorem carryVerdict_alter (i : Nat) (f : Frame) (p : List Octet) (s : State) :
    carryVerdict i f (s, .alter p) = joinDown { f with payload := p } s := rfl

theorem carryVerdict_refuse (i : Nat) (f : Frame) (s : State) :
    carryVerdict i f (s, .refuse) = occur Src.commandRefused i s := rfl

/-! ### The controller of a class -/

section
variable {s : State} {i : Nat} (p : List Octet)

theorem judge_of_compressor (cls : (s.unitCfg i).cls = .compressor) : judge i p s = compressorCommand i p s := by
  rw [judge, cls]

theorem judge_of_dryerValves (cls : (s.unitCfg i).cls = .dryerValves) : judge i p s = dryerCommand i p s := by
  rw [judge, cls]

theorem judge_of_stationValves (cls : (s.unitCfg i).cls = .stationValves) : judge i p s = stationCommand p s := by
  rw [judge, cls]

theorem judge_of_ungoverned (cls : (s.unitCfg i).cls ∈ [UnitClass.meter, .transmitter, .analyser, .generic]) :
    judge i p s = (s, .pass) := by
  unfold judge
  split <;> simp_all

theorem compressorCommand_of_none (free : s.compOf i = none) : compressorCommand i p s = (s, .pass) := by
  rw [compressorCommand, free]

theorem compressorCommand_of_some {k : Nat} (found : s.compOf i = some k) : compressorCommand i p s = judgeComp k p s := by
  rw [compressorCommand, found]

end

/-! ### Commands to a compressor (R124 to R128) -/

section
variable {s t : State} {k : Nat}

theorem judgeComp_nil (used : useComp k s = t) : judgeComp k [] s = (t, .refuse) := by
  subst used
  rfl

theorem judgeComp_stop (used : useComp k s = t) (more : List Octet) :
    judgeComp k (2 :: more) s = supervisorStop k t := by
  subst used
  rfl

theorem judgeComp_start (used : useComp k s = t) (more : List Octet) :
    judgeComp k (1 :: more) s = supervisorStart k t := by
  subst used
  rfl

theorem judgeComp_speed (used : useComp k s = t) (more : List Octet) :
    judgeComp k (3 :: more) s = supervisorSpeed k (3 :: more) t := by
  subst used
  rfl

theorem judgeComp_other (used : useComp k s = t) {a : Octet} (more : List Octet) (start : a ≠ 1) (stop : a ≠ 2)
    (speed : a ≠ 3) : judgeComp k (a :: more) s = (t, .refuse) := by
  simp only [judgeComp, used, if_neg start, if_neg stop, if_neg speed]

/-- With a parity mark every command but STOP is refused (R128). -/
theorem judgeComp_of_marked (used : useComp k s = t) (marked : t.marked .compressors k = true) {p : List Octet}
    (noStop : p.head? ≠ some 2) : judgeComp k p s = (t, .refuse) := by
  cases p with
  | nil => exact judgeComp_nil used
  | cons a more =>
    have stop : a ≠ 2 := fun two => noStop (congrArg some two)
    by_cases start : a = 1
    · rw [start, judgeComp_start used, supervisorStart, marked]
      rfl
    by_cases speed : a = 3
    · rw [speed, judgeComp_speed used, supervisorSpeed, marked]
      rfl
    · exact judgeComp_other used more start stop speed

/-! ### SPEED (R127) -/

/-- The speed within the unit's range. -/
def CompCfg.limited (c : CompCfg) (rpm : Nat) : Nat := max c.sMin (min rpm c.sMax)

theorem supervisorSpeed_of_short {more : List Octet} (short : more.length < 2) :
    supervisorSpeed k (3 :: more) s = (s, .refuse) := by
  have tooShort : commandTooShort (3 :: more) = true := decide_eq_true short
  rw [supervisorSpeed, tooShort, Bool.or_true]
  rfl

theorem supervisorSpeed_of_auto (p : List Octet) (auto : (s.compRec k).mode = .auto) :
    supervisorSpeed k p s = (s, .refuse) := by
  rw [supervisorSpeed, decide_eq_true auto, Bool.or_true, Bool.true_or]
  rfl

/-- A MANUAL unit's speed is limited and recorded, and the command altered where it differs. -/
theorem supervisorSpeed_of_manual (hi lo : Octet) (more : List Octet) (clear : s.marked .compressors k = false)
    (manual : (s.compRec k).mode = .manual) : supervisorSpeed k (3 :: hi :: lo :: more) s =
      let rpm := hi.toNat * 256 + lo.toNat
      let sent := (s.compCfg k).limited rpm
      let u := s.onComp k fun r => { r with lastSpeed := some sent }
      if sent = rpm then (u, .pass) else (occur Src.speedClamped k u, .alter (3 :: (be 2 sent ++ more))) := by
  have long : commandTooShort (3 :: hi :: lo :: more) = false := by
    simp [commandTooShort, argumentOctets]
  have rpm : fieldAt (3 :: hi :: lo :: more) 1 2 = hi.toNat * 256 + lo.toNat := ofBe_pair hi lo
  simp only [supervisorSpeed, clear, manual, long, rpm, CompCfg.limited]
  rfl

/-! ### START and STOP (R125, R126) -/

theorem supervisorStart_of_refused (refused : (s.compRec k).state ≠ .stopped ∨ s.comp.heldEsd = true ∨
    (s.compCfg k).budget ≤ (s.compRec k).marks.length) : supervisorStart k s = (s, .refuse) := by
  refine if_pos ?_
  simp only [Bool.or_eq_true, decide_eq_true_eq, State.exhausted, or_assoc]
  exact .inr refused

theorem supervisorStart_of_taken (clear : s.marked .compressors k = false) (stopped : (s.compRec k).state = .stopped)
    (calm : s.comp.heldEsd = false) (left : (s.compRec k).marks.length < (s.compCfg k).budget) :
    supervisorStart k s = (dutyEvaluation (beginStart k s), .pass) := by
  refine if_neg ?_
  simp [clear, stopped, calm, State.exhausted, left]

theorem becomeManual_of_manual (manual : (s.compRec k).mode = .manual) : becomeManual k s = s := if_pos manual

/-- An AUTO unit becomes MANUAL: its unsent SPEED is withdrawn and it leaves the duty order list (R118). -/
theorem becomeManual_of_auto (auto : (s.compRec k).mode = .auto) : becomeManual k s =
    let v := withdrawOwn (s.compRec k).entry isSpeed (s.onComp k fun y => { y with mode := .manual, stopPending := false })
    { v with comp := { v.comp with order := v.comp.order.filter fun j => decide (j ≠ k) } } := by
  refine if_neg ?_
  rw [auto]
  nofun

end

/-! ### Commands to valve sets (R98, R150) -/

theorem useTrain_of_sound {s : State} {d : Nat} (sound : s.foundBad .dryers d = false) : useTrain d s = s := by
  rw [useTrain, sound, if_neg Bool.false_ne_true]

section
variable {s : State} {i d : Nat}

theorem dryerCommand_of_none (p : List Octet) (free : s.trainOf i = none) : dryerCommand i p s = (s, .pass) := by
  rw [dryerCommand, free]

theorem dryerCommand_nil (found : s.trainOf i = some d) : dryerCommand i [] s = (useTrain d s, .pass) := by
  rw [dryerCommand, found]

/-- The named actions are the part's own and refused; others pass (R150). -/
theorem dryerCommand_cons {a : Octet} {more : List Octet} (found : s.trainOf i = some d) :
    dryerCommand i (a :: more) s =
      (useTrain d s, if 1 ≤ a.toNat ∧ a.toNat ≤ 6 then .refuse else .pass) := by
  rw [dryerCommand, found]
  simp

end

/-- A payload has fewer octets than its action needs (R214). -/
theorem commandTooShort_cons (a : Octet) (more : List Octet) (noLineup : a ≠ 6) :
    commandTooShort (a :: more) = true ↔ (a = 3 ∧ more.length < 2) ∨ ((a = 4 ∨ a = 5) ∧ more = []) := by
  rw [commandTooShort, decide_eq_true_eq, argumentOctets]
  by_cases three : a = 3
  · subst three
    simp
  rw [if_neg three]
  by_cases bed : a = 4 ∨ a = 5
  · rw [if_pos (bed.imp_right .inl), Nat.lt_one_iff, List.length_eq_zero_iff]
    exact ⟨fun empty => .inr ⟨bed, empty⟩, fun short => (short.resolve_left (three ·.1)).2⟩
  · rw [if_neg fun h => bed (h.imp_right (·.resolve_right noLineup))]
    exact ⟨fun none => absurd none (Nat.not_lt_zero _), fun short => short.elim (absurd ·.1 three) (absurd ·.1 bed)⟩

theorem stationCommand_cons (a : Octet) (more : List Octet) (s : State) : stationCommand (a :: more) s =
    (s, if a = 6 ∨ commandTooShort (a :: more) = true then .refuse else .pass) := rfl

/-! ### The obligation -/

/-- Settles O10: with room in the queue and a sound entry the command is carried out by the verdict of the controller of
its class; each clause is one verdict. -/
theorem supervisorCommandsAreJudged : Obligations.SupervisorCommandsAreJudged := by
  refine ⟨fun s f i room kind entry sound => ?_, fun s f i room kind entry bad alone => ?unknown⟩
  case unknown =>
    refine forwardDown_of_none room kind rfl ?_
    rw [lookupCheck_of_bad entry bad]
    exact entryAtAddr_unitFoundBad bad alone
  have carried := forwardDown_of_entry room kind entry sound
  intro passed refused
  have passes (g : Frame) (x : State) : joinDown g x = passed g x := rfl
  refine ⟨fun cls free => ?ungovernedCompressor, fun k cls found clean => ?compressor, fun k cls found bad noStop => ?badRecord,
    fun cls free => ?ungovernedValves, fun d cls found => ?valves, fun cls => ?station, fun cls => ?ungoverned⟩
  case ungovernedCompressor =>
    rw [carried, judge_of_compressor _ cls, compressorCommand_of_none _ free, carryVerdict_pass, passes]
  case compressor =>
    have used : useComp k s = s := useComp_of_sound clean
    rw [judge_of_compressor _ cls, compressorCommand_of_some _ found] at carried
    intro c
    refine ⟨fun marked noStop => ?marked, fun empty => ?empty, fun a more payload start stop speed => ?other,
      fun more payload few => ?short, fun hi lo more clear payload => ?speed, fun more clear payload => ?start,
      fun more payload => ?stop⟩
    case marked => rw [carried, judgeComp_of_marked used marked noStop, carryVerdict_refuse]
    case empty => rw [carried, empty, judgeComp_nil used, carryVerdict_refuse]
    case other => rw [carried, payload, judgeComp_other used more start stop speed, carryVerdict_refuse]
    case short => rw [carried, payload, judgeComp_speed used, supervisorSpeed_of_short few, carryVerdict_refuse]
    case speed =>
      intro rpm sent u
      rw [payload, judgeComp_speed used] at carried
      refine ⟨fun auto => ?_, fun manual fits => ?_, fun manual cut => ?_⟩
      · rw [carried, supervisorSpeed_of_auto _ auto, carryVerdict_refuse]
      · have verdict : supervisorSpeed k (3 :: hi :: lo :: more) s = (u, .pass) :=
          (supervisorSpeed_of_manual hi lo more clear manual).trans (if_pos fits)
        rw [carried, verdict, carryVerdict_pass, passes]
      · have verdict : supervisorSpeed k (3 :: hi :: lo :: more) s =
            (occur Src.speedClamped k u, .alter (3 :: (be 2 sent ++ more))) :=
          (supervisorSpeed_of_manual hi lo more clear manual).trans (if_neg cut)
        rw [carried, verdict, carryVerdict_alter, passes]
    case start =>
      rw [payload, judgeComp_start used] at carried
      refine ⟨fun no => ?_, fun stopped calm left => ?_⟩
      · rw [carried, supervisorStart_of_refused no, carryVerdict_refuse]
      · rw [carried, supervisorStart_of_taken clear stopped calm left, carryVerdict_pass, passes]
        rfl
    case stop =>
      intro u v
      have stopped : immediateStop k s = u := rfl
      rw [payload, judgeComp_stop used, supervisorStop, carryVerdict_pass, passes, stopped] at carried
      clear_value u
      refine ⟨fun manual => ?_, fun auto => ?_⟩
      · rw [carried, becomeManual_of_manual manual]
      · exact carried.trans (congrArg (fun x => passed f (dutyEvaluation x)) (becomeManual_of_auto auto))
  case badRecord =>
    intro x
    obtain ⟨-, inUse, -⟩ := compOf_spec found
    rw [carried, judge_of_compressor _ cls, compressorCommand_of_some _ found,
      judgeComp_of_marked rfl (useComp_marked bad inUse) noStop, carryVerdict_refuse, useComp_of_bad bad inUse,
      lockByParity_markEntry, markEntry_eq_occur, if_pos inUse]
  case ungovernedValves =>
    rw [carried, judge_of_dryerValves _ cls, dryerCommand_of_none _ free, carryVerdict_pass, passes]
  case valves =>
    rw [judge_of_dryerValves _ cls] at carried
    refine ⟨useTrain_of_sound, fun empty => ?_, fun a more payload => ⟨fun low high => ?_, fun other => ?_⟩⟩
    · rw [carried, empty, dryerCommand_nil found, carryVerdict_pass, passes]
    · rw [carried, payload, dryerCommand_cons found, if_pos ⟨low, high⟩, carryVerdict_refuse]
    · rw [carried, payload, dryerCommand_cons found, if_neg (by omega), carryVerdict_pass, passes]
  case station =>
    rw [judge_of_stationValves _ cls] at carried
    refine ⟨fun empty => ?_, fun a more payload => ?_⟩
    · rw [carried, empty, stationCommand, carryVerdict_pass, passes]
    intro short
    rw [payload, stationCommand_cons] at carried
    refine ⟨fun no => ?_, fun noLineup long => ?_⟩
    · have refuses : a = 6 ∨ commandTooShort (a :: more) = true :=
        (em (a = 6)).imp_right fun noLineup => (commandTooShort_cons a more noLineup).mpr (no.resolve_left noLineup)
      rw [carried, if_pos refuses, carryVerdict_refuse]
    · rw [carried, if_neg (not_or.mpr ⟨noLineup, mt (commandTooShort_cons a more noLineup).mp long⟩), carryVerdict_pass, passes]
  case ungoverned =>
    rw [carried, judge_of_ungoverned _ cls, carryVerdict_pass, passes]

end Sys2Proof.Machine

/-!
SUPPORT. A unit's entry that leaves PRESENT (R22, R25, R26): the departure itself, what it does to the entry's channels
(R36, R46) in one closed form, and the departure as the owner of the unit's class sees it.
-/

namespace Sys2Proof.Machine

/-! ### Occurrences beside own commands, channels and engine -/

/-- The state with the own command queue, the channels and the engine given. -/
def State.withField (s : State) (own : List OwnEntry) (chans : List ChannelState) (engine : EngineState) : State :=
  { s with own := own, chans := chans, engine := engine }

section
variable (s : State) (own : List OwnEntry) (chans : List ChannelState) (engine : EngineState)

theorem occurParity_withField (b : Nat) :
    occurParity b (s.withField own chans engine) = (occurParity b s).withField own chans engine := by
  unfold occurParity
  rw [apply_ite (State.withField · own chans engine)]
  rfl

/-- An occurrence does not look at own commands, channels or engine. -/
theorem occur_withField (n b : Nat) :
    occur n b (s.withField own chans engine) = (occur n b s).withField own chans engine := by
  have mark : (s.withField own chans engine).setMark .events n = (s.setMark .events n).withField own chans engine := rfl
  unfold occur
  rw [apply_ite (State.withField · own chans engine), apply_ite (State.withField · own chans engine), mark,
    occurParity_withField, occurParity_withField]
  rfl

end

theorem occurIf_only (c : Bool) (n b : Nat) (s : State) :
    occurIf c n b s = { s with parity := (occurIf c n b s).parity, ev := (occurIf c n b s).ev } := by
  cases c with
  | false => rfl
  | true => exact occur_only n b s

/-! ### Updates of one channel -/

theorem onChan_onChan (ch : Nat) (f g : ChannelState → ChannelState) (s : State) :
    (s.onChan ch f).onChan ch g = s.onChan ch (g ∘ f) := by
  simp [State.onChan, List.modify_modify_eq]

/-- An update is what it does to the channel's record. -/
theorem onChan_congr {s : State} {ch : Nat} {f g : ChannelState → ChannelState} (same : f (s.chan ch) = g (s.chan ch)) :
    s.onChan ch f = s.onChan ch g := by
  suffices s.chans.modify ch f = s.chans.modify ch g by rw [State.onChan, this, State.onChan]
  refine List.ext_getElem? fun j => ?_
  simp only [List.getElem?_modify]
  cases record : s.chans[j]? with
  | none => rfl
  | some c =>
    by_cases here : ch = j
    · subst here
      have read : s.chan ch = c := by rw [State.chan, List.getD_eq_getElem?_getD, record]; rfl
      rw [read] at same
      simp [same]
    · simp [here]

/-! ### The channels of a unit that departs (R36, R46) -/

/-- The channel in use belongs to unit entry `e`. -/
def State.ownsChannel (s : State) (e ch : Nat) : Bool := (s.chCfg ch).inUse && decide ((s.chCfg ch).unit = e)

/-- A channel's record once its unit has departed. -/
def ChannelState.dropped (c : ChannelState) : ChannelState := { c with
  pendingItem := none
  request := if c.request = .waiting then .none else c.request }

/-- The departure of entry `e` takes a waiting request of the channel with it. -/
def State.losesRequest (s : State) (e ch : Nat) : Bool :=
  s.ownsChannel e ch && decide ((s.chan ch).request = .waiting)

/-- The turn of one channel in a departure. -/
def channelDeparted (e ch : Nat) (s : State) : State :=
  if s.ownsChannel e ch then withdrawRequest ch (dropPending ch s) else s

theorem channelsDeparted_eq_foldl (e : Nat) (s : State) :
    channelsDeparted e s = (List.range 64).foldl (fun t ch => channelDeparted e ch t) s := rfl

/-- What the departure of entry `e` makes of the lowest `n` channels, the completion of a sweep apart. -/
def State.afterDeparture (s : State) (e n : Nat) : State :=
  s.withField s.own (s.chans.mapIdx fun ch c => if ch < n ∧ s.ownsChannel e ch = true then c.dropped else c)
    { s.engine with remaining := s.engine.remaining.filter fun ch => !(decide (ch < n) && s.losesRequest e ch) }

/-- A sweep completes when a step empties its remaining set (R46). -/
def sweepEnd (before after : State) : State :=
  occurIf (!before.engine.remaining.isEmpty && after.engine.remaining.isEmpty) Src.sweepDone noSubject after

/-- The completion of a sweep writes event records and parity marks alone. -/
theorem sweepEnd_only (before after : State) : sweepEnd before after = { after with
    parity := (sweepEnd before after).parity, ev := (sweepEnd before after).ev } := occurIf_only _ _ _ _

/-- What the turn of one channel makes of channels and engine, the completion of a sweep apart. -/
def State.departOne (s : State) (e ch : Nat) : State :=
  s.withField s.own (if s.ownsChannel e ch then s.chans.modify ch ChannelState.dropped else s.chans)
    { s.engine with remaining := s.engine.remaining.filter fun c => !(decide (c = ch) && s.losesRequest e c) }

section
variable {before after : State}

theorem sweepEnd_of_emptied (listed : before.engine.remaining ≠ []) (emptied : after.engine.remaining = []) :
    sweepEnd before after = occur Src.sweepDone noSubject after := by
  rw [sweepEnd, List.isEmpty_eq_false_iff.mpr listed, emptied]
  rfl

theorem sweepEnd_of_going (going : before.engine.remaining = [] ∨ after.engine.remaining ≠ []) :
    sweepEnd before after = after := by
  rcases going with idle | listed
  · rw [sweepEnd, idle]
    rfl
  · rw [sweepEnd, List.isEmpty_eq_false_iff.mpr listed, Bool.and_false]
    rfl

theorem sweepEnd_of_same (same : after.engine.remaining = before.engine.remaining) : sweepEnd before after = after :=
  sweepEnd_of_going (by rw [same]; exact em _)

end

/-- A count in a sweep is the channel out of the remaining set, and the completion where that empties it (R46). -/
theorem sweepCounts_eq (ch : Nat) (s : State) : sweepCounts ch s = sweepEnd s (s.withField s.own s.chans { s.engine with
    remaining := s.engine.remaining.filter fun c => decide (c ≠ ch) }) := by
  unfold sweepCounts
  by_cases listed : ch ∈ s.engine.remaining
  case pos =>
    have filled : s.engine.remaining.isEmpty = false := List.isEmpty_eq_false_iff.mpr (List.ne_nil_of_mem listed)
    rw [if_pos (List.contains_iff_mem.mpr listed), sweepEnd, filled]
    rfl
  case neg =>
    have same : (s.engine.remaining.filter fun c => decide (c ≠ ch)) = s.engine.remaining :=
      List.filter_eq_self.mpr fun c member => decide_eq_true fun here => listed (here ▸ member)
    rw [if_neg (mt List.contains_iff_mem.mp listed), same]
    exact (sweepEnd_of_same rfl).symm

/-- A channel that loses no request stays where it is in the remaining set of a sweep. -/
theorem departOne_of_keeps {s : State} {e ch : Nat} (keeps : s.losesRequest e ch = false) : s.departOne e ch =
    s.withField s.own (if s.ownsChannel e ch then s.chans.modify ch ChannelState.dropped else s.chans) s.engine := by
  have kept : (s.engine.remaining.filter fun c => !(decide (c = ch) && s.losesRequest e c)) = s.engine.remaining :=
    List.filter_eq_self.mpr fun c _ => by
      by_cases here : c = ch
      · simp [here, keeps]
      · simp [here]
  rw [State.departOne, kept]

/-- A waiting request takes its channel out of the remaining set. -/
theorem departOne_of_waiting {s : State} {e ch : Nat} (owned : s.ownsChannel e ch = true)
    (waits : (s.chan ch).request = .waiting) : s.departOne e ch =
      s.withField s.own (s.onChan ch ChannelState.dropped).chans { s.engine with
        remaining := s.engine.remaining.filter fun c => decide (c ≠ ch) } := by
  have left : (s.engine.remaining.filter fun c => !(decide (c = ch) && s.losesRequest e c)) =
      s.engine.remaining.filter fun c => decide (c ≠ ch) :=
    List.filter_congr fun c _ => by
      by_cases here : c = ch
      · simp [here, State.losesRequest, owned, waits]
      · simp [here]
  rw [State.departOne, owned, left]
  rfl

theorem channelDeparted_eq (e ch : Nat) (s : State) : channelDeparted e ch s = sweepEnd s (s.departOne e ch) := by
  unfold channelDeparted
  cases owns : s.ownsChannel e ch
  case false =>
    rw [departOne_of_keeps (by simp [State.losesRequest, owns]), owns]
    exact (sweepEnd_of_same rfl).symm
  case true =>
    have request : ((dropPending ch s).chan ch).request = (s.chan ch).request := by
      rw [dropPending, State.chan_onChan]
      split <;> rfl
    by_cases waits : (s.chan ch).request = .waiting
    · have drop : (dropPending ch s).onChan ch (fun c => { c with request := .none }) = s.onChan ch ChannelState.dropped :=
        (onChan_onChan ch _ _ s).trans (onChan_congr (by simp [ChannelState.dropped, waits]))
      rw [if_pos rfl, withdrawRequest, if_pos (request.trans waits), drop, sweepCounts_eq, departOne_of_waiting owns waits]
      rfl
    · have drop : dropPending ch s = s.onChan ch ChannelState.dropped :=
        onChan_congr (by simp [ChannelState.dropped, waits])
      rw [if_pos rfl, withdrawRequest, request, if_neg waits, departOne_of_keeps (by simp [State.losesRequest, waits]),
        owns, drop]
      exact (sweepEnd_of_same rfl).symm

theorem departOne_occur (n b e ch : Nat) (s : State) : (occur n b s).departOne e ch = occur n b (s.departOne e ch) := by
  have only := occur_only n b s
  unfold State.departOne
  rw [occur_withField]
  generalize occur n b s = t at only ⊢
  rw [only]
  rfl

theorem afterDeparture_chan (s : State) (e n j : Nat) : (s.afterDeparture e n).chan j =
    if j < n ∧ s.ownsChannel e j = true then (s.chan j).dropped else s.chan j := by
  simp only [State.afterDeparture, State.withField, State.chan, List.getD_eq_getElem?_getD, List.getElem?_mapIdx]
  cases s.chans[j]? with
  | none => simp [ChannelState.dropped, ChannelState.initial]
  | some c => rfl

theorem afterDeparture_succ (s : State) (e n : Nat) :
    (s.afterDeparture e n).departOne e n = s.afterDeparture e (n + 1) := by
  have owns : (s.afterDeparture e n).ownsChannel e n = s.ownsChannel e n := rfl
  have loses (c : Nat) : (decide (c = n) && (s.afterDeparture e n).losesRequest e c) =
      (decide (c = n) && s.losesRequest e c) := by
    by_cases here : c = n
    · subst here
      rw [State.losesRequest, afterDeparture_chan, if_neg (by omega)]
      rfl
    · simp [here]
  have chans : (if s.ownsChannel e n then (s.afterDeparture e n).chans.modify n ChannelState.dropped
      else (s.afterDeparture e n).chans) = (s.afterDeparture e (n + 1)).chans := by
    refine List.ext_getElem? fun j => ?_
    rw [apply_ite (·[j]?)]
    simp only [State.afterDeparture, State.withField, List.getElem?_modify, List.getElem?_mapIdx]
    by_cases here : n = j
    · subst here
      cases s.ownsChannel e n <;> cases s.chans[n]? <;> simp
    · have below : j < n + 1 ↔ j < n := by omega
      simp [here, below]
  have engine : (s.afterDeparture e n).engine.remaining.filter (fun c => !(decide (c = n) && s.losesRequest e c)) =
      (s.afterDeparture e (n + 1)).engine.remaining := by
    simp only [State.afterDeparture, State.withField, List.filter_filter]
    refine List.filter_congr fun c _ => ?_
    rw [← Bool.not_or, ← Bool.and_or_distrib_right, ← Bool.decide_or]
    simp only [Nat.lt_succ_iff_lt_or_eq, or_comm]
  unfold State.departOne
  simp only [loses, owns, chans, engine]
  rfl

theorem foldl_channelDeparted (e n : Nat) (s : State) :
    (List.range n).foldl (fun t ch => channelDeparted e ch t) s = sweepEnd s (s.afterDeparture e n) := by
  induction n with
  | zero =>
    have chans : (s.chans.mapIdx fun _ c => c) = s.chans := List.ext_getElem? fun j => by simp
    have same : s.afterDeparture e 0 = s := by simp [State.afterDeparture, State.withField, chans]
    rw [same, sweepEnd_of_same rfl]
    rfl
  | succ n ih =>
    have turn : (List.range (n + 1)).foldl (fun t ch => channelDeparted e ch t) s =
        channelDeparted e n (sweepEnd s (s.afterDeparture e n)) := by
      rw [List.range_succ, List.foldl_append, ih]
      rfl
    rw [turn, channelDeparted_eq]
    by_cases ended : s.engine.remaining ≠ [] ∧ (s.afterDeparture e n).engine.remaining = []
    case neg =>
      have going : s.engine.remaining = [] ∨ (s.afterDeparture e n).engine.remaining ≠ [] := by
        rwa [not_and_or, not_not] at ended
      have both : (s.afterDeparture e n).engine.remaining.isEmpty = s.engine.remaining.isEmpty := by
        rcases going with idle | listed
        · simp [State.afterDeparture, State.withField, idle]
        · have before : s.engine.remaining ≠ [] := fun idle =>
            listed (by simp [State.afterDeparture, State.withField, idle])
          rw [List.isEmpty_eq_false_iff.mpr listed, List.isEmpty_eq_false_iff.mpr before]
      rw [sweepEnd_of_going going, afterDeparture_succ, sweepEnd, both]
      rfl
    case pos =>
      obtain ⟨listed, emptied⟩ := ended
      have stays : (s.afterDeparture e (n + 1)).engine.remaining = [] := by
        rw [← afterDeparture_succ, State.departOne, emptied]
        rfl
      have done : (occur Src.sweepDone noSubject (s.afterDeparture e n)).engine.remaining = [] := by
        rw [occur_only]
        exact emptied
      rw [sweepEnd_of_emptied listed emptied, sweepEnd_of_going (.inl done), departOne_occur, afterDeparture_succ,
        sweepEnd_of_emptied listed stays]

/-- What the departure of an entry makes of channels and engine, in one. -/
theorem channelsDeparted_eq (e : Nat) (s : State) : channelsDeparted e s = sweepEnd s (s.afterDeparture e 64) :=
  foldl_channelDeparted e 64 s

section
variable (e : Nat) (s : State)

theorem departed_only : channelsDeparted e (withdrawAll e s) = { s with
    own := (channelsDeparted e (withdrawAll e s)).own
    chans := (channelsDeparted e (withdrawAll e s)).chans
    engine := { s.engine with remaining := (channelsDeparted e (withdrawAll e s)).engine.remaining }
    ev := (channelsDeparted e (withdrawAll e s)).ev
    parity := (channelsDeparted e (withdrawAll e s)).parity } := by
  rw [channelsDeparted_eq, sweepEnd_only]
  rfl

theorem departed_owners : (channelsDeparted e (withdrawAll e s)).tables = s.tables ∧
    (channelsDeparted e (withdrawAll e s)).comp = s.comp ∧ (channelsDeparted e (withdrawAll e s)).dry = s.dry ∧
    (channelsDeparted e (withdrawAll e s)).mode = s.mode := by
  rw [channelsDeparted_eq, sweepEnd_only]
  exact ⟨rfl, rfl, rfl, rfl⟩

theorem departed_own : (channelsDeparted e (withdrawAll e s)).own = s.own.filter fun x => decide (x.target ≠ e) := by
  rw [channelsDeparted_eq, sweepEnd_only]
  exact List.filter_congr fun x _ => by simp

theorem departed_chan (ch : Nat) : (channelsDeparted e (withdrawAll e s)).chan ch =
    if ch < 64 ∧ s.ownsChannel e ch = true then (s.chan ch).dropped else s.chan ch := by
  rw [channelsDeparted_eq, sweepEnd_only]
  exact afterDeparture_chan (withdrawAll e s) e 64 ch

theorem departed_remaining : (channelsDeparted e (withdrawAll e s)).engine.remaining =
    s.engine.remaining.filter fun ch => !(decide (ch < 64) && s.losesRequest e ch) := by
  rw [channelsDeparted_eq, sweepEnd_only]
  rfl

variable {e s}

theorem departed_ev_of_going (going : s.engine.remaining = [] ∨
    (channelsDeparted e (withdrawAll e s)).engine.remaining ≠ []) :
    (channelsDeparted e (withdrawAll e s)).ev = s.ev := by
  rw [departed_remaining] at going
  rw [channelsDeparted_eq, sweepEnd_of_going going]
  rfl

theorem departed_ev_of_emptied (listed : s.engine.remaining ≠ [])
    (emptied : (channelsDeparted e (withdrawAll e s)).engine.remaining = []) :
    (channelsDeparted e (withdrawAll e s)).ev = (occur Src.sweepDone noSubject s).ev := by
  rw [departed_remaining] at emptied
  rw [channelsDeparted_eq, sweepEnd_of_emptied (before := withdrawAll e s) listed emptied]
  exact (congrArg State.ev (occur_withField s _ _ _ _ _)).trans rfl

end

/-! ### The departure of an entry (R22, R25, R26) -/

section
variable {s : State} {i : Nat}

/-- The entry once it is gone, before its owners act. -/
def goneEntry (i : Nat) (s : State) : State := occur Src.unitDeparted i
  (s.onUnit i fun x => { x with attach := .absent, departed := true, silence := none })

theorem examine_of_depart {f : Frame} (kind : f.kind = kindDepart) (i : Nat) (s : State) :
    examine i f s = departEntry i s := by
  have code : kindDepart ≠ kindAnnounce := by decide
  rw [examine, kind, if_neg code, if_pos rfl]

theorem departEntry_of_absent (absent : (s.unit i).attach = .absent) : departEntry i s = s := if_pos absent

theorem departEntry_of_notPresent (other : (s.unit i).attach = .held ∨ (s.unit i).attach = .mismatch) :
    departEntry i s = goneEntry i s := by
  have known : (s.unit i).attach ≠ .absent ∧ (s.unit i).attach ≠ .present := by
    rcases other with state | state <;> simp [state]
  rw [departEntry, if_neg known.1, entryGone, if_neg known.2]
  rfl

theorem departEntry_of_present (present : (s.unit i).attach = .present) :
    departEntry i s = leavePresent i (s.unitCfg i).cls (goneEntry i s) := by
  rw [departEntry, present, if_neg (by decide), entryGone, if_pos rfl]
  rfl

theorem exec_silenceTimeout (place : i < 48) : exec (.silenceTimeout i) s =
    .next (if fires s.now (s.unit i).silence then departEntry i s else s) := by
  have arm : exec (.silenceTimeout i) s = execSilenceTimeout i s := rfl
  rw [arm, execSilenceTimeout, if_neg (Nat.not_le.mpr place)]

end

/-! ### The owners of a departed unit (R97, R116, R152) -/

section
variable {s : State} {e : Nat}

theorem compOf_congr {s t : State} (tables : t.tables = s.tables) (comp : t.comp = s.comp) (e : Nat) :
    t.compOf e = s.compOf e := by
  unfold State.compOf State.compInUse State.compCfg State.compEntry State.compRec
  rw [tables, comp]

theorem trainOf_congr {s t : State} (tables : t.tables = s.tables) (e : Nat) : t.trainOf e = s.trainOf e := by
  unfold State.trainOf State.trainInUse State.dryerCfg
  rw [tables]

/-- A compressor's record once its unit has departed; `lost` tells of an operation in flight. -/
def CompRec.departed (lost : Bool) (r : CompRec) : CompRec := { r with
  state := .unavailable
  stopPending := false
  lastSpeed := none
  tStart := none
  tStop := none
  tMinRun := none
  tCool := none
  lostOp := r.lostOp || lost
  lockHeld := r.lockHeld || decide (r.state = .lockedOut) }

theorem compDeparted_of_none (free : s.compOf e = none) : compDeparted e s = s := by
  rw [compDeparted, free]

theorem compDeparted_of_some {k : Nat} {lost : Bool} (found : s.compOf e = some k)
    (inFlight : lost = true ↔ (s.compRec k).state = .starting ∨ (s.compRec k).state = .running ∨
      (s.compRec k).state = .unloading) :
    compDeparted e s = dutyEvaluation (occurIf lost Src.operationLost k (s.onComp k (CompRec.departed lost))) := by
  have flag : (decide ((s.compRec k).state = .starting) || decide ((s.compRec k).state = .running) ||
      decide ((s.compRec k).state = .unloading)) = lost := by
    rw [Bool.eq_iff_iff, inFlight]
    simp [or_assoc]
  rw [compDeparted, found]
  dsimp only
  rw [flag]
  rfl

theorem dryDeparted_of_none (free : s.trainOf e = none) : dryDeparted e s = s := by
  rw [dryDeparted, free]

theorem dryDeparted_of_some {d : Nat} (found : s.trainOf e = some d) : dryDeparted e s =
    evalTrain d (occurIf (s.train d).switch.isSome Src.operationLost d (s.onTrain d Train.unsync)) := by
  rw [dryDeparted, found]

theorem stationDeparted_of_lineup {d : Dir} (lineup : s.mode.mode = .transition d .lineup) : stationDeparted s =
    occur Src.transitionFailed noSubject (tellMode .shutIn (offerLineup .shut (stopModeTimers s))) := by
  rw [stationDeparted, lineup]
  rfl

theorem stationDeparted_of_other (other : ∀ d, s.mode.mode ≠ .transition d .lineup) : stationDeparted s = s := by
  unfold stationDeparted
  split
  next d lineup => exact absurd lineup (other d)
  next => rfl

end

/-! ### The leaving of PRESENT by class (R26) -/

section
variable (i : Nat) (s : State)

theorem leavePresent_compressor :
    leavePresent i .compressor s = compDeparted i (channelsDeparted i (withdrawAll i s)) := rfl

theorem leavePresent_dryerValves :
    leavePresent i .dryerValves s = dryDeparted i (channelsDeparted i (withdrawAll i s)) := rfl

theorem leavePresent_stationValves :
    leavePresent i .stationValves s = stationDeparted (channelsDeparted i (withdrawAll i s)) := rfl

theorem leavePresent_of_noOwner : ∀ c ∈ [UnitClass.meter, .transmitter, .analyser, .generic],
    leavePresent i c s = channelsDeparted i (withdrawAll i s) := by
  simp [leavePresent]

end

/-! ### The obligation -/

/-- Settles O12: an entry that is not ABSENT is gone, and its owners act on what the departure leaves of the channels. -/
theorem unitsDepart : Obligations.UnitsDepart := by
  refine ⟨?entry, ?owners⟩
  case entry =>
    intro s i place gone left
    have absent : (s.unit i).attach = .absent → departEntry i s = s := departEntry_of_absent
    have other : (s.unit i).attach = .held ∨ (s.unit i).attach = .mismatch → departEntry i s = gone :=
      departEntry_of_notPresent
    have present : (s.unit i).attach = .present → departEntry i s = left := departEntry_of_present
    refine ⟨fun f kind => ?frame, fun running => ?running, fun expired => ?expired, (leavePresent_frame i _ gone).units⟩
    case frame =>
      rw [examine_of_depart kind]
      exact ⟨absent, other, present⟩
    case running => rw [exec_silenceTimeout place, running, if_neg Bool.false_ne_true]
    case expired =>
      rw [exec_silenceTimeout place, if_pos expired]
      exact ⟨fun h => congrArg _ (absent h), fun h => congrArg _ (other h), fun h => congrArg _ (present h)⟩
  case owners =>
    intro s i chans
    have only := departed_only i s
    have own := departed_own i s
    have chan := departed_chan i s
    have listed := departed_remaining i s
    have going := departed_ev_of_going (e := i) (s := s)
    have emptied := departed_ev_of_emptied (e := i) (s := s)
    have kept := departed_owners i s
    have noOwner := leavePresent_of_noOwner i s
    rw [leavePresent_compressor, leavePresent_dryerValves, leavePresent_stationValves]
    generalize channelsDeparted i (withdrawAll i s) = w at *
    intro _ itsChannel
    obtain ⟨tables, comp, dry, mode⟩ := kept
    have record (k : Nat) : w.compRec k = s.compRec k := by rw [State.compRec, comp, State.compRec]
    have train (d : Nat) : w.train d = s.train d := by rw [State.train, dry, State.train]
    have duty : w.compOf i = s.compOf i := compOf_congr tables comp i
    have drying : w.trainOf i = s.trainOf i := trainOf_congr tables i
    have owns (ch : Nat) : s.ownsChannel i ch = true ↔ itsChannel ch := by simp [State.ownsChannel, itsChannel]
    refine ⟨only, own, fun ch place => ⟨fun other => ?other, fun its => ?its⟩, fun ch => ?remaining,
      going, emptied, fun free => ?noComp, fun k found => ?compressor,
      fun free => ?noTrain, fun d found => ?train, fun d lineup => ?lineup, fun other => ?noLineup,
      noOwner⟩
    case other => exact (chan ch).trans (if_neg fun owned => other ((owns ch).mp owned.2))
    case its => exact (chan ch).trans (if_pos ⟨place, (owns ch).mpr its⟩)
    case remaining =>
      have place : (s.chan ch).request = .waiting → ch < 64 := fun waits => Nat.lt_of_not_le fun outside => by
        rw [State.chan, List.getD_eq_default _ _ (by omega)] at waits
        cases waits
      have loses : (decide (ch < 64) && s.losesRequest i ch) = true ↔
          (s.chCfg ch).inUse = true ∧ (s.chCfg ch).unit = i ∧ (s.chan ch).request = .waiting := by
        simp only [State.losesRequest, State.ownsChannel, Bool.and_eq_true, decide_eq_true_eq]
        exact ⟨fun ⟨_, ⟨inUse, unit⟩, waits⟩ => ⟨inUse, unit, waits⟩,
          fun ⟨inUse, unit, waits⟩ => ⟨place waits, ⟨inUse, unit⟩, waits⟩⟩
      rw [← loses, listed, List.mem_filter, Bool.not_eq_true, Bool.not_eq_true']
    case noComp => exact compDeparted_of_none (duty.trans free)
    case compressor =>
      intro lost t
      constructor
      · exact fun flight => compDeparted_of_some (lost := true) (duty.trans found) (by simpa [record] using flight)
      · exact fun calm => compDeparted_of_some (lost := false) (duty.trans found) (by simpa [record, lost] using calm)
    case noTrain => exact dryDeparted_of_none (drying.trans free)
    case train =>
      intro t
      have departed := dryDeparted_of_some (drying.trans found)
      rw [train] at departed
      constructor
      · intro switching
        rwa [Option.isSome_iff_ne_none.mpr switching] at departed
      · intro idle
        rwa [idle] at departed
    case lineup => exact stationDeparted_of_lineup (by rw [mode, lineup])
    case noLineup => exact stationDeparted_of_other fun d => by rw [mode]; exact other d

end Sys2Proof.Machine

/-!
SUPPORT. The items of a SAMPLE frame (R34), and the arrival, acceptance and pending item of a channel (R35, R37, R40,
R41) by what its entry check finds (R37, R53).
-/

namespace Sys2Proof.Machine

/-! ### The items of a SAMPLE frame (R34) -/

theorem examine_of_sample {s : State} {e : Nat} {f : Frame} (kind : f.kind = kindSample)
    (present : (s.unit e).attach = .present) : examine e f s = sampleFrame e f.payload s := by
  have code : kindSample ≠ kindAnnounce ∧ kindSample ≠ kindDepart := by decide
  have here : s.present e = true := decide_eq_true present
  rw [examine, kind, if_neg code.1, if_neg code.2, if_pos rfl, if_pos here]

/-- A trailing part of an item is ignored. -/
theorem sampleItems_of_short {p : List Octet} (short : p.length < 5) : sampleItems p = [] := by
  unfold sampleItems
  split
  next => simp at short; omega
  next => rfl

theorem sampleFrame_cons (e : Nat) (l q b1 b2 b3 : Octet) (rest : List Octet) (s : State) :
    sampleFrame e (l :: q :: b1 :: b2 :: b3 :: rest) s =
      sampleFrame e rest (takeItem e s (l.toNat, ⟨ofBeInt [b1, b2, b3], q⟩)) := rfl

/-- The channel is in use and holds the pair of unit entry and local index. -/
def State.holdsPair (s : State) (e ix ch : Nat) : Prop :=
  (s.chCfg ch).inUse = true ∧ (s.chCfg ch).unit = e ∧ (s.chCfg ch).localIx = ix

section
variable {s : State} {e ix : Nat}

theorem holdsPair_iff (ch : Nat) : ((s.chCfg ch).inUse && decide ((s.chCfg ch).unit = e) &&
    decide ((s.chCfg ch).localIx = ix)) = true ↔ s.holdsPair e ix ch := by
  simp [State.holdsPair, and_assoc]

/-- The channel of an item is the lowest one that holds its pair. -/
theorem channelAt_eq_some {ch : Nat} (place : ch < 64) (holds : s.holdsPair e ix ch)
    (first : ∀ j < ch, ¬s.holdsPair e ix j) : s.channelAt e ix = some ch := by
  rw [State.channelAt, List.find?_range_eq_some]
  refine ⟨(holdsPair_iff ch).mpr holds, List.mem_range.mpr place, fun j below => ?_⟩
  rw [Bool.not_eq_true', ← Bool.not_eq_true, holdsPair_iff]
  exact first j below

theorem channelAt_eq_none (free : ∀ ch < 64, ¬s.holdsPair e ix ch) : s.channelAt e ix = none := by
  rw [State.channelAt, List.find?_range_eq_none]
  intro ch place
  rw [Bool.not_eq_true', ← Bool.not_eq_true, holdsPair_iff]
  exact free ch place

theorem takeItem_of_outside {item : Item} (outside : 16 ≤ ix ∨ ∀ id, (s.unit e).identity = some id → id.channels ≤ ix) :
    takeItem e s (ix, item) = s := by
  refine if_pos (outside.imp_right fun learned => ?_)
  cases identity : (s.unit e).identity with
  | none => exact Nat.zero_le _
  | some id => exact learned id identity

theorem takeItem_of_none {item : Item} (free : s.channelAt e ix = none) : takeItem e s (ix, item) = s := by
  rw [takeItem, free, ite_self]

theorem takeItem_of_some {item : Item} {id : Identity} {ch : Nat} (small : ix < 16)
    (identity : (s.unit e).identity = some id) (learned : ix < id.channels) (found : s.channelAt e ix = some ch) :
    takeItem e s (ix, item) = arrive ch item s := by
  rw [takeItem, identity, found, if_neg (by dsimp only; omega)]

end

/-! ### What the check of a channel's entry leaves (R37) -/

theorem occurIf_parity (c : Bool) (n b : Nat) (s : State) {t : TableId} (other : t ≠ .events) :
    (occurIf c n b s).parity.get t = s.parity.get t := by
  cases c with
  | false => rfl
  | true => exact occur_parity n b s other

theorem withdrawRequest_parity (ch : Nat) (s : State) {t : TableId} (other : t ≠ .events) :
    (withdrawRequest ch s).parity.get t = s.parity.get t := by
  unfold withdrawRequest
  split
  · rw [sweepCounts_eq]
    exact occurIf_parity _ _ _ _ other
  · rfl

/-- A use leaves an entry that was marked, or that it finds bad, marked. -/
theorem useChannel_marked {s : State} {ch : Nat} (unsound : s.foundBad .channels ch = true ∨ s.marked .channels ch = true) :
    (useChannel ch s).marked .channels ch = true := by
  by_cases bad : s.foundBad .channels ch = true
  · have mark : (useChannel ch s).parity.get .channels = (markEntry .channels ch ch s).parity.get .channels := by
      rw [useChannel, if_pos bad]
      exact withdrawRequest_parity ch _ (by decide)
    rw [marked_congr mark, (markEntry_spec s ch ch ch bad (by decide)).1]
    simp
  · have marked := unsound.resolve_left bad
    rwa [useChannel_of_sound (not_foundBad_of_marked marked)]

theorem useChannel_chCfg (ch j : Nat) (s : State) : (useChannel ch s).chCfg j = s.chCfg j := by
  rw [State.chCfg, (useChannel_frame ch s).tables, State.chCfg]

theorem useChannel_chan_of_bad {s : State} {ch : Nat} (bad : s.foundBad .channels ch = true)
    (place : ch < s.chans.length) : (setBad ch (useChannel ch s)).chan ch = (s.chan ch).found := by
  have used : (useChannel ch s).chan ch = (s.chan ch).found := by
    rw [useChannel_chan, if_pos ⟨bad, rfl, place⟩]
  rw [setBad, State.chan_onChan, used]
  split <;> rfl

/-! ### Acceptance (R35, R40, R42, R53) -/

/-- The record of channel `ch` once it has taken an item. -/
def State.taken (s : State) (ch : Nat) (item : Item) (c : ChannelState) : ChannelState := { c with
  raw := item.raw
  rawQ := item.quality
  pendingItem := none
  lastAccept := some s.time.count
  intervalUntil := startTimer s.now (s.chCfg ch).minInterval
  ageStart := some s.now }

theorem accept_eq (ch : Nat) (item : Item) (s : State) : accept ch item s = proceed ch (s.onChan ch (s.taken ch item)) := rfl

/-- An acceptance starts the interval timer anew, whatever it was. -/
theorem accept_onInterval (ch : Nat) (item : Item) (timer : Option Nat) (s : State) :
    accept ch item (s.onChan ch fun c => { c with intervalUntil := timer }) = accept ch item s :=
  congrArg (proceed ch) (onChan_onChan ch _ _ s)

theorem request_of_free {s : State} {ch : Nat} (free : s.busy ch = false) : (s.chan ch).request = .none := by
  simp only [State.busy, Bool.or_eq_false_iff, decide_eq_false_iff_not, not_not] at free
  exact free.1.2

section
variable {s : State} {ch : Nat} (item : Item)

theorem accept_of_process (cls : (s.chCfg ch).cls = .process) (free : s.busy ch = false) : accept ch item s =
    s.onChan ch fun c => { s.taken ch item c with request := .waiting } := by
  have kind : ((s.onChan ch (s.taken ch item)).chCfg ch).cls = .process := cls
  rw [accept_eq, proceed, kind]
  dsimp only
  rw [onChan_onChan]
  exact onChan_congr (by simp [State.taken, request_of_free free])

theorem accept_of_survey (cls : (s.chCfg ch).cls = .survey) : accept ch item s =
    s.onChan ch fun c => { s.taken ch item c with unconditioned := true } := by
  have kind : ((s.onChan ch (s.taken ch item)).chCfg ch).cls = .survey := cls
  rw [accept_eq, proceed, kind]
  exact onChan_onChan ch _ _ s

theorem accept_of_custody (cls : (s.chCfg ch).cls = .custody) :
    accept ch item s = beginCustody ch (s.onChan ch (s.taken ch item)) := by
  have kind : ((s.onChan ch (s.taken ch item)).chCfg ch).cls = .custody := cls
  rw [accept_eq, proceed, kind]

theorem beginCustody_of_unsound (unsound : s.foundBad .channels ch = true ∨ s.marked .channels ch = true) :
    beginCustody ch s = completionNotices ch (setBad ch (useChannel ch s)) :=
  if_pos (useChannel_marked unsound)

theorem beginCustody_of_sound (sound : s.foundBad .channels ch = false) (clear : s.marked .channels ch = false) :
    beginCustody ch s = (useFilter (s.chCfg ch).profile s).onChan ch fun c =>
      { c with custody := some ((useFilter (s.chCfg ch).profile s).conditioning ch) } := by
  rw [beginCustody, useChannel_of_sound sound, clear]
  rfl

theorem chan_onChan_same (f : ChannelState → ChannelState) (place : ch < s.chans.length) :
    (s.onChan ch f).chan ch = f (s.chan ch) := by
  rw [State.chan_onChan, if_pos ⟨rfl, place⟩]

theorem useFilter_of_sound {p : Nat} (sound : p = 0 ∨ s.foundBad .filters (p - 1) = false) : useFilter p s = s := by
  unfold useFilter
  rcases sound with unfiltered | sound
  · rw [if_pos unfiltered]
  · rw [sound, if_neg Bool.false_ne_true, ite_self]

/-- A filter profile found bad where a conditioning begins: the profile's number is the subject (R53). -/
theorem useFilter_of_bad {p : Nat} (bad : s.foundBad .filters p = true) :
    useFilter (p + 1) s = occur Src.tableParity (p + 1) (s.setMark .filters p) := by
  rw [useFilter, if_neg p.succ_ne_zero, Nat.add_sub_cancel, if_pos bad, markEntry_eq_occur]

theorem filterUse_useFilter_of_bad {p : Nat} (bad : s.foundBad .filters p = true) :
    (useFilter (p + 1) s).filterUse (p + 1) = ⟨some (s.tables.filters.getD p .passing), true⟩ := by
  have used : useFilter (p + 1) s = markEntry .filters p (p + 1) s := by
    rw [useFilter_of_bad bad, markEntry_eq_occur]
  have marked : (markEntry .filters p (p + 1) s).marked .filters p = true := by
    rw [(markEntry_spec s p p (p + 1) bad (by decide)).1]
    simp
  rw [used, State.filterUse, if_neg p.succ_ne_zero, Nat.add_sub_cancel, marked, markEntry_only]

theorem useFilter_kept (p : Nat) (s : State) :
    (useFilter p s).chans = s.chans ∧ (useFilter p s).tables = s.tables :=
  ⟨(useFilter_frame p s).chans, (useFilter_frame p s).tables⟩

/-- What a conditioning begins with behind an acceptance (R42, R49). -/
theorem beginCustody_taken (place : ch < s.chans.length) (sound : s.foundBad .channels ch = false)
    (clear : s.marked .channels ch = false) :
    beginCustody ch (s.onChan ch (s.taken ch item)) =
      (useFilter (s.chCfg ch).profile (s.onChan ch (s.taken ch item))).onChan ch fun c => { c with
        custody := some ⟨item.raw, item.quality, s.chCfg ch,
          (useFilter (s.chCfg ch).profile (s.onChan ch (s.taken ch item))).filterUse (s.chCfg ch).profile, false⟩ } := by
  have cfg : (s.onChan ch (s.taken ch item)).chCfg ch = s.chCfg ch := rfl
  obtain ⟨chans, tables⟩ := useFilter_kept (s.chCfg ch).profile (s.onChan ch (s.taken ch item))
  have record : (useFilter (s.chCfg ch).profile (s.onChan ch (s.taken ch item))).chan ch = s.taken ch item (s.chan ch) := by
    rw [State.chan, chans]
    exact chan_onChan_same _ place
  have same : (useFilter (s.chCfg ch).profile (s.onChan ch (s.taken ch item))).chCfg ch = s.chCfg ch := by
    rw [State.chCfg, tables]
    rfl
  have begins : beginCustody ch (s.onChan ch (s.taken ch item)) = _ := beginCustody_of_sound sound clear
  rw [begins, cfg, State.conditioning, record, same]
  rfl

theorem accept_of_custody_sound (cls : (s.chCfg ch).cls = .custody) (place : ch < s.chans.length)
    (sound : s.foundBad .channels ch = false) (clear : s.marked .channels ch = false)
    (filter : (s.chCfg ch).profile = 0 ∨ s.foundBad .filters ((s.chCfg ch).profile - 1) = false) :
    accept ch item s = s.onChan ch fun c => { s.taken ch item c with
      custody := some ⟨item.raw, item.quality, s.chCfg ch, s.filterUse (s.chCfg ch).profile, false⟩ } := by
  have used : useFilter (s.chCfg ch).profile (s.onChan ch (s.taken ch item)) = s.onChan ch (s.taken ch item) :=
    useFilter_of_sound filter
  rw [accept_of_custody item cls, beginCustody_taken item place sound clear, used, onChan_onChan]
  rfl

theorem accept_of_custody_badFilter {p : Nat} (cls : (s.chCfg ch).cls = .custody) (place : ch < s.chans.length)
    (sound : s.foundBad .channels ch = false) (clear : s.marked .channels ch = false)
    (profile : (s.chCfg ch).profile = p + 1) (bad : s.foundBad .filters p = true) :
    accept ch item s = (occur Src.tableParity (p + 1) ((s.onChan ch (s.taken ch item)).setMark .filters p)).onChan ch
      fun c => { c with
        custody := some
          ⟨item.raw, item.quality, s.chCfg ch, ⟨some (s.tables.filters.getD p .passing), true⟩, false⟩ } := by
  have found : (s.onChan ch (s.taken ch item)).foundBad .filters p = true := bad
  rw [accept_of_custody item cls, beginCustody_taken item place sound clear, profile, filterUse_useFilter_of_bad found,
    useFilter_of_bad found]
  rfl

theorem accept_of_custody_unsound (cls : (s.chCfg ch).cls = .custody)
    (unsound : s.foundBad .channels ch = true ∨ s.marked .channels ch = true) : accept ch item s =
      completionNotices ch (setBad ch (useChannel ch (s.onChan ch (s.taken ch item)))) := by
  rw [accept_of_custody item cls]
  exact beginCustody_of_unsound unsound

end

/-! ### Arrival and the pending slot (R37, R40, R41) -/

section
variable {s : State} {ch : Nat} (item : Item)

theorem arrive_of_sound (sound : s.foundBad .channels ch = false) (clear : s.marked .channels ch = false) :
    arrive ch item s = if (s.chan ch).intervalUntil.isNone && !s.busy ch then accept ch item s
      else s.onChan ch fun c => { c with pendingItem := some item } := by
  rw [arrive, useChannel_of_sound sound, clear]
  rfl

theorem arrive_of_unsound (unsound : s.foundBad .channels ch = true ∨ s.marked .channels ch = true) :
    arrive ch item s = arriveMarked ch (useChannel ch s) := if_pos (useChannel_marked unsound)

theorem exec_intervalTimerExpiry (place : ch < 64) : exec (.intervalTimerExpiry ch) s =
    .next (if fires s.now (s.chan ch).intervalUntil then
      examinePending ch (s.onChan ch fun c => { c with intervalUntil := none }) else s) := by
  have arm : exec (.intervalTimerExpiry ch) s = execIntervalTimerExpiry ch s := rfl
  rw [arm, execIntervalTimerExpiry, if_neg (Nat.not_le.mpr place)]

theorem busy_onInterval (timer : Option Nat) (place : ch < s.chans.length) :
    (s.onChan ch fun c => { c with intervalUntil := timer }).busy ch = s.busy ch := by
  rw [State.busy, chan_onChan_same _ place]
  rfl

/-- As the interval timer runs out, the pending slot of a busy channel, or an empty one, stays as it is. -/
theorem examinePending_of_held (place : ch < s.chans.length) (held : (s.chan ch).pendingItem = none ∨ s.busy ch = true) :
    examinePending ch (s.onChan ch fun c => { c with intervalUntil := none }) =
      s.onChan ch fun c => { c with intervalUntil := none } := by
  rw [examinePending, busy_onInterval none place, chan_onChan_same _ place]
  rcases held with empty | busy
  · rw [empty]
  · rw [busy, Bool.not_true, Bool.and_false]
    cases (s.chan ch).pendingItem <;> rfl

theorem examinePending_of_free (place : ch < s.chans.length) (pending : (s.chan ch).pendingItem = some item)
    (free : s.busy ch = false) :
    examinePending ch (s.onChan ch fun c => { c with intervalUntil := none }) = accept ch item s := by
  rw [examinePending, busy_onInterval none place, chan_onChan_same _ place, pending, free]
  exact accept_onInterval ch item none s

end

/-! ### The obligation -/

/-- Settles O13: an item is taken where its channel's entry is sound, the interval is over and the channel is free, at its
arrival as at the expiry of the interval. -/
theorem itemsReachTheirChannels : Obligations.ItemsReachTheirChannels := by
  refine ⟨?items, ?arrivals⟩
  case items =>
    intro s e f kind
    refine ⟨examine_of_notPresent (.inl kind), examine_of_sample kind, fun short => ?short, ?cons⟩
    case short => rw [sampleFrame, sampleItems_of_short short, List.foldl_nil]
    case cons =>
      intro l q b1 b2 b3 rest payload holds
      rw [payload, sampleFrame_cons]
      refine ⟨fun ignored => ?ignored, fun id ch small identity learned place its first => ?taken⟩
      case ignored =>
        rcases ignored with high | unlearned | free
        · rw [takeItem_of_outside (.inl high)]
        · rw [takeItem_of_outside (.inr unlearned)]
        · rw [takeItem_of_none (channelAt_eq_none free)]
      case taken => rw [takeItem_of_some small identity learned (channelAt_eq_some place its first)]
  case arrivals =>
    intro s ch item place sized taken accepted
    have inside : ch < s.chans.length := by omega
    have accepts (free : s.busy ch = false) : accepted (accept ch item s) :=
      ⟨fun cls => accept_of_process item cls free, accept_of_survey item,
        fun cls sound clear filter => accept_of_custody_sound item cls inside sound clear filter,
        fun cls sound clear p profile bad => accept_of_custody_badFilter item cls inside sound clear profile bad⟩
    refine ⟨fun sound clear => ⟨fun elapsed free => ?accepted, fun waits => ?pending⟩, fun unsound => ?unsound,
      fun running => ?running, fun expired => ⟨fun held => ?held, fun pending free => ?expired⟩⟩
    case accepted =>
      rw [arrive_of_sound item sound clear, elapsed, free]
      exact accepts free
    case pending =>
      rw [arrive_of_sound item sound clear, if_neg]
      rcases waits with running | busy
      · simp [running]
      · simp [busy]
    case unsound =>
      intro u
      have arrival : arrive ch item s = arriveMarked ch (useChannel ch s) := arrive_of_unsound item unsound
      have cfg : u.chCfg ch = s.chCfg ch := useChannel_chCfg ch ch s
      refine ⟨fun other => ?_, fun cls => ?_, fun marked => useChannel_of_sound (not_foundBad_of_marked marked),
        fun bad => ⟨useChannel_marked unsound, useChannel_chan_of_bad bad inside⟩⟩
      · exact arrival.trans (if_neg fun cls => other ((congrArg ChannelCfg.cls cfg).symm.trans cls))
      · exact arrival.trans (if_pos ((congrArg ChannelCfg.cls cfg).trans cls))
    case running => rw [exec_intervalTimerExpiry place, running, if_neg Bool.false_ne_true]
    case held => rw [exec_intervalTimerExpiry place, if_pos expired, examinePending_of_held inside held]
    case expired =>
      refine ⟨accept ch item s, ?_, accepts free, accept_of_custody_unsound item⟩
      rw [exec_intervalTimerExpiry place, if_pos expired, examinePending_of_free item inside pending free]

end Sys2Proof.Machine

/-!
SUPPORT. What notices leave of the channels (R37, R57). Most operations look at no channel entry; those that read channels
check the entry of each, and a channel then has the record it had, or the one of an entry found bad.
-/

namespace Sys2Proof.Machine

/-! ### Operations that check no channel -/

/-- Every channel's record, mark and entry check is as it was, and the engine serves what it served. -/
structure KeepsChannels (s t : State) : Prop where
  chans : t.chans = s.chans
  serving : t.engine.serving = s.engine.serving
  marks : t.parity.channels = s.parity.channels

section
variable {s t u : State}

theorem KeepsChannels.refl (s : State) : KeepsChannels s s := ⟨rfl, rfl, rfl⟩

theorem KeepsChannels.trans (h : KeepsChannels s t) (k : KeepsChannels t u) : KeepsChannels s u :=
  ⟨k.chans.trans h.chans, k.serving.trans h.serving, k.marks.trans h.marks⟩

theorem KeepsChannels.ite {c : Prop} [Decidable c] (h : KeepsChannels s t) (k : KeepsChannels s u) :
    KeepsChannels s (if c then t else u) := by
  split
  · exact h
  · exact k

theorem KeepsChannels.foldl {α : Type} {f : State → α → State} (h : ∀ s a, KeepsChannels s (f s a)) (l : List α)
    (s : State) : KeepsChannels s (l.foldl f s) := by
  induction l generalizing s with
  | nil => exact .refl s
  | cons a l ih => exact (h s a).trans (ih _)

/-- An operation on trains reaches no channel but through a mark. -/
theorem KeepsChannels.of_frame (frame : ByTrain s t) (marks : t.parity.channels = s.parity.channels) : KeepsChannels s t :=
  ⟨frame.chans, congrArg EngineState.serving frame.engine, marks⟩

end

section
variable (s : State)

theorem setMark_keepsChannels {t : TableId} (i : Nat) (other : t ≠ .channels) : KeepsChannels s (s.setMark t i) :=
  ⟨rfl, rfl, (Parity.get_put s.parity t .channels _).trans (if_neg other)⟩

theorem occur_keepsChannels (n b : Nat) : KeepsChannels s (occur n b s) :=
  .of_frame (occur_frame n b s).up (occur_parity n b s (t := .channels) (by decide))

theorem occurIf_keepsChannels (c : Bool) (n b : Nat) : KeepsChannels s (occurIf c n b s) :=
  .ite (occur_keepsChannels s n b) (.refl s)

theorem markEntry_keepsChannels {t : TableId} (i b : Nat) (other : t ≠ .channels) :
    KeepsChannels s (markEntry t i b s) := by
  rw [markEntry_eq_occur]
  exact (setMark_keepsChannels s i other).trans (occur_keepsChannels _ _ _)

theorem offerOwn_keepsChannels (e : Nat) (c : Command) : KeepsChannels s (offerOwn e c s) :=
  .of_frame (offerOwn_frame e c s).up (congrArg Parity.channels (offerOwn_parity e c s))

/-! Duty and accounts. -/

theorem evalCore_keepsChannels : KeepsChannels s (evalCore s) :=
  .of_frame (evalCore_frame s).up (congrArg Parity.channels (evalCore_parity s))

theorem checkComp_keepsChannels (k : Nat) : KeepsChannels s (checkComp k s) := by
  have mark := markEntry_keepsChannels s (t := .compressors) k k (by decide)
  exact .ite (.ite (mark.trans ⟨rfl, rfl, rfl⟩) mark) (.refl s)

theorem curtailCore_keepsChannels (just : Option Nat) : KeepsChannels s (curtailCore just s) := by
  unfold curtailCore
  dsimp only
  split
  · exact ⟨rfl, rfl, rfl⟩
  · refine .trans ?_ (occurIf_keepsChannels _ _ _ _)
    exact ⟨rfl, rfl, rfl⟩

theorem publish_keepsChannels : KeepsChannels s (publish s) := by
  have computed : KeepsChannels s (curtailCore none { s with
      comp := { s.comp with published := s.compCapacity }
      acct := { s.acct with compCap := s.compCapacity } }) := by
    refine .trans ?_ (curtailCore_keepsChannels _ none)
    exact ⟨rfl, rfl, rfl⟩
  refine .ite (.refl s) (.ite (.trans ?_ (evalCore_keepsChannels _)) computed)
  exact computed.trans ⟨rfl, rfl, rfl⟩

theorem dutyEvaluation_keepsChannels : KeepsChannels s (dutyEvaluation s) := by
  have checked : KeepsChannels s (checkOrder s) := .foldl (fun t k => checkComp_keepsChannels t k) _ _
  exact (checked.trans (evalCore_keepsChannels _)).trans (publish_keepsChannels _)

theorem curtail_keepsChannels (just : Option Nat) : KeepsChannels s (curtail just s) := by
  have computed := curtailCore_keepsChannels s just
  refine .ite (.trans ?_ (dutyEvaluation_keepsChannels _)) computed
  exact computed.trans ⟨rfl, rfl, rfl⟩

/-! Trains. -/

theorem onTrain_keepsChannels (i : Nat) (f : Train → Train) : KeepsChannels s (s.onTrain i f) := ⟨rfl, rfl, rfl⟩

theorem tellDrying_keepsChannels : KeepsChannels s (tellDrying s) := by
  refine .ite (.refl s) (.trans ?_ (curtail_keepsChannels _ none))
  exact ⟨rfl, rfl, rfl⟩

theorem evalTrain_keepsChannels (i : Nat) : KeepsChannels s (evalTrain i s) :=
  ((onTrain_keepsChannels s i _).trans (occurIf_keepsChannels _ _ _ _)).trans (tellDrying_keepsChannels _)

theorem startTest_keepsChannels (i : Nat) : KeepsChannels s (startTest i s) := by
  unfold startTest
  dsimp only
  split
  · exact .refl s
  · exact .ite ((offerOwn_keepsChannels s _ _).trans (onTrain_keepsChannels _ i _)) (.refl s)

theorem bedTrigger_keepsChannels (i : Nat) : KeepsChannels s (bedTrigger i s) :=
  .ite ((onTrain_keepsChannels s i _).trans (startTest_keepsChannels _ i)) (.refl s)

theorem loadingTrigger_keepsChannels (i : Nat) : KeepsChannels s (loadingTrigger i s) :=
  .ite (bedTrigger_keepsChannels s i) (.refl s)

theorem useTrain_keepsChannels (i : Nat) : KeepsChannels s (useTrain i s) := by
  have mark := markEntry_keepsChannels s (t := .dryers) i i (by decide)
  refine .ite (.ite (.trans ?_ (evalTrain_keepsChannels _ i)) mark) (.refl s)
  exact mark.trans ⟨rfl, rfl, rfl⟩

theorem breakthrough_keepsChannels (i : Nat) : KeepsChannels s (breakthrough i s) := by
  have latched := (useTrain_keepsChannels s i).trans (occur_keepsChannels _ Src.breakthrough i)
  exact .ite latched ((latched.trans (bedTrigger_keepsChannels _ i)).trans (evalTrain_keepsChannels _ i))

/-! The STATION record, the station flow and the compression flag. -/

theorem checkStation_keepsChannels : KeepsChannels s (checkStation s) :=
  .ite ((markEntry_keepsChannels s (t := .station) 0 0 (by decide)).trans ⟨rfl, rfl, rfl⟩) (.refl s)

theorem flowNotice_keepsChannels : KeepsChannels s (flowNotice s) := by
  have checked := checkStation_keepsChannels s
  exact .ite (.ite (.ite checked (checked.trans ⟨rfl, rfl, rfl⟩)) (checked.trans ⟨rfl, rfl, rfl⟩)) (.refl s)

theorem dutyFlag_keepsChannels (flag : Bool) : KeepsChannels s (dutyFlag flag s) := by
  refine .trans ?_ (dutyEvaluation_keepsChannels _)
  exact ⟨rfl, rfl, rfl⟩

theorem acctFlag_keepsChannels (flag : Bool) : KeepsChannels s (acctFlag flag s) := by
  refine .trans ?_ (curtail_keepsChannels _ none)
  exact ⟨rfl, rfl, rfl⟩

theorem onMode_keepsChannels (m : ModeState) : KeepsChannels s { s with mode := m } := ⟨rfl, rfl, rfl⟩

theorem changeFlag_keepsChannels (flag : Bool) : KeepsChannels s (changeFlag flag s) :=
  (((onMode_keepsChannels s _).trans (occur_keepsChannels _ _ _)).trans (dutyFlag_keepsChannels _ flag)).trans
    (acctFlag_keepsChannels _ flag)

/-! Runs. -/

theorem onRun_keepsChannels (r : Nat) (f : RunState → RunState) : KeepsChannels s (s.onRun r f) := ⟨rfl, rfl, rfl⟩

theorem checkRun_keepsChannels (r : Nat) : KeepsChannels s (checkRun r s) :=
  .ite (markEntry_keepsChannels s r r (by decide)) (.refl s)

theorem stageEvents_keepsChannels (r : Nat) (k : Computed) : KeepsChannels s (stageEvents r k s) :=
  (((occurIf_keepsChannels s _ _ _).trans (occurIf_keepsChannels _ _ _ _)).trans (occurIf_keepsChannels _ _ _ _)).trans
    (occurIf_keepsChannels _ _ _ _)

theorem refFault_keepsChannels (r : Nat) : KeepsChannels s (refFault r s) :=
  .ite (.refl s) ((onRun_keepsChannels s r _).trans (occur_keepsChannels _ _ _))

theorem refStale_keepsChannels (r : Nat) : KeepsChannels s (refStale r s) :=
  .ite ((onRun_keepsChannels s r _).trans (occur_keepsChannels _ _ _)) (.refl s)

theorem calorificCompletion_keepsChannels (ch : Nat) : KeepsChannels s (calorificCompletion ch s) := by
  refine .foldl (fun t r => .ite ?_ (.refl t)) _ _
  split
  · exact onRun_keepsChannels t r _
  · exact refFault_keepsChannels t r
  · exact .refl t

theorem calorificAged_keepsChannels (ch : Nat) : KeepsChannels s (calorificAged ch s) :=
  .foldl (fun t r => .ite (refStale_keepsChannels t r) (.refl t)) _ _

end

/-! ### Operations that check channels (R37) -/

/-- What checks of channel entries leave of channel `j`: its record or the one of an entry found bad, and all as it was where
its entry is sound or marked already. -/
structure Checked (j : Nat) (s t : State) : Prop where
  length : t.chans.length = s.chans.length
  serving : t.engine.serving = s.engine.serving
  record : t.chan j = s.chan j ∨ t.chan j = (s.chan j).found
  sound : s.foundBad .channels j = false →
    t.chan j = s.chan j ∧ t.foundBad .channels j = false ∧ t.marked .channels j = s.marked .channels j

section
variable {j : Nat} {s t u : State}

theorem ChannelState.found_found (c : ChannelState) : c.found.found = c.found := by
  unfold ChannelState.found
  by_cases waits : c.request = .waiting
  · simp [waits]
  · simp [waits]

theorem KeepsChannels.chan (h : KeepsChannels s t) (j : Nat) : t.chan j = s.chan j := by
  rw [State.chan, h.chans, State.chan]

theorem KeepsChannels.foundBad (h : KeepsChannels s t) (j : Nat) : t.foundBad .channels j = s.foundBad .channels j :=
  foundBad_congr (show t.parity.get .channels = s.parity.get .channels from h.marks) j

theorem KeepsChannels.marked (h : KeepsChannels s t) (j : Nat) : t.marked .channels j = s.marked .channels j :=
  marked_congr (show t.parity.get .channels = s.parity.get .channels from h.marks) j

theorem KeepsChannels.checked (h : KeepsChannels s t) (j : Nat) : Checked j s t :=
  ⟨congrArg List.length h.chans, h.serving, .inl (h.chan j),
    fun sound => ⟨h.chan j, (h.foundBad j).trans sound, h.marked j⟩⟩

theorem Checked.refl (j : Nat) (s : State) : Checked j s s := (KeepsChannels.refl s).checked j

theorem Checked.trans (h : Checked j s t) (k : Checked j t u) : Checked j s u where
  length := k.length.trans h.length
  serving := k.serving.trans h.serving
  record := by
    rcases h.record with first | first <;> rcases k.record with second | second <;> rw [second, first]
    · exact .inl rfl
    · exact .inr rfl
    · exact .inr rfl
    · exact .inr (ChannelState.found_found _)
  sound := fun sound => by
    obtain ⟨record, still, mark⟩ := h.sound sound
    obtain ⟨record', still', mark'⟩ := k.sound still
    exact ⟨record'.trans record, still', mark'.trans mark⟩

theorem Checked.ite {c : Prop} [Decidable c] (h : Checked j s t) (k : Checked j s u) :
    Checked j s (if c then t else u) := by
  split
  · exact h
  · exact k

theorem Checked.foldl {α : Type} {f : State → α → State} (h : ∀ s a, Checked j s (f s a)) (l : List α) (s : State) :
    Checked j s (l.foldl f s) := by
  induction l generalizing s with
  | nil => exact .refl j s
  | cons a l ih => exact (h s a).trans (ih _)

/-- A state with the same records is one with the same channels. -/
theorem chans_eq_of_chan (length : t.chans.length = s.chans.length) (record : ∀ j, t.chan j = s.chan j) :
    t.chans = s.chans := by
  refine List.ext_getElem length fun j inside inside' => ?_
  have same := record j
  rwa [State.chan, State.chan, List.getD_eq_getElem _ _ inside, List.getD_eq_getElem _ _ inside'] at same

theorem chans_eq_of_checked (h : ∀ j, Checked j s t) (sound : ∀ j, s.foundBad .channels j = false) : t.chans = s.chans :=
  chans_eq_of_chan (h 0).length fun j => ((h j).sound (sound j)).1

theorem chan_onChan_other {ch : Nat} (other : ch ≠ j) (f : ChannelState → ChannelState) (s : State) :
    (s.onChan ch f).chan j = s.chan j := by
  rw [State.chan_onChan, if_neg fun here => other here.1]

/-- An update of one channel leaves every other. -/
theorem onChan_checked {ch : Nat} (other : ch ≠ j) (f : ChannelState → ChannelState) (s : State) :
    Checked j s (s.onChan ch f) :=
  ⟨by simp, rfl, .inl (chan_onChan_other other f s), fun sound => ⟨chan_onChan_other other f s, sound, rfl⟩⟩

end

section
variable (j : Nat) (s : State)

theorem sweepCounts_keepsChannels (ch : Nat) : KeepsChannels s (sweepCounts ch s) := by
  refine .ite (.trans ?_ (occurIf_keepsChannels _ _ _ _)) (.refl s)
  exact ⟨rfl, rfl, rfl⟩

theorem withdrawRequest_serving (ch : Nat) : (withdrawRequest ch s).engine.serving = s.engine.serving := by
  unfold withdrawRequest
  split
  · exact (sweepCounts_keepsChannels _ ch).serving
  · rfl

/-- The marks of a use that finds an entry bad are those of the finding. -/
theorem useChannel_parity {ch : Nat} (bad : s.foundBad .channels ch = true) {t : TableId} (other : t ≠ .events) :
    (useChannel ch s).parity.get t = (markEntry .channels ch ch s).parity.get t := by
  rw [useChannel, if_pos bad]
  exact withdrawRequest_parity ch _ other

/-- A use marks the entry it finds bad and no other. -/
theorem useChannel_entry (ch : Nat) {t : TableId} (other : t ≠ .events) :
    (useChannel ch s).foundBad t j = (s.foundBad t j && !(decide (.channels = t) && decide (ch = j))) ∧
    (.channels ≠ t ∨ ch ≠ j → (useChannel ch s).marked t j = s.marked t j) := by
  by_cases bad : s.foundBad .channels ch = true
  case pos =>
    obtain ⟨marked, found⟩ := markEntry_spec s ch j ch bad other
    rw [marked_congr (useChannel_parity s bad other), foundBad_congr (useChannel_parity s bad other), marked, found]
    refine ⟨rfl, fun elsewhere => ?_⟩
    rcases elsewhere with table | entry
    · simp [table]
    · simp [entry]
  case neg =>
    have sound : s.foundBad .channels ch = false := Bool.eq_false_iff.mpr bad
    rw [useChannel_of_sound sound]
    refine ⟨?_, fun _ => rfl⟩
    by_cases here : .channels = t ∧ ch = j
    · obtain ⟨rfl, rfl⟩ := here
      rw [sound, Bool.false_and]
    · rw [← Bool.decide_and, decide_eq_false here, Bool.not_false, Bool.and_true]

theorem useChannel_length (ch : Nat) : (useChannel ch s).chans.length = s.chans.length := by
  have sizes := useChannel_sizes ch s
  simp only [State.sizes, List.cons.injEq] at sizes
  omega

theorem useChannel_checked (ch : Nat) : Checked j s (useChannel ch s) where
  length := useChannel_length s ch
  serving := by
    unfold useChannel
    split
    · have marked := (markEntry_frame (t := .channels) ch ch s (by decide)).engine
      exact (withdrawRequest_serving _ ch).trans (congrArg EngineState.serving marked)
    · rfl
  record := by
    rw [useChannel_chan]
    split
    · exact .inr rfl
    · exact .inl rfl
  sound := fun sound => by
    by_cases here : ch = j
    · subst here
      rw [useChannel_of_sound sound]
      exact ⟨rfl, sound, rfl⟩
    · obtain ⟨found, marked⟩ := useChannel_entry j s ch (t := .channels) (by decide)
      rw [found, sound, Bool.false_and]
      exact ⟨useChannel_other s here, rfl, marked (.inr here)⟩

theorem useChannels_checked (l : List Nat) : Checked j s (useChannels l s) :=
  .foldl (fun t ch => useChannel_checked j t ch) _ _

theorem trainVolume_checked (i vb : Nat) : Checked j s (trainVolume i vb s) := by
  have used := (useTrain_keepsChannels s i).checked j
  unfold trainVolume
  dsimp only
  split
  · exact used
  · exact (used.trans (useChannels_checked j _ _)).trans ((((onTrain_keepsChannels _ i _).trans
      (loadingTrigger_keepsChannels _ i)).trans (evalTrain_keepsChannels _ i)).checked j)

theorem dryVolume_checked (r vb : Nat) : Checked j s (dryVolume r vb s) :=
  .foldl (fun t i => .ite (trainVolume_checked j t i vb) (.refl j t)) _ _

theorem computeTrigger_checked (r mark : Nat) : Checked j s (computeTrigger r mark s) := by
  unfold computeTrigger
  dsimp only
  have used : Checked j s (useInputs r s) := useChannels_checked j s _
  refine .trans (.trans (used.trans (KeepsChannels.checked ?_ j)) (.ite (dryVolume_checked j _ r _) (.refl j _)))
    (.ite ((flowNotice_keepsChannels _).checked j) (.refl j _))
  exact (onRun_keepsChannels _ r _).trans (stageEvents_keepsChannels _ r _)

theorem trigger_checked (r : Nat) : Checked j s (trigger r s) := by
  have checked := (checkRun_keepsChannels s r).checked j
  have recorded := checked.trans ((onRun_keepsChannels (checkRun r s) r fun x => { x with
    mark := some (checkRun r s).now, estimated := true }).checked j)
  unfold trigger
  dsimp only
  split
  · exact recorded
  · split
    · exact recorded
    · exact checked.trans (computeTrigger_checked j _ r _)

theorem flowCompletion_checked (ch : Nat) : Checked j s (flowCompletion ch s) :=
  .foldl (fun t r => .ite (trigger_checked j t r) (.refl j t)) _ _

theorem pressureNotice_checked (ch : Nat) : Checked j s (pressureNotice ch s) := by
  have used : Checked j s (usePressures (checkStation s)) :=
    ((checkStation_keepsChannels s).checked j).trans (useChannels_checked j _ _)
  unfold pressureNotice
  dsimp only
  split
  · split
    · exact used
    · exact .ite used (used.trans ((changeFlag_keepsChannels _ _).checked j))
  · exact .refl j s

theorem completionNotices_checked (ch : Nat) : Checked j s (completionNotices ch s) :=
  ((flowCompletion_checked j s ch).trans ((calorificCompletion_keepsChannels _ ch).checked j)).trans
    (pressureNotice_checked j _ ch)

theorem regenChanged_checked (i : Nat) : Checked j s (regenChanged i s) := by
  have used := (useTrain_keepsChannels s i).checked j
  refine .ite used ((used.trans (.foldl (fun t bd => .ite ?_ (.refl j t)) _ _)).trans
    ((evalTrain_keepsChannels _ i).checked j))
  have read := useChannels_checked j t (t.dryerCfg i).regenCh.toList
  exact .ite (read.trans ((onTrain_keepsChannels _ i _).checked j)) read

theorem trainComparator_checked (i ch : Nat) (which : CmpId) (output : Bool) :
    Checked j s (trainComparator i ch which output s) := by
  refine .ite (.trans ?_ (.ite (regenChanged_checked j _ i) (.refl j _))) (.refl j s)
  exact .ite ((breakthrough_keepsChannels s i).checked j) (.ite ((useTrain_keepsChannels s i).checked j) (.refl j s))

theorem dryComparator_checked (ch : Nat) (which : CmpId) (output : Bool) : Checked j s (dryComparator ch which output s) :=
  (trainComparator_checked j s 0 ch which output).trans (trainComparator_checked j _ 1 ch which output)

end

end Sys2Proof.Machine

/-!
SUPPORT. Staleness (R56) and the withdrawal-compression flag (R99): when an age timer is due, what a consumer may take of a
channel, and the evaluation of the flag that a notice about a pressure channel causes.
-/

namespace Sys2Proof.Machine

/-! ### The age timer (R56) -/

section
variable {s : State} {ch : Nat}

theorem exec_ageTimerExpiry (place : ch < 64) :
    exec (.ageTimerExpiry ch) s = .next (if s.ageDue ch then channelAged ch s else s) := by
  have arm : exec (.ageTimerExpiry ch) s = execAgeTimerExpiry ch s := rfl
  rw [arm, execAgeTimerExpiry, if_neg (Nat.not_le.mpr place)]

theorem ageDue_of_some {t0 : Nat} (start : (s.chan ch).ageStart = some t0) :
    s.ageDue ch = decide (t0 + (s.chCfg ch).maxAge * 1000 ≤ s.now) := by
  rw [State.ageDue, start]

theorem ageDue_of_none (stopped : (s.chan ch).ageStart = none) : s.ageDue ch = false := by
  rw [State.ageDue, stopped]

end

/-! ### What a consumer may take (R31, R33) -/

/-- The channel is in use, GOOD or SUSPECT, and has a filtered value. -/
theorem trusted_eq_some_iff (s : State) (ch : Nat) (v : Int) : s.trusted ch = some v ↔ (s.chCfg ch).inUse = true ∧
    ((s.chan ch).quality = .good ∨ (s.chan ch).quality = .suspect) ∧ (s.chan ch).filtered = some v := by
  unfold State.trusted State.readChannel
  cases (s.chCfg ch).inUse <;> cases (s.chan ch).quality <;> simp

theorem trusted_eq_none {s : State} {ch : Nat} (unusable : ∀ v, ¬((s.chCfg ch).inUse = true ∧
    ((s.chan ch).quality = .good ∨ (s.chan ch).quality = .suspect) ∧ (s.chan ch).filtered = some v)) :
    s.trusted ch = none :=
  Option.eq_none_iff_forall_ne_some.mpr fun v taken => unusable v ((trusted_eq_some_iff s ch v).mp taken)

/-! ### The evaluation of the flag (R99) -/

theorem checkStation_of_sound {s : State} (sound : s.foundBad .station 0 = false) : checkStation s = s := by
  rw [checkStation, sound, if_neg Bool.false_ne_true]

theorem stationRead_congr {s t : State} (tables : t.tables = s.tables)
    (mark : t.marked .station 0 = s.marked .station 0) : t.stationRead = s.stationRead := by
  rw [State.stationRead, State.stationRead, State.lMin, State.lMin, mark, tables]

theorem stationRead_useChannel (ch : Nat) (s : State) : (useChannel ch s).stationRead = s.stationRead :=
  stationRead_congr (useChannel_frame ch s).tables ((useChannel_entry 0 s ch (by decide)).2 (.inl (by decide)))

/-- The evaluation that a notice causes, the checks of both channels' entries behind it. -/
def evalFlag (s : State) : State :=
  match s.pressureDifference with
  | none => s
  | some d => if flagAfter s.stationRead s.mode.flag d = s.mode.flag then s
    else changeFlag (flagAfter s.stationRead s.mode.flag d) s

section
variable {s : State} {ch a b : Nat}

theorem namesPressure_iff : s.namesPressure ch = true ↔
    s.stationRead.storage = some ch ∨ s.stationRead.pipeline = some ch := by
  simp [State.namesPressure]

theorem pressureNotice_of_unnamed (unnamed : s.namesPressure ch = false) : pressureNotice ch s = s := by
  rw [pressureNotice, unnamed, if_neg Bool.false_ne_true]

theorem pressureNotice_of_named (sound : s.foundBad .station 0 = false) (named : s.namesPressure ch = true) :
    pressureNotice ch s = evalFlag (usePressures s) := by
  rw [pressureNotice, if_pos named, checkStation_of_sound sound]
  rfl

theorem pressureDifference_of_unnamed (unnamed : s.stationRead.storage = none ∨ s.stationRead.pipeline = none) :
    s.pressureDifference = none := by
  unfold State.pressureDifference
  rcases unnamed with storage | pipeline
  · rw [storage]
  · rw [pipeline]
    cases s.stationRead.storage <;> rfl

theorem evalFlag_of_none (unknown : s.pressureDifference = none) : evalFlag s = s := by
  rw [evalFlag, unknown]

section
variable (storage : s.stationRead.storage = some a) (pipeline : s.stationRead.pipeline = some b)
include storage pipeline

theorem usePressures_of_named : usePressures s = useChannel b (useChannel a s) := by
  rw [usePressures, storage, pipeline]
  rfl

/-- A second check of both entries finds nothing. -/
theorem usePressures_again :
    usePressures (useChannel b (useChannel a s)) = useChannel b (useChannel a s) := by
  rw [usePressures, stationRead_useChannel, stationRead_useChannel, storage, pipeline]
  refine useChannels_of_sound fun c member => ?_
  rw [(useChannel_entry c _ b (by decide)).1, (useChannel_entry c s a (by decide)).1]
  rcases List.mem_pair.mp member with rfl | rfl
  · simp
  · simp

/-- A notice about a state in which both entries were checked is the evaluation alone. -/
theorem pressureNotice_again (station : s.foundBad .station 0 = false) (named : s.namesPressure ch = true) :
    pressureNotice ch (useChannel b (useChannel a s)) = evalFlag (useChannel b (useChannel a s)) := by
  have station' : (useChannel b (useChannel a s)).foundBad .station 0 = false := by
    rw [(useChannel_entry 0 _ b (by decide)).1, (useChannel_entry 0 s a (by decide)).1, station]
    rfl
  have named' : (useChannel b (useChannel a s)).namesPressure ch = true := by
    rw [State.namesPressure, stationRead_useChannel, stationRead_useChannel]
    exact named
  rw [pressureNotice_of_named station' named', usePressures_again storage pipeline]

theorem pressureDifference_of_unusable (unusable : s.trusted a = none ∨ s.trusted b = none) :
    s.pressureDifference = none := by
  rw [State.pressureDifference, storage, pipeline]
  rcases unusable with first | second
  · simp only [first]
  · simp only [second]
    cases s.trusted a <;> rfl

theorem pressureDifference_of_usable {x y : Int} (first : s.trusted a = some x) (second : s.trusted b = some y) :
    s.pressureDifference = some (x - y) := by
  rw [State.pressureDifference, storage, pipeline]
  simp only [first, second]

end

/-- The flag's threshold is the margin, and the margin plus the hysteresis while it is true. -/
theorem flagAfter_eq (c : StationCfg) (before : Bool) (d : Int) :
    flagAfter c before d = decide (d < if before then ((c.margin + c.hyst : Nat) : Int) else (c.margin : Int)) := by
  cases before <;> rfl

end

/-! ### The obligation -/

/-- Settles O16: an age timer that is due is taken as `channelAged`, and a notice about a pressure channel is the evaluation
of the flag behind the checks of both channels' entries. -/
theorem ageTimerAndCompressionFlag : Obligations.AgeTimerAndCompressionFlag := by
  refine ⟨?ages, ?flag⟩
  case ages =>
    intro s ch place sized
    refine ⟨fun t0 start reached => ⟨?aged, fun sound => ?channels⟩, fun t0 start early => ?early,
      fun stopped => ?stopped⟩
    case aged =>
      rw [exec_ageTimerExpiry place, ageDue_of_some start, decide_eq_true reached, if_pos rfl, channelAged]
    case channels =>
      have latched := occur_keepsChannels (s.onChan ch fun c => { c with quality := .stale, ageStart := none })
        Src.channelStale ch
      refine chans_eq_of_checked (fun j => ?_) fun j => (latched.foundBad j).trans (sound j)
      exact ((calorificAged_keepsChannels _ ch).checked j).trans (pressureNotice_checked j _ ch)
    case early =>
      rw [exec_ageTimerExpiry place, ageDue_of_some start, decide_eq_false (Nat.not_le.mpr early), if_neg Bool.false_ne_true]
    case stopped =>
      rw [exec_ageTimerExpiry place, ageDue_of_none stopped, if_neg Bool.false_ne_true]
  case flag =>
    intro s ch station c usable
    refine ⟨fun other other' => ?other, fun unnamed sound => ?unnamed, fun a b storage pipeline named => ?named⟩
    case other => exact pressureNotice_of_unnamed (Bool.eq_false_iff.mpr fun named =>
        (namesPressure_iff.mp named).elim other other')
    case unnamed =>
      cases named : s.namesPressure ch
      · exact pressureNotice_of_unnamed named
      · have used : usePressures s = s := useChannels_of_sound fun j _ => sound j
        rw [pressureNotice_of_named station named, used]
        exact evalFlag_of_none (pressureDifference_of_unnamed unnamed)
    case named =>
      have names : s.namesPressure ch = true := by
        rcases named with rfl | rfl
        · exact namesPressure_iff.mpr (.inl storage)
        · exact namesPressure_iff.mpr (.inr pipeline)
      have notice := pressureNotice_of_named station names
      refine ⟨?checks, fun soundA soundB => ⟨fun unusable => ?unusable, fun x y first second =>
        ⟨fun same => ?same, fun differs => ?differs⟩⟩⟩
      case checks =>
        rw [notice, pressureNotice_again storage pipeline station names, usePressures_of_named storage pipeline]
      all_goals
        have used : usePressures s = s := by
          rw [usePressures_of_named storage pipeline, useChannel_of_sound soundA, useChannel_of_sound soundB]
        rw [used] at notice
      case unusable =>
        rw [notice]
        exact evalFlag_of_none (pressureDifference_of_unusable storage pipeline
          (unusable.imp trusted_eq_none trusted_eq_none))
      all_goals
        have difference := pressureDifference_of_usable storage pipeline ((trusted_eq_some_iff s a x).mpr first)
          ((trusted_eq_some_iff s b y).mpr second)
        rw [evalFlag, difference] at notice
        dsimp only at notice
        rw [flagAfter_eq] at notice
      case same => exact notice.trans (if_pos same)
      case differs =>
        intro u v
        exact notice.trans ((if_neg differs).trans (by rw [changeFlag, dutyFlag, acctFlag]))

end Sys2Proof.Machine

/-!
SUPPORT. The Conditioning Engine's choice of a channel (R43, R53) and the survey sweep (R45 to R48): how a service begins,
what one channel's turn in a listing does, and what a whole listing leaves in the remaining set.
-/

namespace Sys2Proof.Machine

/-! ### The waiting set (R43) -/

section
variable {s : State} {ch : Nat}

theorem waitingSet_eq_nil (idle : ∀ ch < 64, (s.chan ch).request ≠ .waiting) : s.waitingSet = [] :=
  List.filter_eq_nil_iff.mpr fun ch member => by simpa using idle ch (List.mem_range.mp member)

/-- The lowest waiting channel is the first of the set. -/
theorem waitingSet_eq_cons (place : ch < 64) (waits : (s.chan ch).request = .waiting)
    (lowest : ∀ j < ch, (s.chan j).request ≠ .waiting) : ∃ rest, s.waitingSet = ch :: rest := by
  refine List.head?_eq_some_iff.mp ?_
  rw [State.waitingSet, List.head?_filter, List.find?_range_eq_some]
  exact ⟨decide_eq_true waits, List.mem_range.mpr place, fun j below => by simp [lowest j below]⟩

theorem exec_engineSelect_of_none (rests : s.engine.serving ≠ none ∨ ∀ ch < 64, (s.chan ch).request ≠ .waiting) :
    exec .engineSelect s = .next s := by
  have arm : exec .engineSelect s = execEngineSelect s := rfl
  rw [arm, execEngineSelect]
  rcases rests with busy | idle
  · obtain ⟨served, serving⟩ := Option.ne_none_iff_exists'.mp busy
    rw [serving]
  · rw [waitingSet_eq_nil idle]
    cases s.engine.serving <;> rfl

theorem exec_engineSelect_of_lowest (place : ch < 64) (free : s.engine.serving = none)
    (waits : (s.chan ch).request = .waiting) (lowest : ∀ j < ch, (s.chan j).request ≠ .waiting) :
    exec .engineSelect s = .next (beginService ch s) := by
  have arm : exec .engineSelect s = execEngineSelect s := rfl
  obtain ⟨rest, set⟩ := waitingSet_eq_cons place waits lowest
  rw [arm, execEngineSelect, free, set]

/-! ### The beginning of a service (R37, R43, R53) -/

theorem serviceFails_eq (ch : Nat) (s : State) : serviceFails ch s = sweepCounts ch (s.onChan ch fun c => { c with
    request := .none, pendingItem := none, quality := .bad }) := by
  rw [serviceFails, setBad, dropPending, onChan_onChan, onChan_onChan]
  rfl

theorem beginService_of_unsound (unsound : s.foundBad .channels ch = true ∨ s.marked .channels ch = true) :
    beginService ch s = serviceFails ch (useChannel ch s) := if_pos (useChannel_marked unsound)

theorem beginService_of_sound (sound : s.foundBad .channels ch = false) (clear : s.marked .channels ch = false) :
    beginService ch s =
      { useFilter (s.chCfg ch).profile s with
        engine := { (useFilter (s.chCfg ch).profile s).engine with
          serving := some (ch, (useFilter (s.chCfg ch).profile s).conditioning ch) } }.onChan ch fun c =>
        { c with request := .inService, unconditioned := false } := by
  rw [beginService, useChannel_of_sound sound, clear]
  rfl

/-- A service begins with the filter profile found bad at its use, and takes it as marked (R53). -/
theorem conditioning_useFilter_of_bad {p : Nat} (profile : (s.chCfg ch).profile = p + 1)
    (bad : s.foundBad .filters p = true) : (useFilter (p + 1) s).conditioning ch =
      ⟨(s.chan ch).raw, (s.chan ch).rawQ, s.chCfg ch, ⟨some (s.tables.filters.getD p .passing), true⟩, false⟩ := by
  obtain ⟨chans, tables⟩ := useFilter_kept (p + 1) s
  have record : (useFilter (p + 1) s).chan ch = s.chan ch := by rw [State.chan, chans, State.chan]
  have cfg : (useFilter (p + 1) s).chCfg ch = s.chCfg ch := by rw [State.chCfg, tables, State.chCfg]
  rw [State.conditioning, record, cfg, profile, filterUse_useFilter_of_bad bad]

/-! ### The turn of a channel in a sweep (R45, R46) -/

theorem sweepCounts_of_unlisted (unlisted : ch ∉ s.engine.remaining) : sweepCounts ch s = s := by
  rw [sweepCounts, if_neg (mt List.contains_iff_mem.mp unlisted)]

theorem sweepCounts_of_listed (listed : ch ∈ s.engine.remaining) : sweepCounts ch s =
    occurIf (s.engine.remaining.filter fun c => decide (c ≠ ch)).isEmpty Src.sweepDone noSubject
      { s with engine := { s.engine with remaining := s.engine.remaining.filter fun c => decide (c ≠ ch) } } := by
  rw [sweepCounts, if_pos (List.contains_iff_mem.mpr listed)]

/-- The channel's unit is PRESENT and its raw value unconditioned: a sweep has it to do. -/
def State.sweepDueAt (s : State) (ch : Nat) : Prop :=
  s.present (s.chCfg ch).unit = true ∧ (s.chan ch).unconditioned = true

/-- A listing checks the entry before it looks at unit and item (log entry 51), which the check leaves as they are. -/
theorem sweepDueAt_useChannel (ch j : Nat) (s : State) : (useChannel ch s).sweepDueAt j ↔ s.sweepDueAt j := by
  have unit : (useChannel ch s).present ((useChannel ch s).chCfg j).unit = s.present (s.chCfg j).unit := by
    rw [useChannel_chCfg, State.present, State.unit, (useChannel_frame ch s).units, State.present, State.unit]
  have item : ((useChannel ch s).chan j).unconditioned = (s.chan j).unconditioned := by
    rw [useChannel_chan]
    split <;> rfl
  rw [State.sweepDueAt, unit, item, State.sweepDueAt]

theorem listChannel_of_other (other : ¬s.sweepDueAt ch) : listChannel s ch = useChannel ch s := by
  refine if_pos ?_
  rwa [← Bool.not_and, Bool.not_eq_true', ← Bool.not_eq_true, Bool.and_eq_true, ← State.sweepDueAt, sweepDueAt_useChannel]

theorem listChannel_of_due (due : s.sweepDueAt ch) : listChannel s ch =
    if (useChannel ch s).marked .channels ch then setBad ch (useChannel ch s)
    else { useChannel ch s with engine := { (useChannel ch s).engine with
      remaining := (useChannel ch s).engine.remaining ++ [ch] } }.onChan ch fun c => { c with request := .waiting } := by
  refine if_neg ?_
  rwa [← Bool.not_and, Bool.not_eq_true', ← Bool.not_eq_true, not_not, Bool.and_eq_true, ← State.sweepDueAt,
    sweepDueAt_useChannel]

theorem listChannel_of_unsound (due : s.sweepDueAt ch)
    (unsound : s.foundBad .channels ch = true ∨ s.marked .channels ch = true) :
    listChannel s ch = setBad ch (useChannel ch s) :=
  (listChannel_of_due due).trans (if_pos (useChannel_marked unsound))

theorem listChannel_of_sound (due : s.sweepDueAt ch) (sound : s.foundBad .channels ch = false)
    (clear : s.marked .channels ch = false) : listChannel s ch =
      { s with engine := { s.engine with remaining := s.engine.remaining ++ [ch] } }.onChan ch fun c =>
        { c with request := .waiting } := by
  rw [listChannel_of_due due, useChannel_of_sound sound, clear, if_neg Bool.false_ne_true]

end

/-! ### A whole listing (R45, R46) -/

/-- A listing puts the channel into the remaining set. -/
def State.sweeps (s : State) (ch : Nat) : Bool :=
  s.present (s.chCfg ch).unit && (s.chan ch).unconditioned && !s.foundBad .channels ch && !s.marked .channels ch

theorem sweeps_iff (s : State) (ch : Nat) : s.sweeps ch = true ↔
    s.sweepDueAt ch ∧ s.foundBad .channels ch = false ∧ s.marked .channels ch = false := by
  simp [State.sweeps, State.sweepDueAt, and_assoc]

theorem withdrawRequest_remaining {s : State} {ch : Nat} (unlisted : ch ∉ s.engine.remaining) :
    (withdrawRequest ch s).engine.remaining = s.engine.remaining := by
  unfold withdrawRequest
  split
  · rw [sweepCounts_of_unlisted (s := s.onChan ch fun c => { c with request := .none }) unlisted]
    rfl
  · rfl

/-- A use of the entry of a channel that no sweep has left to do leaves the remaining set. -/
theorem useChannel_remaining {s : State} {ch : Nat} (unlisted : ch ∉ s.engine.remaining) :
    (useChannel ch s).engine.remaining = s.engine.remaining := by
  have marked : (markEntry .channels ch ch s).engine = s.engine :=
    (markEntry_frame (t := .channels) ch ch s (by decide)).engine
  unfold useChannel
  split
  · refine (withdrawRequest_remaining ?_).trans (congrArg EngineState.remaining marked)
    exact fun listed => unlisted (congrArg EngineState.remaining marked ▸ listed)
  · rfl

theorem listChannel_remaining {s : State} {ch : Nat} (unlisted : ch ∉ s.engine.remaining) :
    (listChannel s ch).engine.remaining = s.engine.remaining ++ [ch].filter s.sweeps := by
  by_cases listed : s.sweeps ch = true
  case pos =>
    obtain ⟨due, sound, clear⟩ := (sweeps_iff s ch).mp listed
    rw [listChannel_of_sound due sound clear, List.filter_cons_of_pos listed]
    rfl
  case neg =>
    rw [List.filter_cons_of_neg listed, List.filter_nil, List.append_nil, ← useChannel_remaining unlisted]
    by_cases due : s.sweepDueAt ch
    · have unsound : s.foundBad .channels ch = true ∨ s.marked .channels ch = true := by
        by_contra sound
        simp only [not_or, Bool.not_eq_true] at sound
        exact listed ((sweeps_iff s ch).mpr ⟨due, sound⟩)
      rw [listChannel_of_unsound due unsound]
      rfl
    · rw [listChannel_of_other due]

/-- The turn of one channel leaves what a listing does with another. -/
theorem sweeps_listChannel {s : State} {ch j : Nat} (other : ch ≠ j) : (listChannel s ch).sweeps j = s.sweeps j := by
  have frame := listChannel_frame s ch
  obtain ⟨found, marked⟩ := useChannel_entry j s ch (t := .channels) (by decide)
  have turn : (listChannel s ch).chan j = s.chan j ∧ (listChannel s ch).parity = (useChannel ch s).parity := by
    by_cases due : s.sweepDueAt ch
    · rw [listChannel_of_due due]
      split
      · exact ⟨(chan_onChan_other other _ _).trans (useChannel_other s other), rfl⟩
      · exact ⟨(chan_onChan_other other _ _).trans (useChannel_other s other), rfl⟩
    · rw [listChannel_of_other due]
      exact ⟨useChannel_other s other, rfl⟩
  have entry : (listChannel s ch).parity.get .channels = (useChannel ch s).parity.get .channels := by rw [turn.2]
  have cfg : (listChannel s ch).chCfg j = s.chCfg j := by rw [State.chCfg, frame.tables, State.chCfg]
  have unit (i : Nat) : (listChannel s ch).present i = s.present i := by
    rw [State.present, State.unit, frame.units, State.present, State.unit]
  rw [State.sweeps, unit, cfg, turn.1, foundBad_congr entry, marked_congr entry, found, marked (.inr other),
    decide_eq_false other, Bool.and_false, Bool.not_false, Bool.and_true, State.sweeps]

/-- A listing puts the channels it sweeps behind those left to do, in their order. -/
theorem foldl_listChannel_remaining {l : List Nat} (nodup : l.Nodup) (s : State)
    (unlisted : ∀ ch ∈ l, ch ∉ s.engine.remaining) :
    (l.foldl listChannel s).engine.remaining = s.engine.remaining ++ l.filter s.sweeps := by
  induction l generalizing s with
  | nil => exact (List.append_nil _).symm
  | cons ch l ih =>
    obtain ⟨fresh, nodup⟩ := List.nodup_cons.mp nodup
    have turn := listChannel_remaining (unlisted ch List.mem_cons_self)
    have others : l.filter (listChannel s ch).sweeps = l.filter s.sweeps :=
      List.filter_congr fun j member => sweeps_listChannel fun here => fresh (here ▸ member)
    rw [List.foldl_cons, ih nodup, turn, others, List.append_assoc, ← List.filter_append]
    · rfl
    · intro j member listed
      rw [turn, List.mem_append, List.mem_filter, List.mem_singleton] at listed
      rcases listed with before | ⟨rfl, -⟩
      · exact unlisted j (List.mem_cons_of_mem ch member) before
      · exact fresh member

section
variable {s : State}

theorem beginSweep_eq (s : State) : beginSweep s =
    if (s.surveyed.foldl listChannel s).engine.remaining = [] then
      occur Src.sweepDone noSubject (s.surveyed.foldl listChannel s)
    else s.surveyed.foldl listChannel s := by
  simp only [beginSweep, occurIf, List.isEmpty_iff]

theorem beginSweep_engine (s : State) : (beginSweep s).engine = (s.surveyed.foldl listChannel s).engine := by
  rw [beginSweep, occurIf_only]

/-! ### SWEEP and the period timer (R47, R48, R209) -/

theorem sweepRequest_of_idle (args : List Octet) (idle : s.engine.remaining = []) : sweepRequest args s =
    ⟨.ok, be 1 (s.surveyed.foldl listChannel s).engine.remaining.length, beginSweep s⟩ := by
  rw [sweepRequest, idle, ← beginSweep_engine]
  rfl

theorem sweepRequest_of_running (args : List Octet) (running : s.engine.remaining ≠ []) :
    sweepRequest args s = ⟨.wrongState, [], s⟩ := if_neg (mt List.isEmpty_iff.mp running)

theorem exec_sweepPeriodExpiry (s : State) : exec .sweepPeriodExpiry s =
    .next (if fires s.now s.engine.sweepDue then sweepPeriod s else s) := rfl

theorem sweepPeriod_of_marked (sound : s.foundBad .station 0 = false) (marked : s.marked .station 0 = true) :
    sweepPeriod s = s := by
  rw [sweepPeriod, checkStation_of_sound sound, marked]
  rfl

theorem sweepPeriod_of_sound (sound : s.foundBad .station 0 = false) (clear : s.marked .station 0 = false) :
    sweepPeriod s = if s.engine.remaining = [] then beginSweep (startSweepTimer s) else startSweepTimer s := by
  simp only [sweepPeriod, checkStation_of_sound sound, clear, Bool.false_eq_true, if_false, List.isEmpty_iff]

/-- A STATION record found bad stops the timer, and no sweep begins (R209, log entry 21). -/
theorem sweepPeriod_of_bad (bad : s.foundBad .station 0 = true) : sweepPeriod s =
    { occur Src.tableParity 0 (s.setMark .station 0) with engine := { s.engine with sweepDue := none } } := by
  have checked : checkStation s =
      { occur Src.tableParity 0 (s.setMark .station 0) with engine := { s.engine with sweepDue := none } } := by
    rw [checkStation, if_pos bad, markEntry_eq_occur, occur_only]
    rfl
  have marked : (checkStation s).marked .station 0 = true := by
    have mark : (checkStation s).parity.get .station = (markEntry .station 0 0 s).parity.get .station := by
      rw [checkStation, if_pos bad]
    rw [marked_congr mark, (markEntry_spec s 0 0 0 bad (by decide)).1]
    simp
  exact (if_pos marked).trans checked

end

/-! ### The obligation -/

/-- Settles O15: the engine takes the first of the waiting set, and a listing goes channel by channel, each turn leaving what
the listing does with the others. -/
theorem engineAndSweepsBegin : Obligations.EngineAndSweepsBegin := by
  refine ⟨fun s => ⟨exec_engineSelect_of_none, fun ch place free waits lowest => ?select⟩, fun s ch => ?counts,
    fun s ch place sized => ?turn, fun s sized idle => ?listing, fun s sized => ?sweep⟩
  case select =>
    rw [exec_engineSelect_of_lowest place free waits lowest]
    refine ⟨fun sound clear filter => ?sound, fun sound clear p profile bad => ?filter, fun marked => ?marked,
      fun bad => ?bad⟩
    case sound =>
      rw [beginService_of_sound sound clear, useFilter_of_sound filter]
    case filter =>
      intro x
      have engine : x.engine = s.engine := (occur_frame _ _ _).engine
      rw [beginService_of_sound sound clear, profile, conditioning_useFilter_of_bad profile bad, useFilter_of_bad bad,
        engine]
    case marked =>
      rw [beginService_of_unsound (.inr marked), useChannel_of_sound (not_foundBad_of_marked marked), serviceFails_eq]
    case bad => rw [beginService_of_unsound (.inl bad), serviceFails_eq]
  case counts =>
    intro rest counted
    refine ⟨sweepCounts_of_unlisted, fun listed going => ?going, fun listed emptied => ?emptied⟩
    case going => exact (sweepCounts_of_listed listed).trans (if_neg (mt List.isEmpty_iff.mp going))
    case emptied => exact (sweepCounts_of_listed listed).trans (if_pos (List.isEmpty_iff.mpr emptied))
  case turn =>
    intro u due
    have used : useChannel ch s = u := by
      refine (?_ : u = useChannel ch s).symm
      by_cases bad : s.foundBad .channels ch = true
      · exact if_pos bad
      · rw [useChannel_of_sound (Bool.eq_false_iff.mpr bad)]
        exact if_neg bad
    refine ⟨fun other => (listChannel_of_other other).trans used, fun due unsound => ?_, listChannel_of_sound⟩
    rw [listChannel_of_unsound due unsound, used, setBad]
  case listing =>
    have nodup : s.surveyed.Nodup := List.nodup_range.filter _
    rw [foldl_listChannel_remaining nodup s (by simp [idle]), idle, List.nil_append]
    rfl
  case sweep =>
    intro begun restarted
    have begins (x : State) (surveyed : x.surveyed = s.surveyed) : begun x = beginSweep x := by
      rw [beginSweep_eq, surveyed]
    refine ⟨fun q asks => ⟨fun idle => ?idle, fun running => ?running⟩, fun fired sound clear =>
      ⟨fun idle => ?begins, fun running => ?restarts⟩, fun fired bad => ?bad, fun early => ?early,
      fun sound marked => ?marked⟩
    case idle =>
      have served := serve_of_asks (f := sweepRequest) asks (by decide) rfl
      rw [sweepRequest_of_idle [] idle] at served
      rw [begins s rfl]
      exact served
    case running => exact serve_of_asks_same asks (by decide) rfl (sweepRequest_of_running [] running)
    case begins =>
      rw [exec_sweepPeriodExpiry, if_pos fired, sweepPeriod_of_sound sound clear, if_pos idle, begins restarted rfl]
      rfl
    case restarts =>
      rw [exec_sweepPeriodExpiry, if_pos fired, sweepPeriod_of_sound sound clear, if_neg running]
      rfl
    case bad => rw [exec_sweepPeriodExpiry, if_pos fired, sweepPeriod_of_bad bad]
    case early => rw [exec_sweepPeriodExpiry, early, if_neg Bool.false_ne_true]
    case marked => rw [exec_sweepPeriodExpiry, sweepPeriod_of_marked sound marked, ite_self]

end Sys2Proof.Machine

/-!
SUPPORT. A conditioning's completion (R42, R44, R49 to R57): the stages by case, the record they write, what stands of it
behind the notices and the acceptance of a pending item, and the runs and trains a notice reaches.
-/

namespace Sys2Proof.Machine

/-! ### The stages (R49 to R54) -/

theorem ne_clampInt_iff (lo hi v : Int) : v ≠ clampInt lo hi v ↔ v < lo ∨ hi < v := by
  unfold clampInt
  split
  next below => exact ⟨fun _ => .inl below, fun _ => by omega⟩
  next =>
    split
    next above => exact ⟨fun _ => .inr above, fun _ => by omega⟩
    next => exact ⟨fun differs => absurd rfl differs, fun outside => by omega⟩

theorem isBad_eq (k : Conditioning) :
    k.isBad = decide (k.raw < k.cfg.rawMin ∨ k.cfg.rawMax < k.raw ∨ octetQuality k.rawQ = .bad) := by
  rw [Conditioning.isBad, Bool.or_assoc, Bool.decide_or, Bool.decide_or]

/-- The scaled value is clamped exactly where the clamp changes it (R51). -/
theorem clamps_eq (k : Conditioning) : k.clamps =
    decide (scaledValue k.cfg k.raw ≠ clampInt k.cfg.engMin k.cfg.engMax (scaledValue k.cfg k.raw)) := by
  rw [Conditioning.clamps, ← Bool.decide_or, decide_eq_decide, ne_clampInt_iff]

/-- The filter sum, tap by tap over a history that has a value for each (R52). -/
theorem filterSum_eq {taps : List (List Term)} {history : List Int} (filled : taps.length ≤ history.length) :
    filterSum taps history =
      ((List.range taps.length).map fun j => tapWeight (taps.getD j []) * history.getD j 0).sum := by
  refine congrArg List.sum (List.ext_getElem (by simp [filled]) fun j inside inside' => ?_)
  have place : j < taps.length := by simpa using inside'
  simp [place, place.trans_le filled]

section
variable (c : ChannelCfg) {f : FilterUse} (scaled : Int) (history : List Int)

theorem filteredValue_of_none (unfiltered : f.profile = none) : filteredValue c f scaled history = scaled := by
  rw [filteredValue, unfiltered]

variable {p : Profile} (profile : f.profile = some p)
include profile

theorem filteredValue_of_plain (plain : f.marked = true ∨ history.length < p.taps.length) :
    filteredValue c f scaled history = scaled := by
  rw [filteredValue, profile]
  refine if_pos ?_
  rwa [Bool.or_eq_true, decide_eq_true_eq]

theorem filteredValue_of_taps (clear : f.marked = false) (filled : p.taps.length ≤ history.length) :
    filteredValue c f scaled history = clampInt c.engMin c.engMax (roundHalfAway
      ((List.range p.taps.length).map fun j => tapWeight (p.taps.getD j []) * history.getD j 0).sum 32768) := by
  rw [filteredValue, profile, ← filterSum_eq filled]
  refine if_neg ?_
  rw [clear, Bool.false_or, decide_eq_true_eq]
  exact Nat.not_lt.mpr filled

end

section
variable {m : Comparator} (out : Bool) (v : Int)

/-! Where the output is true the hysteresis widens its range, on either side (R54). -/

theorem comparatorAfter_off (mode : m.mode = .off) : comparatorAfter m out v = false := by
  rw [comparatorAfter, mode]

theorem comparatorAfter_above (mode : m.mode = .above) : comparatorAfter m out v = true ↔
    if out = true then m.t1 - m.hyst ≤ v else m.t1 < v := by
  rw [comparatorAfter, mode]
  cases out <;> simp

theorem comparatorAfter_below (mode : m.mode = .below) : comparatorAfter m out v = true ↔
    if out = true then v ≤ m.t1 + m.hyst else v < m.t1 := by
  rw [comparatorAfter, mode]
  cases out <;> simp

theorem comparatorAfter_inside (mode : m.mode = .inside) : comparatorAfter m out v = true ↔
    if out = true then m.t1 - m.hyst ≤ v ∧ v ≤ m.t2 + m.hyst else m.t1 ≤ v ∧ v ≤ m.t2 := by
  rw [comparatorAfter, mode]
  cases out <;> simp

theorem comparatorAfter_outside (mode : m.mode = .outside) : comparatorAfter m out v = true ↔
    if out = true then ¬(m.t1 + m.hyst ≤ v ∧ v ≤ m.t2 - m.hyst) else v < m.t1 ∨ m.t2 < v := by
  rw [comparatorAfter, mode]
  cases out <;> simp [or_iff_not_imp_left]

end

/-! ### The record a conditioning writes (R49 to R56) -/

section
variable {k : Conditioning} (c : ChannelState)

theorem write_of_bad (bad : k.isBad = true) : k.write c = { c with quality := .bad } := if_pos bad

/-- The quality of a result that is not BAD; a stopped age timer is taken as STALE (log entry 55). -/
theorem quality_eq (k : Conditioning) : k.quality c.ageStart.isNone =
    if c.ageStart = none then .stale
    else if octetQuality k.rawQ = .suspect ∨
        scaledValue k.cfg k.raw ≠ clampInt k.cfg.engMin k.cfg.engMax (scaledValue k.cfg k.raw) ∨
        (k.filter.profile ≠ none ∧ k.filter.marked = true) then .suspect
    else .good := by
  rw [Conditioning.quality, clamps_eq]
  simp only [Option.isNone_iff_eq_none, Bool.or_eq_true, Bool.and_eq_true, decide_eq_true_eq, or_assoc,
    Option.isSome_iff_ne_none]

theorem peakWith_eq (f : Int → Int → Int) (peak : Option Int) (v : Int) :
    peakWith f peak v = some ((peak.map fun p => f p v).getD v) := by
  cases peak <;> rfl

/-- The filtered value a conditioning works out on a record. -/
def Conditioning.filtered (k : Conditioning) (c : ChannelState) : Int :=
  filteredValue k.cfg k.filter (clampInt k.cfg.engMin k.cfg.engMax (scaledValue k.cfg k.raw))
    ((clampInt k.cfg.engMin k.cfg.engMax (scaledValue k.cfg k.raw) :: c.history).take 8)

theorem write_of_notBad (good : k.isBad = false) : k.write c = { c with
    scaled := some (clampInt k.cfg.engMin k.cfg.engMax (scaledValue k.cfg k.raw))
    history := (clampInt k.cfg.engMin k.cfg.engMax (scaledValue k.cfg k.raw) :: c.history).take 8
    filtered := some (k.filtered c)
    quality := k.quality c.ageStart.isNone
    peakMax := peakWith max c.peakMax (clampInt k.cfg.engMin k.cfg.engMax (scaledValue k.cfg k.raw))
    peakMin := peakWith min c.peakMin (clampInt k.cfg.engMin k.cfg.engMax (scaledValue k.cfg k.raw))
    cmpA := comparatorAfter k.cfg.cmpA c.cmpA (k.filtered c)
    cmpB := comparatorAfter k.cfg.cmpB c.cmpB (k.filtered c)
    lastGood := if k.quality c.ageStart.isNone = .good then some (k.filtered c) else c.lastGood } :=
  if_neg (Bool.eq_false_iff.mp good)

/-- The record with the results of another: what a conditioning writes, and an acceptance does not. -/
def ChannelState.withResults (c x : ChannelState) : ChannelState := { c with
  scaled := x.scaled
  history := x.history
  filtered := x.filtered
  quality := x.quality
  peakMax := x.peakMax
  peakMin := x.peakMin
  cmpA := x.cmpA
  cmpB := x.cmpB
  lastGood := x.lastGood }

theorem withResults_write (k : Conditioning) (c : ChannelState) : c.withResults (k.write c) = k.write c := by
  cases bad : k.isBad
  · rw [write_of_notBad c bad]
    rfl
  · rw [write_of_bad c bad]
    rfl

theorem write_pendingItem (k : Conditioning) (c : ChannelState) : (k.write c).pendingItem = c.pendingItem := by
  rw [← withResults_write]
  rfl

end

/-! ### The pending item (R35, R41, R42) -/

theorem busy_iff (s : State) (ch : Nat) : s.busy ch = true ↔
    (s.chan ch).custody ≠ none ∨ (s.chan ch).request ≠ .none ∨ ∃ k, s.engine.serving = some (ch, k) := by
  have serves : s.servingChannel ch = true ↔ ∃ k, s.engine.serving = some (ch, k) := by
    unfold State.servingChannel
    split
    next c k serving =>
      rw [serving]
      simp
    next free => simp [free]
  rw [State.busy, Bool.or_eq_true, Bool.or_eq_true, serves, Option.isSome_iff_ne_none, decide_eq_true_eq, or_assoc]

section
variable {s : State} {ch : Nat}

theorem examinePending_of_waiting (waits : (s.chan ch).pendingItem = none ∨ (s.chan ch).intervalUntil ≠ none ∨
    s.busy ch = true) : examinePending ch s = s := by
  rw [examinePending]
  rcases waits with empty | running | busy
  · rw [empty]
  · rw [Option.isNone_eq_false_iff.mpr (Option.isSome_iff_ne_none.mpr running)]
    cases (s.chan ch).pendingItem <;> rfl
  · rw [busy, Bool.not_true, Bool.and_false]
    cases (s.chan ch).pendingItem <;> rfl

theorem examinePending_of_ready {item : Item} (pending : (s.chan ch).pendingItem = some item)
    (ended : (s.chan ch).intervalUntil = none) (free : s.busy ch = false) : examinePending ch s = accept ch item s := by
  rw [examinePending, pending, ended, free]
  rfl

theorem filterUse_of_zero {p : Nat} (unfiltered : p = 0) : s.filterUse p = ⟨none, false⟩ := if_pos unfiltered

theorem filterUse_of_succ {n p : Nat} (profile : n = p + 1) :
    s.filterUse n = ⟨some (s.tables.filters.getD p .passing), s.marked .filters p⟩ := by
  rw [profile]
  rfl

/-- The pending slot is left as it is, or its item accepted. -/
theorem examinePending_cases (ch : Nat) (s : State) :
    examinePending ch s = s ∨ ∃ item, s.busy ch = false ∧ examinePending ch s = accept ch item s := by
  cases pending : (s.chan ch).pendingItem with
  | none => exact .inl (examinePending_of_waiting (.inl pending))
  | some item =>
    by_cases ended : (s.chan ch).intervalUntil = none
    · cases free : s.busy ch
      · exact .inr ⟨item, rfl, examinePending_of_ready pending ended free⟩
      · exact .inl (examinePending_of_waiting (.inr (.inr free)))
    · exact .inl (examinePending_of_waiting (.inr (.inl ended)))

theorem useFilter_keepsChannels (p : Nat) (s : State) : KeepsChannels s (useFilter p s) :=
  .ite (.refl s) (.ite (markEntry_keepsChannels s _ p (by decide)) (.refl s))

theorem beginCustody_checked {j : Nat} (other : ch ≠ j) (s : State) : Checked j s (beginCustody ch s) := by
  have used := useChannel_checked j s ch
  unfold beginCustody
  dsimp only
  split
  · exact (used.trans (onChan_checked other _ _)).trans (completionNotices_checked j _ ch)
  · exact (used.trans ((useFilter_keepsChannels _ _).checked j)).trans (onChan_checked other _ _)

theorem accept_checked {j : Nat} (other : ch ≠ j) (item : Item) (s : State) : Checked j s (accept ch item s) := by
  rw [accept_eq]
  refine (onChan_checked other (s.taken ch item) s).trans ?_
  unfold proceed
  split
  · exact beginCustody_checked other _
  · exact onChan_checked other _ _
  · exact onChan_checked other _ _

theorem examinePending_checked {j : Nat} (other : ch ≠ j) (s : State) : Checked j s (examinePending ch s) := by
  rcases examinePending_cases ch s with stays | ⟨item, -, accepted⟩
  · rw [stays]
    exact .refl j s
  · rw [accepted]
    exact accept_checked other item s

/-- An acceptance leaves the engine's service as it is. -/
theorem examinePending_serving (ch : Nat) (s : State) : (examinePending ch s).engine.serving = s.engine.serving :=
  (examinePending_checked (Nat.succ_ne_self ch).symm s).serving

/-- An acceptance at a sound entry leaves the results of the conditioning before it. -/
theorem withResults_accept (c : ChannelState) (item : Item) (place : ch < s.chans.length)
    (sound : s.foundBad .channels ch = false) (clear : s.marked .channels ch = false) (free : s.busy ch = false) :
    c.withResults ((accept ch item s).chan ch) = c.withResults (s.chan ch) := by
  cases cls : (s.chCfg ch).cls with
  | process =>
    rw [accept_of_process item cls free, chan_onChan_same _ place]
    rfl
  | survey =>
    rw [accept_of_survey item cls, chan_onChan_same _ place]
    rfl
  | custody =>
    have filter := useFilter_keepsChannels (s.chCfg ch).profile (s.onChan ch (s.taken ch item))
    have inside : ch < (useFilter (s.chCfg ch).profile (s.onChan ch (s.taken ch item))).chans.length := by
      simpa [filter.chans] using place
    rw [accept_of_custody item cls, beginCustody_taken item place sound clear, chan_onChan_same _ inside, filter.chan,
      chan_onChan_same _ place]
    rfl

end

/-! ### Behind the results (R50, R51, R54, R57) -/

/-- The events of the stages, by the record before and after. -/
def Conditioning.latch (k : Conditioning) (ch : Nat) (before after : ChannelState) (s : State) : State :=
  occurIf (!before.cmpB && after.cmpB) Src.compareB ch (occurIf (!before.cmpA && after.cmpA) Src.compareA ch
    (occurIf (!k.isBad && k.clamps) Src.engClamp ch (occurIf k.isBad Src.rawRange ch s)))

/-- Notices of comparators that went from `before` to `after`. -/
def tellComparators (ch : Nat) (before after : ChannelState) (s : State) : State :=
  let told := if before.cmpA = after.cmpA then s else dryComparator ch .a after.cmpA s
  if before.cmpB = after.cmpB then told else dryComparator ch .b after.cmpB told

section
variable {s : State} {ch : Nat} (k : Conditioning)

theorem latch_keepsChannels (ch : Nat) (before after : ChannelState) (s : State) :
    KeepsChannels s (k.latch ch before after s) :=
  (((occurIf_keepsChannels s _ _ _).trans (occurIf_keepsChannels _ _ _ _)).trans (occurIf_keepsChannels _ _ _ _)).trans
    (occurIf_keepsChannels _ _ _ _)

theorem comparatorNotices_checked (j : Nat) (before : ChannelState) (s : State) :
    Checked j s (comparatorNotices ch before s) :=
  Checked.trans (.ite (.refl j s) (dryComparator_checked j s ch _ _)) (.ite (.refl j _) (dryComparator_checked j _ ch _ _))

/-- Behind the results no operation reaches a channel but by a check of its entry. -/
theorem finishConditioning_checked (ch j : Nat) (s : State) : Checked j (s.onChan ch k.write) (finishConditioning ch k s) :=
  (((latch_keepsChannels k ch (s.chan ch) ((s.onChan ch k.write).chan ch) (s.onChan ch k.write)).checked j).trans
    (completionNotices_checked j _ ch)).trans (comparatorNotices_checked j (s.chan ch) _)

/-- A check of a channel leaves its comparator outputs, so the notices go by those just written. -/
theorem comparatorNotices_of_checked {t : State} (before : ChannelState) (h : Checked ch s t) :
    comparatorNotices ch before t = tellComparators ch before (s.chan ch) t := by
  have outputs : (t.chan ch).cmpA = (s.chan ch).cmpA ∧ (t.chan ch).cmpB = (s.chan ch).cmpB := by
    rcases h.record with same | found
    · rw [same]
      exact ⟨rfl, rfl⟩
    · rw [found]
      exact ⟨rfl, rfl⟩
  rw [comparatorNotices, outputs.1, outputs.2, tellComparators]

theorem finishConditioning_eq (place : ch < s.chans.length) : finishConditioning ch k s =
    tellComparators ch (s.chan ch) (k.write (s.chan ch)) (completionNotices ch
      (k.latch ch (s.chan ch) (k.write (s.chan ch)) (s.onChan ch fun _ => k.write (s.chan ch)))) := by
  have written : s.onChan ch k.write = s.onChan ch fun _ => k.write (s.chan ch) := onChan_congr rfl
  have after : (s.onChan ch fun _ => k.write (s.chan ch)).chan ch = k.write (s.chan ch) := chan_onChan_same _ place
  have unfolded : finishConditioning ch k s = comparatorNotices ch (s.chan ch) (completionNotices ch
      (k.latch ch (s.chan ch) ((s.onChan ch k.write).chan ch) (s.onChan ch k.write))) := rfl
  have notices := comparatorNotices_of_checked (s.chan ch) (((latch_keepsChannels k ch (s.chan ch)
    (k.write (s.chan ch)) (s.onChan ch fun _ => k.write (s.chan ch))).checked ch).trans (completionNotices_checked ch _ ch))
  rw [after] at notices
  rw [unfolded, written, after, notices]

end

/-! What stands of a record `k` wrote in state `u`, in a state `w` behind it that checks alone have reached. -/

section
variable {u w : State} {ch : Nat} {k : Conditioning} (place : ch < u.chans.length)
  (behind : ∀ j, Checked j (u.onChan ch k.write) w)
include place behind

theorem written_or_found : w.chan ch = k.write (u.chan ch) ∨ w.chan ch = (k.write (u.chan ch)).found := by
  rw [← chan_onChan_same k.write place]
  exact (behind ch).record

theorem written_of_sound (sound : u.foundBad .channels ch = false) : w.chan ch = k.write (u.chan ch) := by
  rw [← chan_onChan_same k.write place]
  exact ((behind ch).sound sound).1

theorem examinePending_of_empty (empty : (u.chan ch).pendingItem = none) : examinePending ch w = w := by
  refine examinePending_of_waiting (.inl ?_)
  rcases written_or_found place behind with same | found
  · rw [same, write_pendingItem, empty]
  · rw [found]
    rfl

/-- A pending item that is accepted behind the conditioning leaves its results standing. -/
theorem withResults_examinePending (sound : u.foundBad .channels ch = false) (clear : u.marked .channels ch = false) :
    (u.chan ch).withResults ((examinePending ch w).chan ch) = k.write (u.chan ch) := by
  obtain ⟨-, sound', marked⟩ := (behind ch).sound sound
  have results : (u.chan ch).withResults (w.chan ch) = k.write (u.chan ch) := by
    rw [written_of_sound place behind sound, withResults_write]
  have inside : ch < w.chans.length := by
    rw [(behind ch).length, State.onChan_chans, List.length_modify]
    exact place
  rcases examinePending_cases ch w with stays | ⟨item, free, accepted⟩
  · rw [stays, results]
  · rw [accepted, withResults_accept _ item inside sound' (marked.trans clear) free, results]

end

/-! ### The completions (R42, R44) -/

section
variable {s : State} {ch : Nat} {k : Conditioning}

theorem exec_custodyConditioningDone (place : ch < 64) (custody : (s.chan ch).custody = some k) :
    exec (.custodyConditioningDone ch) s = .next (custodyDone ch k s) := by
  have arm : exec (.custodyConditioningDone ch) s = execCustodyConditioningDone ch s := rfl
  rw [arm, execCustodyConditioningDone, if_neg (Nat.not_le.mpr place), custody]

theorem exec_engineConditioningDone (serving : s.engine.serving = some (ch, k)) :
    exec .engineConditioningDone s = .next (engineDone ch k s) := by
  have arm : exec .engineConditioningDone s = execEngineConditioningDone s := rfl
  rw [arm, execEngineConditioningDone, serving]

theorem custodyDone_of_live (live : k.discard = false) : custodyDone ch k s =
    examinePending ch (finishConditioning ch k (s.onChan ch fun c => { c with custody := none })) := by
  rw [custodyDone, live, if_neg Bool.false_ne_true]

/-- The engine is free and the channel asks for no service. -/
def freeEngine (ch : Nat) (s : State) : State :=
  { s with engine := { s.engine with serving := none } }.onChan ch fun c => { c with request := .none }

theorem engineDone_of_live (live : k.discard = false) : engineDone ch k s =
    examinePending ch (sweepCounts ch (finishConditioning ch k (freeEngine ch s))) := by
  rw [engineDone, live, if_neg Bool.false_ne_true]
  rfl

/-- A void result is discarded (R32); an empty pending slot stays as it is. -/
theorem custodyDone_of_void (void : k.discard = true) (empty : (s.chan ch).pendingItem = none) :
    custodyDone ch k s = s.onChan ch fun c => { c with custody := none } := by
  rw [custodyDone, if_pos void]
  refine examinePending_of_waiting (.inl ?_)
  rw [State.chan_onChan]
  split <;> exact empty

theorem engineDone_of_void (void : k.discard = true) (empty : (s.chan ch).pendingItem = none)
    (unlisted : ch ∉ s.engine.remaining) : engineDone ch k s =
      { s with engine := { s.engine with serving := none } } := by
  have counted : sweepCounts ch { s with engine := { s.engine with serving := none } } =
      { s with engine := { s.engine with serving := none } } := sweepCounts_of_unlisted unlisted
  rw [engineDone, if_pos void, counted]
  exact examinePending_of_waiting (.inl empty)

end

/-! ### The run whose flow channel it is (R57, R66) -/

theorem flowCh_iff (c : RunCfg) (ch : Nat) : c.flowCh = some ch ↔ c.role ≠ .unused ∧ c.flow = ch := by
  unfold RunCfg.flowCh RunCfg.names
  split
  next unused => simp [unused]
  next used => simp [used]

/-- A completion of channel `ch` as run `r` takes it. -/
def flowTurn (ch : Nat) (s : State) (r : Nat) : State := if (s.runCfg r).flowCh = some ch then trigger r s else s

theorem flowCompletion_eq_foldl (ch : Nat) (s : State) : flowCompletion ch s = (List.range 8).foldl (flowTurn ch) s := rfl

theorem foldl_flowTurn_of_unnamed {ch : Nat} {s : State} {l : List Nat}
    (unnamed : ∀ r ∈ l, (s.runCfg r).flowCh ≠ some ch) :
    l.foldl (flowTurn ch) s = s := by
  induction l with
  | nil => rfl
  | cons r l ih =>
    have turn : flowTurn ch s r = s := if_neg (unnamed r List.mem_cons_self)
    rw [List.foldl_cons, turn, ih fun j member => unnamed j (List.mem_cons_of_mem r member)]

/-- One run at most has a flow channel, so the trigger is the whole completion. -/
theorem flowCompletion_of_one {ch r : Nat} {s : State} (place : r < 8) (names : (s.runCfg r).flowCh = some ch)
    (alone : ∀ j < 8, j ≠ r → (s.runCfg j).flowCh ≠ some ch) : flowCompletion ch s = trigger r s := by
  obtain ⟨before, behind, runs⟩ := List.append_of_mem (List.mem_range.mpr place)
  have nodup : (before ++ r :: behind).Nodup := runs ▸ List.nodup_range
  obtain ⟨-, tail, disjoint⟩ := List.nodup_append.mp nodup
  have small (j : Nat) (member : j ∈ before ++ r :: behind) : j < 8 := List.mem_range.mp (runs ▸ member)
  have cfg (j : Nat) : (trigger r s).runCfg j = s.runCfg j := by
    rw [State.runCfg, (trigger_frame r s).tables, State.runCfg]
  have turn : flowTurn ch s r = trigger r s := if_pos names
  have first : before.foldl (flowTurn ch) s = s := foldl_flowTurn_of_unnamed fun j member =>
    alone j (small j (by simp [member])) (disjoint j member r List.mem_cons_self)
  have last : behind.foldl (flowTurn ch) (trigger r s) = trigger r s := foldl_flowTurn_of_unnamed fun j member => by
    rw [cfg]
    exact alone j (small j (by simp [member])) fun here => (List.nodup_cons.mp tail).1 (here ▸ member)
  rw [flowCompletion_eq_foldl, runs, List.foldl_append, List.foldl_cons, first, turn, last]

/-! ### The trains that name a comparator (R139, R146, R153) -/

/-- A train in use acts on its breakthrough comparator before its regen comparator. -/
theorem trainComparator_eq (i ch : Nat) (which : CmpId) (output : Bool) (s : State) :
    trainComparator i ch which output s =
      let broke := if (s.dryerCfg i).inUse = true ∧ (s.dryerCfg i).outlet = ch ∧ (s.dryerCfg i).breakCmp = which then
          if output = true then breakthrough i s else useTrain i s
        else s
      if (s.dryerCfg i).inUse = true ∧ (s.dryerCfg i).regenCh = some ch ∧ (s.dryerCfg i).regenCmp = some which then
        regenChanged i broke
      else broke := by
  unfold trainComparator State.trainInUse
  by_cases used : (s.dryerCfg i).inUse = true
  · by_cases breaks : (s.dryerCfg i).outlet = ch ∧ (s.dryerCfg i).breakCmp = which
    · cases output <;> simp [used, breaks]
    · simp only [used, Bool.and_eq_true, decide_eq_true_eq, breaks, false_and, true_and, if_true, if_false]
  · simp [used]

theorem regenChanged_of_still {i : Nat} {s : State} (still : (useTrain i s).marked .dryers i = true ∨
    ((useTrain i s).train i).held = true) : regenChanged i s = useTrain i s :=
  if_pos (Bool.or_eq_true_iff.mpr still)

theorem regenChanged_of_free {i : Nat} {s : State} (clear : (useTrain i s).marked .dryers i = false)
    (free : ((useTrain i s).train i).held = false) :
    regenChanged i s = evalTrain i (testAllHeating i (useTrain i s)) := by
  refine if_neg ?_
  rw [clear, free]
  exact Bool.false_ne_true

/-! ### The obligation -/

/-- Settles O14: the record is what the stages write, and behind it checks of entries alone reach a channel, until the
pending item is accepted. -/
theorem conditioningWritesItsChannel : Obligations.ConditioningWritesItsChannel := by
  refine ⟨fun s ch k place sized live => ?conditioning, fun z ch place sized => ?pending, fun s ch => ?flow,
    fun s i ch which output => ?trains, fun s ch k place void empty =>
      ⟨fun custody => ?custody, fun serving unlisted => ?engine⟩⟩
  case conditioning =>
    intro bad exact scaled weight sum filtered compared result found outcome completed
    have compares (m : Comparator) (v : Int) (out : Bool) : compared m v out (comparatorAfter m out v) :=
      ⟨comparatorAfter_off out v, comparatorAfter_above out v, comparatorAfter_below out v, comparatorAfter_inside out v,
        comparatorAfter_outside out v⟩
    have results (c : ChannelState) : result c (k.write c) := by
      refine ⟨fun isBad => write_of_bad c ((isBad_eq k).trans (decide_eq_true isBad)), fun good => ?_⟩
      have write := write_of_notBad c ((isBad_eq k).trans (decide_eq_false good))
      refine ⟨k.filtered c, ⟨filteredValue_of_none _ _ _, fun p profile => ⟨filteredValue_of_plain _ _ _ profile,
        filteredValue_of_taps _ _ _ profile⟩⟩, ?_, ?_, ?_⟩
      · rw [write]
        exact compares _ _ _
      · rw [write]
        exact compares _ _ _
      · rw [write, quality_eq, peakWith_eq, peakWith_eq]
        rfl
    have finished (x : State) (inside : ch < x.chans.length) : finishConditioning ch k x = completed x := by
      rw [finishConditioning_eq k inside, Conditioning.latch, isBad_eq, clamps_eq]
      rfl
    have outcomes {u w : State} (inside : ch < u.chans.length) (entries : u.parity = s.parity)
        (others : ∀ j, ch ≠ j → u.chan j = s.chan j) (behind : ∀ j, Checked j (u.onChan ch k.write) w) :
        outcome (u.chan ch) (examinePending ch w) := by
      have same : u.parity.get .channels = s.parity.get .channels := congrArg (Parity.get · .channels) entries
      have entry := foundBad_congr same
      refine ⟨fun empty => ?own, fun sound clear => ?stands, fun j other => ?other⟩
      case own =>
        rw [examinePending_of_empty inside behind empty]
        refine ⟨fun sound => ?_, k.write (u.chan ch), results _, written_or_found inside behind⟩
        rw [written_of_sound inside behind ((entry ch).trans sound)]
        exact results _
      case stands =>
        have stands := withResults_examinePending inside behind ((entry ch).trans (sound ch))
          ((marked_congr same ch).trans clear)
        exact (congrArg (result (u.chan ch)) stands).mpr (results _)
      case other =>
        have checked := ((onChan_checked other.symm k.write u).trans (behind j)).trans (examinePending_checked other.symm w)
        rw [← others j other.symm]
        exact ⟨fun sound => (checked.sound ((entry j).trans sound)).1, checked.record⟩
    refine ⟨results, fun custody => ⟨custodyDone ch k s, exec_custodyConditioningDone place custody, ?custodyDone⟩,
      fun serving => ⟨engineDone ch k s, exec_engineConditioningDone serving, ?engineDone⟩⟩
    case custodyDone =>
      have inside : ch < (s.onChan ch fun c => { c with custody := none }).chans.length := by simpa [sized] using place
      have record : (s.onChan ch fun c => { c with custody := none }).chan ch = { s.chan ch with custody := none } :=
        chan_onChan_same _ (sized ▸ place)
      rw [custodyDone_of_live live, ← finished _ inside, ← record]
      exact ⟨outcomes inside rfl (fun j other => chan_onChan_other other _ s)
        (fun j => finishConditioning_checked k ch j _), rfl⟩
    case engineDone =>
      have inside : ch < (freeEngine ch s).chans.length := by simpa [freeEngine, sized] using place
      have record : (freeEngine ch s).chan ch = { s.chan ch with request := .none } := chan_onChan_same _ (sized ▸ place)
      have behind (j : Nat) := (finishConditioning_checked k ch j (freeEngine ch s)).trans
        ((sweepCounts_keepsChannels _ ch).checked j)
      rw [engineDone_of_live live, ← record]
      exact ⟨outcomes inside rfl (fun j other => chan_onChan_other other _ s) behind,
        (examinePending_serving ch _).trans (behind ch).serving, by rw [finished _ inside]; rfl⟩
  case pending =>
    intro c g busy next
    have inside : ch < z.chans.length := by omega
    refine ⟨fun waits => examinePending_of_waiting (waits.imp_right (Or.imp_right (busy_iff z ch).mpr)),
      fun item pending ended free => ?accepted⟩
    intro taken put begun
    have free' : z.busy ch = false := Bool.eq_false_iff.mpr (mt (busy_iff z ch).mp free)
    have accepted : next = accept ch item z := examinePending_of_ready pending ended free'
    have taking : z.onChan ch (z.taken ch item) = put taken := onChan_congr rfl
    refine ⟨fun cls => accepted.trans ((accept_of_process item cls free').trans (onChan_congr rfl)),
      fun cls => accepted.trans ((accept_of_survey item cls).trans (onChan_congr rfl)),
      fun cls sound clear => ⟨fun unfiltered => ?unfiltered, fun p profile => ⟨fun fit => ?fit, fun bad => ?bad⟩⟩,
      fun cls unsound => ?unsound⟩
    case unfiltered =>
      have begins := accept_of_custody_sound item cls inside sound clear (.inl unfiltered)
      rw [filterUse_of_zero unfiltered] at begins
      exact accepted.trans (begins.trans (onChan_congr rfl))
    case fit =>
      have begins := accept_of_custody_sound item cls inside sound clear (.inr ((congrArg (z.foundBad .filters)
        (Nat.sub_eq_of_eq_add profile)).trans fit))
      rw [filterUse_of_succ profile] at begins
      exact accepted.trans (begins.trans (onChan_congr rfl))
    case bad =>
      have begins := accept_of_custody_badFilter item cls inside sound clear profile bad
      have record : (occur Src.tableParity (p + 1) ((put taken).setMark .filters p)).chan ch = taken :=
        ((occur_keepsChannels _ _ _).chan ch).trans (chan_onChan_same _ inside)
      rw [taking] at begins
      refine accepted.trans (begins.trans (onChan_congr ?_))
      rw [record]
    case unsound =>
      rw [accepted, accept_of_custody_unsound item cls unsound, taking]
      rfl
  case flow =>
    intro names
    refine ⟨fun unnamed => foldl_flowTurn_of_unnamed fun r member => ?_, fun r place named alone =>
      flowCompletion_of_one place ((flowCh_iff _ ch).mpr named) fun j small other => ?_⟩
    · exact mt (flowCh_iff _ ch).mp (unnamed r (List.mem_range.mp member))
    · exact mt (flowCh_iff _ ch).mp (alone j small other)
  case trains =>
    intro c breaks regens change checked tested
    have turn := trainComparator_eq i ch which output s
    refine ⟨rfl, fun quiet still => ?_, fun broke still => ⟨fun on => ?_, fun off => ?_⟩, fun quiet regen => ?_,
      fun broke regen => ⟨fun on => ?_, fun off => ?_⟩, regenChanged_of_still, regenChanged_of_free⟩
    · exact turn.trans ((if_neg still).trans (if_neg quiet))
    · exact turn.trans ((if_neg still).trans ((if_pos broke).trans (if_pos on)))
    · exact turn.trans ((if_neg still).trans ((if_pos broke).trans (if_neg (Bool.eq_false_iff.mp off))))
    · exact turn.trans ((if_pos regen).trans (congrArg (regenChanged i) (if_neg quiet)))
    · exact turn.trans ((if_pos regen).trans (congrArg (regenChanged i) ((if_pos broke).trans (if_pos on))))
    · exact turn.trans ((if_pos regen).trans (congrArg (regenChanged i)
        ((if_pos broke).trans (if_neg (Bool.eq_false_iff.mp off)))))
  case custody => rw [exec_custodyConditioningDone place custody, custodyDone_of_void void empty]
  case engine => rw [exec_engineConditioningDone serving, engineDone_of_void void empty unlisted]

end Sys2Proof.Machine

/-!
SUPPORT. The actual volume of a trigger (R69): the division by 360 loses nothing over any series of triggers.
-/

namespace Sys2Proof.Machine

theorem actualVolume_eq (q : Int) (dt r : Nat) :
    actualVolume q dt r = ((q.natAbs * dt + r) / 360, (q.natAbs * dt + r) % 360) := rfl

/-- One trigger divides its product and the residue before into volume and residue. -/
theorem actualVolume_conserves (q : Int) (dt r : Nat) :
    (actualVolume q dt r).1 * 360 + (actualVolume q dt r).2 = q.natAbs * dt + r := by
  rw [actualVolume_eq]
  exact Nat.div_add_mod' _ _

theorem actualVolume_residue_lt (q : Int) (dt r : Nat) : (actualVolume q dt r).2 < 360 := Nat.mod_lt _ (by decide)

theorem actualVolume_zero {r : Nat} (dt : Nat) (small : r < 360) : actualVolume 0 dt r = (0, r) := by
  rw [actualVolume_eq, Int.natAbs_zero, Nat.zero_mul, Nat.zero_add, Nat.div_eq_of_lt small, Nat.mod_eq_of_lt small]

/-- The volume summed so far with the residue, and one trigger more. -/
def addVolume (x : Nat × Nat) (t : Int × Nat) : Nat × Nat :=
  (x.1 + (actualVolume t.1 t.2 x.2).1, (actualVolume t.1 t.2 x.2).2)

theorem foldl_addVolume (triggers : List (Int × Nat)) (x : Nat × Nat) :
    (triggers.foldl addVolume x).1 * 360 + (triggers.foldl addVolume x).2 =
      x.1 * 360 + x.2 + (triggers.map fun t => t.1.natAbs * t.2).sum := by
  induction triggers generalizing x with
  | nil => simp
  | cons t rest ih =>
    calc
      _ = (x.1 + (actualVolume t.1 t.2 x.2).1) * 360 + (actualVolume t.1 t.2 x.2).2 +
          (rest.map fun t => t.1.natAbs * t.2).sum := ih (addVolume x t)
      _ = x.1 * 360 + (t.1.natAbs * t.2 + x.2) + (rest.map fun t => t.1.natAbs * t.2).sum := by
        rw [Nat.add_mul, Nat.add_assoc (x.1 * 360), actualVolume_conserves]
      _ = x.1 * 360 + x.2 + ((t :: rest).map fun t => t.1.natAbs * t.2).sum := by
        rw [List.map_cons, List.sum_cons, Nat.add_comm (t.1.natAbs * t.2), ← Nat.add_assoc, Nat.add_assoc]

/-- Settles O18: one trigger loses nothing, and a series of them by induction from any sum and residue. -/
theorem actualVolumeLosesNothing : Obligations.ActualVolumeLosesNothing := by
  refine ⟨fun q dt rate interval => Nat.mul_le_mul rate interval, fun q dt r => ⟨rfl, rfl⟩,
    fun dt r small => actualVolume_zero dt small, actualVolume_residue_lt, fun triggers r0 => ?_⟩
  have series := foldl_addVolume triggers (0, r0)
  rw [Nat.zero_mul, Nat.zero_add, Nat.add_comm r0] at series
  exact series

end Sys2Proof.Machine

/-!
SUPPORT. What every operation keeps of the meter runs and the duty records (R79, R103, R108 to R113, R130): the ranges of
one record through its own updates, then of all records through the operations of the duty controller and the accounts, in
the order of the definitions. `Keeps s t` says that `t` has sound runs where `s` has, and sound duty records where `s` has.
-/

namespace Sys2Proof.Machine

/-! ### One duty record (R103, R107 to R113) -/

section
variable {r : CompRec} {now : Nat}

/-- A record with no timer running is sound in every duty state. -/
theorem CompRec.Ok.of_idle (start : r.tStart = none) (stop : r.tStop = none) (run : r.tMinRun = none) (cool : r.tCool = none)
    (counts : r.marks.length ≤ 8 ∧ r.failures ≤ 2 ∧ r.runSec ≤ 4294967295 ∧ r.runMs < 1000) : r.Ok :=
  ⟨⟨by simp [start], by simp [stop], by simp [run], by simp [cool]⟩, counts⟩

/-- In a duty state that has no timer, none runs. -/
theorem CompRec.Ok.timers_none (h : r.Ok) (start : r.state ≠ .starting) (unload : r.state ≠ .unloading)
    (run : r.state ≠ .running) (cool : r.state ≠ .cooldown) :
    r.tStart = none ∧ r.tStop = none ∧ r.tMinRun = none ∧ r.tCool = none := by
  obtain ⟨⟨hs, hu, hr, hc⟩, -⟩ := h
  refine ⟨?_, ?_, ?_, ?_⟩ <;> rw [← Option.not_isSome_iff_eq_none]
  · exact mt hs start
  · exact mt hu unload
  · exact mt hr run
  · exact mt hc cool

/-- A record that a timer-free duty state leaves for another one is sound with one timer at most started. -/
theorem CompRec.Ok.stopped_timers (h : r.Ok) (stopped : r.state = .stopped ∨ r.state = .lockedOut ∨ r.state = .unavailable) :
    r.tStart = none ∧ r.tStop = none ∧ r.tMinRun = none ∧ r.tCool = none := by
  rcases stopped with state | state | state
  all_goals exact h.timers_none (by simp [state]) (by simp [state]) (by simp [state]) (by simp [state])

theorem appendMark_length_le (now : Nat) {marks : List Nat} (h : marks.length ≤ 8) : (appendMark now marks).length ≤ 8 := by
  simp only [appendMark, List.length_drop, List.length_append, List.length_singleton]
  omega

theorem CompRec.Ok.start (h : r.Ok) (stopped : r.state = .stopped) (confirm : Nat) : (r.start now confirm).Ok := by
  obtain ⟨-, hu, hr, hc⟩ := h.stopped_timers (.inl stopped)
  obtain ⟨-, marks, rest⟩ := h
  exact ⟨⟨fun _ => rfl, by simp [CompRec.start, hu], by simp [CompRec.start, hr], by simp [CompRec.start, hc]⟩,
    appendMark_length_le now marks, rest⟩

theorem CompRec.Ok.cancel (h : r.Ok) (starting : r.state = .starting) : r.cancel.Ok := by
  obtain ⟨⟨-, hu, hr, hc⟩, marks, rest⟩ := h
  rw [starting] at hu hr hc
  exact ⟨⟨nofun, fun run => absurd (hu run) (by decide), fun run => absurd (hr run) (by decide),
      fun run => absurd (hc run) (by decide)⟩,
    (List.length_dropLast ▸ Nat.sub_le _ _).trans marks, rest⟩

/-- A start that its unit takes back at once leaves it STOPPED. -/
theorem CompRec.Ok.start_cancel (h : r.Ok) (stopped : r.state = .stopped) (confirm : Nat) :
    (r.start now confirm).cancel.Ok := (h.start stopped confirm).cancel rfl

theorem CompRec.Ok.unload (h : r.Ok) (start : r.tStart = none) (run : r.tMinRun = none) (cool : r.tCool = none)
    (confirm : Nat) : (r.unload now confirm).Ok := by
  obtain ⟨-, rest⟩ := h
  exact ⟨⟨by simp [CompRec.unload, start], fun _ => rfl, by simp [CompRec.unload, run], by simp [CompRec.unload, cool]⟩,
    rest⟩

theorem CompRec.Ok.enterCooldown (h : r.Ok) (start : r.tStart = none) (stop : r.tStop = none) (run : r.tMinRun = none)
    (cooldown : Nat) : (r.enterCooldown now cooldown).Ok := by
  unfold CompRec.enterCooldown
  split
  · exact ⟨⟨by simp [start], by simp [stop], by simp [run], nofun⟩, h.2⟩
  · exact ⟨⟨by simp [start], by simp [stop], by simp [run], fun _ => rfl⟩, h.2⟩

theorem CompRec.Ok.accrue (h : r.Ok) : r.accrue.Ok := by
  obtain ⟨timers, marks, failures, -, -⟩ := id h
  unfold CompRec.accrue
  split
  next room => exact ⟨timers, marks, failures, h.2.2.2.1, Nat.succ_lt_succ room⟩
  · exact ⟨timers, marks, failures, Nat.min_le_left _ _, Nat.zero_lt_succ 999⟩

theorem youngMarks_length_le (window : Nat) {marks : List Nat} (h : marks.length ≤ 8) :
    (youngMarks now window marks).length ≤ 8 := (List.length_filter_le _ _).trans h

theorem CompRec.Ok.withYoungMarks (h : r.Ok) (window : Nat) :
    ({ r with marks := youngMarks now window r.marks } : CompRec).Ok := by
  obtain ⟨timers, marks, rest⟩ := h
  exact ⟨timers, youngMarks_length_le window marks, rest⟩

theorem CompRec.initial_ok (entry : Nat) (mode : UnitMode) {runSec runMs : Nat} (sec : runSec ≤ 4294967295)
    (ms : runMs < 1000) : (CompRec.initial entry mode runSec runMs).Ok :=
  CompRec.Ok.of_idle rfl rfl rfl rfl ⟨Nat.zero_le _, Nat.zero_le _, sec, ms⟩

theorem recordAfter_ok (h : r.Ok) (old new : CompCfg) : (recordAfter now old new r).Ok := by
  unfold recordAfter
  split
  · split
    · exact h
    · exact h.withYoungMarks _
  · exact CompRec.initial_ok _ _ (by decide) (by decide)

theorem recordAfterReset_ok (c : CompCfg) (marked : Bool) {runSec runMs : Nat} (sec : runSec ≤ 4294967295)
    (ms : runMs < 1000) : (recordAfterReset c marked runSec runMs).Ok :=
  CompRec.Ok.of_idle rfl rfl rfl rfl ⟨Nat.zero_le _, Nat.zero_le _, sec, ms⟩

end

/-! ### What an operation keeps -/

/-- What the two invariants speak of: the meter runs, the duty records and the retained run seconds. -/
def State.records (s : State) : List RunState × List CompRec × List Nat := (s.runs, s.comp.recs, s.ret.runSeconds)

/-- Sound runs stay sound (R79), and so do sound duty records with the retained run seconds (R103, R110 to R113, R130). -/
structure Keeps (s t : State) : Prop where
  meter : s.MeterOk → t.MeterOk
  duty : s.DutyOk → t.DutyOk

section
variable {s t u : State}

theorem Keeps.refl (s : State) : Keeps s s := ⟨id, id⟩

theorem Keeps.trans (h : Keeps s t) (k : Keeps t u) : Keeps s u := ⟨k.meter ∘ h.meter, k.duty ∘ h.duty⟩

theorem Keeps.ite {c : Prop} [Decidable c] (h : Keeps s t) (k : Keeps s u) : Keeps s (if c then t else u) := by
  split
  · exact h
  · exact k

theorem Keeps.foldl {α : Type} {f : State → α → State} (h : ∀ s a, Keeps s (f s a)) (l : List α) (s : State) :
    Keeps s (l.foldl f s) := by
  induction l generalizing s with
  | nil => exact .refl s
  | cons a l ih => exact (h s a).trans (ih _)

/-- An update of other fields keeps both. -/
theorem Keeps.of_same (same : t.records = s.records) : Keeps s t := by
  obtain ⟨runs, recs, seconds⟩ : t.runs = s.runs ∧ t.comp.recs = s.comp.recs ∧ t.ret.runSeconds = s.ret.runSeconds := by
    simpa [State.records] using same
  constructor
  · unfold State.MeterOk
    rw [runs]
    exact id
  · unfold State.DutyOk
    rw [recs, seconds]
    exact id

end

/-- An update of one duty record is judged on that record. -/
theorem onComp_keeps {s : State} {k : Nat} {f : CompRec → CompRec} (h : (s.compRec k).Ok → (f (s.compRec k)).Ok) :
    Keeps s (s.onComp k f) where
  meter := id
  duty ok := by
    refine ⟨fun r member => ?_, ok.2⟩
    obtain ⟨i, place, rfl⟩ := List.getElem_of_mem member
    have inside : i < s.comp.recs.length := by simpa [State.onComp] using place
    have old := ok.1 _ (List.getElem_mem inside)
    simp only [State.onComp, List.getElem_modify]
    split
    next same =>
      subst same
      have record : s.comp.recs[k] = s.compRec k := by simp [State.compRec, List.getD, inside]
      rw [record] at old ⊢
      exact h old
    · exact old

/-- A record in a duty state other than that of a missing one is one of the part's. -/
theorem compRec_place {s : State} {k : Nat} (known : (s.compRec k).state ≠ .unavailable) : k < s.comp.recs.length := by
  refine Nat.lt_of_not_le fun outside => known ?_
  rw [State.compRec, List.getD_eq_default _ _ outside]
  rfl

theorem compRec_onComp {s : State} {k : Nat} (f : CompRec → CompRec) (place : k < s.comp.recs.length) :
    (s.onComp k f).compRec k = f (s.compRec k) := by
  rw [State.compRec_onComp, if_pos ⟨rfl, place⟩]

/-! ### Events, parity marks and own commands -/

theorem occur_keeps (n b : Nat) (s : State) : Keeps s (occur n b s) := by
  rw [occur_only]
  exact .of_same rfl

theorem occurIf_keeps (c : Bool) (n b : Nat) (s : State) : Keeps s (occurIf c n b s) :=
  .ite (occur_keeps n b s) (.refl s)

theorem markEntry_keeps (t : TableId) (i b : Nat) (s : State) : Keeps s (markEntry t i b s) := by
  rw [markEntry_only]
  exact .of_same rfl

theorem checkEventEntry_keeps (n : Nat) (s : State) : Keeps s (checkEventEntry n s) := by
  have marked (b : Nat) : Keeps s (occurParity b (s.setMark .events n)) := markEntry_keeps .events n b s
  exact .ite (.ite (.of_same (by rfl)) (marked n)) (.refl s)

theorem checkEvents_keeps (s : State) : Keeps s (checkEvents s) := .foldl (fun t n => checkEventEntry_keeps n t) _ _

theorem offerOwn_keeps (e : Nat) (c : Command) (s : State) : Keeps s (offerOwn e c s) :=
  .ite (.of_same (by rfl)) (.refl s)

theorem withdrawOwn_keeps (e : Nat) (p : Command → Bool) (s : State) : Keeps s (withdrawOwn e p s) := .of_same rfl

theorem withdrawAll_keeps (e : Nat) (s : State) : Keeps s (withdrawAll e s) := .of_same rfl

/-! An operation on own commands leaves the duty records as they are. -/

@[simp] theorem offerOwn_compRec (e : Nat) (c : Command) (s : State) (k : Nat) :
    (offerOwn e c s).compRec k = s.compRec k := by
  rcases offerOwn_cases e c s with ⟨-, h⟩ | ⟨-, -, h⟩ | ⟨-, -, h⟩ <;> rw [h] <;> rfl

@[simp] theorem withdrawOwn_compRec (e : Nat) (p : Command → Bool) (s : State) (k : Nat) :
    (withdrawOwn e p s).compRec k = s.compRec k := rfl

@[simp] theorem occur_compRec (n b : Nat) (s : State) (k : Nat) : (occur n b s).compRec k = s.compRec k := by
  rw [occur_only]
  rfl

/-! ### Duty records (R109, R111, R114, R115, R121, R122, R128) -/

section
variable (k : Nat) (s : State)

theorem lockByParity_keeps : Keeps s (lockByParity k s) := by
  have locked : Keeps s (s.onComp k fun r => { r.stopTimers with state := .lockedOut, stopPending := false }) :=
    onComp_keeps fun ok => .of_idle rfl rfl rfl rfl ok.2
  exact locked.trans (.of_same (by rfl))

theorem checkComp_keeps : Keeps s (checkComp k s) := by
  have marked := markEntry_keeps .compressors k k s
  exact .ite (.ite (marked.trans (lockByParity_keeps k _)) marked) (.refl s)

theorem beginStart_keeps (stopped : (s.compRec k).state = .stopped) : Keeps s (beginStart k s) :=
  onComp_keeps fun ok => ok.start stopped _

/-- An own start of a STOPPED unit is begun, or begun and taken back. -/
theorem ownStart_keeps (stopped : (s.compRec k).state = .stopped) : Keeps s (ownStart k s) := by
  refine .ite (.refl s) (.ite ((beginStart_keeps k s stopped).trans (offerOwn_keeps _ _ _)) ?_)
  rw [beginStart, onComp_onComp]
  exact onComp_keeps fun ok => ok.start_cancel stopped _

/-- A stop is taken where no other timer than that of the minimum run is, and that one is over. -/
theorem takeStop_keeps (running : (s.compRec k).state = .running) (expired : (s.compRec k).tMinRun = none) :
    Keeps s (takeStop k s) := by
  refine .ite (.trans (.trans (offerOwn_keeps _ _ _) (withdrawOwn_keeps _ _ _)) (onComp_keeps fun ok => ?_)) (.refl s)
  simp only [withdrawOwn_compRec, offerOwn_compRec] at ok ⊢
  obtain ⟨⟨start, -, -, cool⟩, -⟩ := id ok
  rw [running] at start cool
  exact ok.unload (by simpa using start) expired (by simpa using cool) _

end

section
variable (k : Nat) (s : State)

theorem cancelStart_keeps (starting : (s.compRec k).state = .starting) : Keeps s (cancelStart k s) :=
  (withdrawOwn_keeps _ _ s).trans (onComp_keeps fun ok => ok.cancel starting)

/-- The STOP of an immediate stop to a STARTING unit whose START has gone. -/
theorem stopStarting_keeps (starting : (s.compRec k).state = .starting) (confirm : Nat) :
    Keeps s ((offerOwn (s.compEntry k) .stop s).onComp k fun r => { r.unload s.now confirm with tStart := none }) := by
  refine (offerOwn_keeps _ _ s).trans (onComp_keeps fun ok => ?_)
  rw [offerOwn_compRec] at ok ⊢
  obtain ⟨⟨-, -, run, cool⟩, counts⟩ := ok
  rw [starting] at run cool
  exact ⟨⟨nofun, fun _ => rfl, fun runs => absurd (run runs) (by decide), fun cools => absurd (cool cools) (by decide)⟩,
    counts⟩

/-- The stop of a RUNNING unit stops its minimum run timer too, whether or not the STOP is accepted. -/
theorem stopRunning_keeps (running : (s.compRec k).state = .running) :
    Keeps s ((takeStop k s).onComp k fun r => { r with tMinRun := none }) := by
  unfold takeStop
  split
  · rw [onComp_onComp]
    refine .trans (.trans (offerOwn_keeps _ _ _) (withdrawOwn_keeps _ _ _)) (onComp_keeps fun ok => ?_)
    rw [withdrawOwn_compRec, offerOwn_compRec] at ok ⊢
    obtain ⟨⟨start, -, -, cool⟩, counts⟩ := ok
    rw [running] at start cool
    exact ⟨⟨fun starts => absurd (start starts) (by decide), fun _ => rfl, nofun,
      fun cools => absurd (cool cools) (by decide)⟩, counts⟩
  · refine onComp_keeps fun ok => ?_
    obtain ⟨⟨start, stop, -, cool⟩, counts⟩ := ok
    exact ⟨⟨start, stop, nofun, cool⟩, counts⟩

theorem immediateStop_keeps : Keeps s (immediateStop k s) := by
  unfold immediateStop
  split
  next starting => exact .ite (cancelStart_keeps k s starting) (stopStarting_keeps k s starting _)
  next running => exact stopRunning_keeps k s running
  · exact .refl s

end

theorem immediateStops_keeps (s : State) : Keeps s (immediateStops s) :=
  .foldl (fun t k => .ite (immediateStop_keeps k t) (.refl t)) _ _

theorem cancelUnsentStarts_keeps (s : State) : Keeps s (cancelUnsentStarts s) := by
  refine .foldl (fun t k => ?_) _ _
  split
  next unsent =>
    rw [Bool.and_eq_true, decide_eq_true_eq] at unsent
    exact cancelStart_keeps k t unsent.1
  · exact .refl t

theorem resort_keeps (s : State) : Keeps s (resort s) := .of_same rfl

theorem actOn_keeps (wanted : List Nat) (k : Nat) (s : State) : Keeps s (actOn wanted k s) := by
  unfold actOn
  split
  next stopped => exact .ite (ownStart_keeps k s stopped) (.refl s)
  next running =>
    split
    · exact onComp_keeps fun ok => ok
    · split
      · exact onComp_keeps fun ok => ok
      next expired => exact takeStop_keeps k s running (Option.not_isSome_iff_eq_none.mp expired)
  · exact .refl s

theorem offerSpeed_keeps (demand running k : Nat) (s : State) : Keeps s (offerSpeed demand running k s) :=
  .ite ((offerOwn_keeps _ _ s).trans (onComp_keeps fun ok => ok)) (.refl s)

theorem offerSpeeds_keeps (s : State) : Keeps s (offerSpeeds s) :=
  .ite (.refl s) (.foldl (fun t k => offerSpeed_keeps _ _ k t) _ _)

theorem checkOrder_keeps (s : State) : Keeps s (checkOrder s) := .foldl (fun t k => checkComp_keeps k t) _ _

theorem evalCore_keeps (s : State) : Keeps s (evalCore s) :=
  .trans (.foldl (fun t k => actOn_keeps _ k t) _ _) (offerSpeeds_keeps _)

/-! ### Confirmation and its coupling with duty (R163 to R165, R181) -/

theorem reclampAll_keeps (s : State) : Keeps s (reclampAll s) := .foldl (fun _ _ => (.of_same (by rfl))) _ _

theorem curtailCore_keeps (just : Option Nat) (s : State) : Keeps s (curtailCore just s) := by
  unfold curtailCore
  dsimp only
  split
  · exact .of_same rfl
  · exact .trans (.of_same (by rfl)) (occurIf_keeps _ _ _ _)

theorem publish_keeps (s : State) : Keeps s (publish s) := by
  have computed : Keeps s (curtailCore none { s with
      comp := { s.comp with published := s.compCapacity }
      acct := { s.acct with compCap := s.compCapacity } }) := .trans (.of_same (by rfl)) (curtailCore_keeps none _)
  exact .ite (.refl s) (.ite (computed.trans (.trans (.of_same (by rfl)) (evalCore_keeps _))) computed)

theorem dutyEvaluation_keeps (s : State) : Keeps s (dutyEvaluation s) :=
  ((checkOrder_keeps s).trans (evalCore_keeps _)).trans (publish_keeps _)

theorem curtail_keeps (just : Option Nat) (s : State) : Keeps s (curtail just s) := by
  have computed := curtailCore_keeps just s
  exact .ite (computed.trans (.trans (.of_same (by rfl)) (dutyEvaluation_keeps _))) computed

theorem checkShipper_keeps (i : Nat) (s : State) : Keeps s (checkShipper i s) :=
  .ite ((markEntry_keeps .shippers i i s).trans (.trans (.of_same (by rfl)) (curtail_keeps none _))) (.refl s)

theorem checkShippers_keeps (s : State) : Keeps s (checkShippers s) := .foldl (fun t i => checkShipper_keeps i t) _ _

theorem acctDrying_keeps (c : Nat) (s : State) : Keeps s (acctDrying c s) :=
  .trans (.of_same (by rfl)) (curtail_keeps none _)

theorem acctCompressor_keeps (c : Nat) (s : State) : Keeps s (acctCompressor c s) :=
  .trans (.of_same (by rfl)) (curtail_keeps none _)

theorem acctFlag_keeps (flag : Bool) (s : State) : Keeps s (acctFlag flag s) :=
  .trans (.of_same (by rfl)) (curtail_keeps none _)

/-! ### Reports and notices of compressors (R105 to R107, R110, R115, R116, R120) -/

section
variable (k : Nat) (s : State)

theorem tripLock_keeps : Keeps s (tripLock k s) := by
  have locked : Keeps s (s.onComp k fun r => { r.stopTimers with state := .lockedOut, stopPending := false }) :=
    onComp_keeps fun ok => .of_idle rfl rfl rfl rfl ok.2
  exact locked.trans (.of_same (by rfl))

/-- A unit without a timer settles in any duty state. -/
theorem settleFirst_keeps (state : DutyState) (unavailable : (s.compRec k).state = .unavailable) :
    Keeps s (settleFirst k state s) := by
  refine onComp_keeps fun ok => ?_
  obtain ⟨start, stop, run, cool⟩ := ok.stopped_timers (.inr (.inr unavailable))
  exact .of_idle start stop run cool ok.2

/-- A first report RUNNING settles the unit and starts its minimum run timer. -/
theorem settleRunning_keeps (unavailable : (s.compRec k).state = .unavailable) (timer : Option Nat) :
    Keeps s ((settleFirst k .running s).onComp k fun r => { r with tMinRun := timer, lastSpeed := none }) := by
  unfold settleFirst
  rw [onComp_onComp]
  refine onComp_keeps fun ok => ?_
  obtain ⟨start, stop, -, cool⟩ := ok.stopped_timers (.inr (.inr unavailable))
  exact ⟨⟨by simp [start], by simp [stop], fun _ => rfl, by simp [cool]⟩, ok.2⟩

theorem firstReport_keeps (c : Condition) (unavailable : (s.compRec k).state = .unavailable) :
    Keeps s (firstReport k c s) := by
  have settled (state : DutyState) : Keeps s (dutyEvaluation (settleFirst k state s)) :=
    (settleFirst_keeps k s state unavailable).trans (dutyEvaluation_keeps _)
  cases c with
  | transient => exact .refl s
  | tripped => exact settled _
  | stopped => exact settled _
  | running => exact .ite (settled _) ((settleRunning_keeps k s unavailable _).trans (dutyEvaluation_keeps _))

theorem localStart_keeps (resting : (s.compRec k).state = .stopped ∨ (s.compRec k).state = .cooldown) :
    Keeps s (localStart k s) := by
  refine .trans (.trans (withdrawOwn_keeps _ _ s) (onComp_keeps fun ok => ?_)) (occur_keeps _ _ _)
  rw [withdrawOwn_compRec] at ok ⊢
  obtain ⟨⟨start, stop, -, -⟩, marks, rest⟩ := ok
  refine ⟨⟨fun starts => ?_, fun stops => ?_, fun _ => rfl, nofun⟩, appendMark_length_le _ marks, rest⟩
  · rcases resting with state | state <;> exact absurd (state.symm.trans (start starts)) (by decide)
  · rcases resting with state | state <;> exact absurd (state.symm.trans (stop stops)) (by decide)

theorem stoppedReport_keeps (moving : (s.compRec k).state = .running ∨ (s.compRec k).state = .unloading) :
    Keeps s (stoppedReport k s) := by
  refine .trans (withdrawOwn_keeps _ _ s) (onComp_keeps fun ok => ?_)
  rw [withdrawOwn_compRec] at ok ⊢
  obtain ⟨⟨start, -, -, cool⟩, counts⟩ := ok
  have idle : (s.compRec k).tStart = none := by
    refine Option.not_isSome_iff_eq_none.mp fun starts => ?_
    rcases moving with state | state <;> exact absurd (state.symm.trans (start starts)) (by decide)
  have cleared : ({ s.compRec k with tMinRun := none, tStop := none, stopPending := false } : CompRec).Ok :=
    ⟨⟨start, nofun, nofun, cool⟩, counts⟩
  exact cleared.enterCooldown idle rfl rfl _

theorem confirmStart_keeps (starting : (s.compRec k).state = .starting) : Keeps s (confirmStart k s) := by
  refine .trans (withdrawOwn_keeps _ _ s) (onComp_keeps fun ok => ?_)
  rw [withdrawOwn_compRec] at ok ⊢
  obtain ⟨⟨-, stop, -, cool⟩, marks, -, seconds⟩ := ok
  rw [starting] at stop cool
  exact ⟨⟨nofun, fun stops => absurd (stop stops) (by decide), fun _ => rfl, fun cools => absurd (cool cools) (by decide)⟩,
    marks, Nat.zero_le _, seconds⟩

theorem actReport_keeps (c : Condition) : Keeps s (actReport k c s) := by
  have evaluated {t : State} (h : Keeps s t) : Keeps s (dutyEvaluation t) := h.trans (dutyEvaluation_keeps t)
  unfold actReport
  split
  next unavailable => exact firstReport_keeps k s _ unavailable
  · exact .refl s
  · exact evaluated (tripLock_keeps k s)
  next state => exact evaluated (localStart_keeps k s (.inl state))
  next state => exact evaluated (localStart_keeps k s (.inr state))
  next state => exact evaluated (confirmStart_keeps k s state)
  next state => exact evaluated (stoppedReport_keeps k s (.inl state))
  next state => exact evaluated (stoppedReport_keeps k s (.inr state))
  all_goals exact .refl s

theorem useComp_keeps : Keeps s (useComp k s) := .ite ((checkComp_keeps k s).trans (dutyEvaluation_keeps _)) (.refl s)

theorem reportTo_keeps (c : Condition) : Keeps s (reportTo k c s) := by
  have recorded (t : State) (latch : Bool) :
      Keeps t (occurIf latch Src.unitTripped k (t.onComp k fun r => { r with lastReport := some c })) :=
    .trans (onComp_keeps fun ok => ok) (occurIf_keeps _ _ _ _)
  have used (latch : Bool) := (useComp_keeps k s).trans (recorded (useComp k s) latch)
  exact .ite (used _) ((used _).trans (actReport_keeps k _ c))

end

theorem compressorReport_keeps (e : Nat) (p : List Octet) (s : State) : Keeps s (compressorReport e p s) := by
  unfold compressorReport
  split
  · exact reportTo_keeps _ s _
  · exact .refl s

theorem compDeparted_keeps (e : Nat) (s : State) : Keeps s (compDeparted e s) := by
  unfold compDeparted
  split
  · exact .refl s
  next k _ =>
    refine .trans (.trans (onComp_keeps fun ok => ?_) (occurIf_keeps _ _ _ _)) (dutyEvaluation_keeps _)
    exact .of_idle rfl rfl rfl rfl ok.2

theorem dutyMode_keeps (m : Mode) (s : State) : Keeps s (dutyMode m s) := by
  refine .trans ?_ (dutyEvaluation_keeps _)
  exact .ite (.trans (.of_same (by rfl)) (.trans (resort_keeps _) (immediateStops_keeps _))) (.of_same (by rfl))

theorem dutyEsd_keeps (active : Bool) (s : State) : Keeps s (dutyEsd active s) := by
  refine .trans ?_ (dutyEvaluation_keeps _)
  exact .ite (.trans (.of_same (by rfl)) (cancelUnsentStarts_keeps _)) (.of_same (by rfl))

theorem dutyFlag_keeps (flag : Bool) (s : State) : Keeps s (dutyFlag flag s) :=
  .trans (.of_same (by rfl)) (dutyEvaluation_keeps _)

/-- The run seconds that the retained store takes are those of sound records (R130). -/
theorem writeRunSeconds_keeps (s : State) : Keeps s (writeRunSeconds s) where
  meter := id
  duty ok := by
    refine ⟨ok.1, fun v member => ?_⟩
    obtain ⟨r, record, rfl⟩ := List.mem_map.mp member
    obtain ⟨-, -, -, seconds, -⟩ := ok.1 r record
    exact seconds

/-! ### Supervisor commands (R118, R124 to R128) -/

theorem becomeManual_keeps (k : Nat) (s : State) : Keeps s (becomeManual k s) := by
  have manual : Keeps s (s.onComp k fun r => { r with mode := .manual, stopPending := false }) := onComp_keeps fun ok => ok
  exact .ite (.refl s) (manual.trans (.of_same (by rfl)))

theorem becomeAuto_keeps (k : Nat) (s : State) : Keeps s (becomeAuto k s) := by
  have auto : Keeps s (s.onComp k fun r => { r with mode := .auto }) := onComp_keeps fun ok => ok
  exact .ite (.refl s) (auto.trans (.of_same (by rfl)))

theorem supervisorStop_keeps (k : Nat) (s : State) : Keeps s (supervisorStop k s).1 := by
  unfold supervisorStop
  dsimp only
  exact ((immediateStop_keeps k s).trans (becomeManual_keeps k _)).trans (dutyEvaluation_keeps _)

theorem supervisorStart_keeps (k : Nat) (s : State) : Keeps s (supervisorStart k s).1 := by
  unfold supervisorStart
  split
  · exact .refl s
  next taken =>
    simp only [Bool.or_eq_true, decide_eq_true_eq, not_or, Decidable.not_not] at taken
    obtain ⟨⟨⟨-, stopped⟩, -⟩, -⟩ := taken
    dsimp only
    exact (beginStart_keeps k s stopped).trans (dutyEvaluation_keeps _)

theorem supervisorSpeed_keeps (k : Nat) (p : List Octet) (s : State) : Keeps s (supervisorSpeed k p s).1 := by
  have recorded (rpm : Nat) : Keeps s (s.onComp k fun r => { r with lastSpeed := some rpm }) := onComp_keeps fun ok => ok
  unfold supervisorSpeed
  dsimp only
  split
  · exact .refl s
  · split
    · exact recorded _
    · dsimp only
      exact (recorded _).trans (occur_keeps _ _ _)

theorem judgeComp_keeps (k : Nat) (p : List Octet) (s : State) : Keeps s (judgeComp k p s).1 := by
  have used := useComp_keeps k s
  unfold judgeComp
  dsimp only
  repeat' split
  · exact used
  · exact used.trans (supervisorStop_keeps k _)
  · exact used.trans (supervisorStart_keeps k _)
  · exact used.trans (supervisorSpeed_keeps k _ _)
  · exact used

theorem compressorCommand_keeps (e : Nat) (p : List Octet) (s : State) : Keeps s (compressorCommand e p s).1 := by
  unfold compressorCommand
  split
  · exact .refl s
  · exact judgeComp_keeps _ p s

/-! ### Timers of compressors (R108, R110 to R113) -/

section
variable (k : Nat) (s : State)

/-- A STARTING unit whose start timer is stopped has no timer running. -/
theorem CompRec.Ok.settled {r : CompRec} (ok : r.Ok) (starting : r.state = .starting) (stopped : r.tStart = none)
    (state : DutyState) : ({ r with state := state } : CompRec).Ok := by
  obtain ⟨⟨-, stop, run, cool⟩, counts⟩ := ok
  rw [starting] at stop run cool
  exact .of_idle stopped (by simpa using stop) (by simpa using run) (by simpa using cool) counts

/-- The record of a start that has failed, before it leaves STARTING. -/
def CompRec.failed (r : CompRec) : CompRec := { r with tStart := none, failures := min 2 (r.failures + 1) }

theorem CompRec.Ok.failed {r : CompRec} (ok : r.Ok) : r.failed.Ok := by
  obtain ⟨⟨-, stop, run, cool⟩, marks, -, seconds⟩ := ok
  exact ⟨⟨nofun, stop, run, cool⟩, marks, Nat.min_le_left _ _, seconds⟩

/-- The state of a start that has failed, before its unit leaves STARTING. -/
def startFailed (k : Nat) (s : State) : State :=
  occur Src.startFailed k ((offerOwn (s.compEntry k) .stop s).onComp k CompRec.failed)

theorem startFailed_keeps : Keeps s (startFailed k s) :=
  ((offerOwn_keeps _ _ s).trans (onComp_keeps fun ok => ok.failed)).trans (occur_keeps _ _ _)

theorem startFailed_compRec (starting : (s.compRec k).state = .starting) :
    (startFailed k s).compRec k = (s.compRec k).failed := by
  have place : k < (offerOwn (s.compEntry k) .stop s).comp.recs.length :=
    compRec_place (by rw [offerOwn_compRec, starting]; decide)
  rw [startFailed, occur_compRec, compRec_onComp _ place, offerOwn_compRec]

theorem failStart_keeps (starting : (s.compRec k).state = .starting) : Keeps s (failStart k s) := by
  have record := startFailed_compRec k s starting
  have state : ((startFailed k s).compRec k).state = .starting := by rw [record]; exact starting
  have timer : ((startFailed k s).compRec k).tStart = none := by rw [record]; rfl
  refine .trans (startFailed_keeps k s) (.ite (.trans (.trans (onComp_keeps fun ok => ?_) (occur_keeps _ _ _))
    (dutyEvaluation_keeps _)) (.trans (onComp_keeps fun ok => ?_) (dutyEvaluation_keeps _)))
  · exact ok.settled state timer .lockedOut
  · obtain ⟨⟨-, stop, run, -⟩, -⟩ := id ok
    rw [state] at stop run
    exact ok.enterCooldown timer (by simpa using stop) (by simpa using run) _

/-- The minimum run timer of a unit is over. -/
def CompRec.ran (r : CompRec) : CompRec := { r with tMinRun := none }

theorem minimumRunOver_keeps : Keeps s (minimumRunOver k s) := by
  have ran : Keeps s (s.onComp k CompRec.ran) := by
    refine onComp_keeps fun ok => ?_
    obtain ⟨⟨start, stop, -, cool⟩, counts⟩ := ok
    exact ⟨⟨start, stop, nofun, cool⟩, counts⟩
  unfold minimumRunOver
  dsimp only
  split
  next waits =>
    rw [Bool.and_eq_true, decide_eq_true_eq] at waits
    have record := compRec_onComp CompRec.ran (compRec_place (k := k) (s := s) (by rw [waits.2]; decide))
    refine .trans (ran.trans (takeStop_keeps k _ ?_ ?_)) (dutyEvaluation_keeps _) <;> rw [record]
    · exact waits.2
    · rfl
  · exact ran

theorem stopTimedOut_keeps (unloading : (s.compRec k).state = .unloading) : Keeps s (stopTimedOut k s) := by
  refine .trans (.trans (onComp_keeps fun ok => ?_) (occur_keeps _ _ _)) (dutyEvaluation_keeps _)
  obtain ⟨⟨start, -, run, cool⟩, counts⟩ := ok
  rw [unloading] at start run cool
  exact .of_idle (by simpa using start) rfl (by simpa using run) (by simpa using cool) counts

theorem cooledDown_keeps (cooling : (s.compRec k).state = .cooldown) : Keeps s (cooledDown k s) := by
  refine .trans (onComp_keeps fun ok => ?_) (dutyEvaluation_keeps _)
  obtain ⟨⟨start, stop, run, -⟩, counts⟩ := ok
  rw [cooling] at start stop run
  exact .of_idle (by simpa using start) (by simpa using stop) (by simpa using run) rfl counts

theorem markAgeout_keeps :
    Keeps s (dutyEvaluation (s.onComp k fun r => { r with marks := youngMarks s.now (s.compCfg k).window r.marks })) :=
  .trans (onComp_keeps fun ok => ok.withYoungMarks _) (dutyEvaluation_keeps _)

end

end Sys2Proof.Machine

/-!
SUPPORT. What the operations of the Drying Controller keep of the meter runs and the duty records: they reach duty records
through the duty controller and the accounts alone, and no meter run.
-/

namespace Sys2Proof.Machine

/-! ### Train state, switches and reports (R136 to R143, R151, R153) -/

section
variable (i : Nat) (s : State)

theorem onTrain_keeps (f : Train → Train) : Keeps s (s.onTrain i f) := .of_same rfl

theorem tellDrying_keeps : Keeps s (tellDrying s) := .ite (.refl s) (.trans (.of_same (by rfl)) (acctDrying_keeps _ _))

theorem evalTrain_keeps : Keeps s (evalTrain i s) :=
  .trans (.trans (.of_same (by rfl)) (occurIf_keeps _ _ _ _)) (tellDrying_keeps _)

theorem startTest_keeps : Keeps s (startTest i s) := by
  unfold startTest
  dsimp only
  split
  · exact .refl s
  · exact .ite (.trans (offerOwn_keeps _ _ s) (.of_same (by rfl))) (.refl s)

theorem raiseRequest_keeps : Keeps s (raiseRequest i s) := .trans (.of_same (by rfl)) (startTest_keeps i _)

theorem bedTrigger_keeps : Keeps s (bedTrigger i s) := .ite (raiseRequest_keeps i s) (.refl s)

theorem loadingTrigger_keeps : Keeps s (loadingTrigger i s) := .ite (bedTrigger_keeps i s) (.refl s)

theorem noBedTrigger_keeps : Keeps s (noBedTrigger i s) := .ite (raiseRequest_keeps i s) (.refl s)

theorem entryTriggers_keeps : Keeps s (entryTriggers i s) := (loadingTrigger_keeps i s).trans (noBedTrigger_keeps i _)

theorem endSwitch_keeps : Keeps s (endSwitch i s) :=
  .trans (.trans (.of_same (by rfl)) (noBedTrigger_keeps i _)) (startTest_keeps i _)

theorem bedOut_keeps (x : BedId) : Keeps s (bedOut i x s) := .trans (.of_same (by rfl)) (occur_keeps _ _ _)

theorem confirmOpening_keeps (op : SwitchOp) : Keeps s (confirmOpening i op s) := by
  unfold confirmOpening
  dsimp only
  split
  · exact .trans (.trans (.of_same (by rfl)) (occur_keeps _ _ _)) (endSwitch_keeps i _)
  · exact ((onTrain_keeps i s _).trans (offerOwn_keeps _ _ _)).trans (onTrain_keeps i _ _)

theorem failOpening_keeps (timeout : Bool) (op : SwitchOp) : Keeps s (failOpening timeout i op s) := by
  have out := ((withdrawOwn_keeps (s.dryerCfg i).unit isOpenBed s).trans (occurIf_keeps timeout Src.valveTimeout i _)).trans
    (bedOut_keeps i _ op.incoming)
  exact out.trans (.trans (.of_same (by rfl)) (endSwitch_keeps i _))

theorem confirmRelease_keeps (x : BedId) : Keeps s (confirmRelease i x s) :=
  .trans (.trans (.of_same (by rfl)) (occur_keeps _ _ _)) (endSwitch_keeps i _)

theorem failRelease_keeps (timeout : Bool) (x : BedId) : Keeps s (failRelease timeout i x s) := by
  have out : Keeps s ((withdrawOwn (s.dryerCfg i).unit isCloseBed s).onTrain i fun t =>
      t.onBed x fun y => { y with state := .outOfService }) := .of_same rfl
  exact (out.trans (occur_keeps _ _ _)).trans (endSwitch_keeps i _)

theorem useTrain_keeps : Keeps s (useTrain i s) := by
  have marked := markEntry_keeps .dryers i i s
  exact .ite (.ite (marked.trans (.trans (.of_same (by rfl)) (evalTrain_keeps i _))) marked) (.refl s)

theorem synchronise_keeps (p : BedId → Position) : Keeps s (synchronise i p s) := by
  have latched {t : State} (a b c : Bool) (h : Keeps s t) :
      Keeps s (occurIf a Src.bedOut i (occurIf b Src.bedOut i (occurIf c Src.bedOut i t))) :=
    ((h.trans (occurIf_keeps _ _ _ _)).trans (occurIf_keeps _ _ _ _)).trans (occurIf_keeps _ _ _ _)
  have evaluated {t : State} (h : Keeps s t) : Keeps s (evalTrain i t) := h.trans (evalTrain_keeps i t)
  unfold synchronise
  dsimp only
  split
  · exact evaluated ((evaluated (latched _ _ _ (.of_same (by rfl)))).trans (entryTriggers_keeps i _))
  · exact evaluated (latched _ _ _ (.of_same (by rfl)))

theorem faultPlain_keeps (x : BedId) : Keeps s (faultPlain i x s) := by
  have out := bedOut_keeps i s x
  unfold faultPlain
  split
  · exact out
  · exact out.trans (noBedTrigger_keeps i _)
  · exact out
  · exact out
  all_goals exact .refl s

theorem faultAt_keeps (x : BedId) : Keeps s (faultAt i x s) := by
  unfold faultAt
  repeat' split
  · exact faultPlain_keeps i s x
  · exact failOpening_keeps i s _ _
  · exact bedOut_keeps i s x
  · exact (bedOut_keeps i s x).trans (.of_same (by rfl))
  · exact failRelease_keeps i s _ x
  · exact faultPlain_keeps i s x

theorem actPosition_keeps (op : Option SwitchOp) (x : BedId) (p : Position) : Keeps s (actPosition i op x p s) := by
  unfold actPosition
  repeat' split
  · exact .refl s
  · exact (faultAt_keeps i s x).trans (evalTrain_keeps i _)
  · exact (confirmOpening_keeps i s _).trans (evalTrain_keeps i _)
  · exact .refl s
  · exact .refl s
  · exact (confirmRelease_keeps i s x).trans (evalTrain_keeps i _)
  · exact .refl s
  · exact .refl s

theorem trainReport_keeps (p : BedId → Position) : Keeps s (trainReport i p s) := by
  have recorded : Keeps s (recordPositions i p (useTrain i s)) := (useTrain_keeps i s).trans (.of_same (by rfl))
  unfold trainReport
  dsimp only
  refine .ite recorded (.ite ?_ (.ite recorded (recorded.trans (synchronise_keeps i _ p))))
  exact ((recorded.trans (actPosition_keeps i _ _ _ _)).trans (actPosition_keeps i _ _ _ _)).trans
    (actPosition_keeps i _ _ _ _)

end

theorem dryerReport_keeps (e : Nat) (p : List Octet) (s : State) : Keeps s (dryerReport e p s) := by
  unfold dryerReport
  split
  · exact trainReport_keeps _ s _
  · exact .refl s

/-! ### Channels as their consumers read them (R37, R46) -/

theorem sweepCounts_keeps (ch : Nat) (s : State) : Keeps s (sweepCounts ch s) :=
  .ite (.trans (.of_same (by rfl)) (occurIf_keeps _ _ _ _)) (.refl s)

theorem withdrawRequest_keeps (ch : Nat) (s : State) : Keeps s (withdrawRequest ch s) :=
  .ite (.trans (.of_same (by rfl)) (sweepCounts_keeps ch _)) (.refl s)

theorem useChannel_keeps (ch : Nat) (s : State) : Keeps s (useChannel ch s) := by
  have dropped : Keeps s (dropPending ch (markEntry .channels ch ch s)) :=
    (markEntry_keeps .channels ch ch s).trans (.of_same (by rfl))
  exact .ite ((dropped.trans (withdrawRequest_keeps ch _)).trans (.of_same (by rfl))) (.refl s)

theorem useChannels_keeps (l : List Nat) (s : State) : Keeps s (useChannels l s) :=
  .foldl (fun t ch => useChannel_keeps ch t) _ _

/-! ### Notices to the trains (R77, R90, R138, R139, R146, R152) -/

section
variable (i : Nat) (s : State)

theorem trainVolume_keeps (vb : Nat) : Keeps s (trainVolume i vb s) := by
  have used := useTrain_keeps i s
  unfold trainVolume
  dsimp only
  refine .ite used (.trans ?_ (evalTrain_keeps i _))
  exact (used.trans (useChannels_keeps _ _)).trans (.trans (.of_same (by rfl)) (loadingTrigger_keeps i _))

theorem breakthrough_keeps : Keeps s (breakthrough i s) := by
  have latched := (useTrain_keeps i s).trans (occur_keeps Src.breakthrough i _)
  exact .ite latched ((latched.trans (bedTrigger_keeps i _)).trans (evalTrain_keeps i _))

theorem testHeating_keeps (x : BedId) : Keeps s (testHeating i x s) := by
  have used := useChannels_keeps (s.dryerCfg i).regenCh.toList s
  exact .ite (.ite (used.trans (.of_same (by rfl))) used) (.refl s)

theorem testAllHeating_keeps : Keeps s (testAllHeating i s) := .foldl (fun t x => testHeating_keeps i t x) _ _

theorem regenChanged_keeps : Keeps s (regenChanged i s) := by
  have used := useTrain_keeps i s
  exact .ite used ((used.trans (testAllHeating_keeps i _)).trans (evalTrain_keeps i _))

theorem trainComparator_keeps (ch : Nat) (which : CmpId) (output : Bool) :
    Keeps s (trainComparator i ch which output s) := by
  have broke (on named : Bool) : Keeps s (if on then breakthrough i s else if named then useTrain i s else s) :=
    .ite (breakthrough_keeps i s) (.ite (useTrain_keeps i s) (.refl s))
  unfold trainComparator
  dsimp only
  refine .ite ?_ (.refl s)
  split
  · exact (broke _ _).trans (regenChanged_keeps i _)
  · exact broke _ _

end

theorem dryVolume_keeps (run vb : Nat) (s : State) : Keeps s (dryVolume run vb s) :=
  .foldl (fun t i => .ite (trainVolume_keeps i t vb) (.refl t)) _ _

theorem dryComparator_keeps (ch : Nat) (which : CmpId) (output : Bool) (s : State) :
    Keeps s (dryComparator ch which output s) :=
  (trainComparator_keeps 0 s ch which output).trans (trainComparator_keeps 1 _ ch which output)

theorem dryMode_keeps (m : Mode) (s : State) : Keeps s (dryMode m s) := by
  refine .ite (.trans (.of_same (by rfl)) (.foldl (fun t i => .ite ?_ (.refl t)) _ _)) (.of_same (by rfl))
  exact (entryTriggers_keeps i t).trans (evalTrain_keeps i _)

theorem dryDeparted_keeps (e : Nat) (s : State) : Keeps s (dryDeparted e s) := by
  unfold dryDeparted
  split
  · exact .refl s
  · exact .trans (.trans (.of_same (by rfl)) (occurIf_keeps _ _ _ _)) (evalTrain_keeps _ _)

theorem dryerCommand_keeps (e : Nat) (p : List Octet) (s : State) : Keeps s (dryerCommand e p s).1 := by
  unfold dryerCommand
  dsimp only
  repeat' split
  · exact .refl s
  all_goals exact useTrain_keeps _ s

/-! ### Timers and a DRYERS image (R135, R139, R146, R147) -/

section
variable (i : Nat) (s : State)

theorem adsorbLimit_keeps : Keeps s (adsorbLimit i s) := by
  unfold adsorbLimit
  split
  · exact .refl s
  · exact .trans (.trans (.of_same (by rfl)) (bedTrigger_keeps i _)) (evalTrain_keeps i _)

theorem heatReached_keeps (x : BedId) : Keeps s (heatReached i x s) :=
  .trans (.trans (.of_same (by rfl)) (testHeating_keeps i _ x)) (evalTrain_keeps i _)

theorem heatShort_keeps (x : BedId) : Keeps s (heatShort i x s) :=
  .trans ((occur_keeps _ _ s).trans (.of_same (by rfl))) (evalTrain_keeps i _)

theorem cooled_keeps (x : BedId) : Keeps s (cooled i x s) :=
  .trans (.trans (.of_same (by rfl)) (startTest_keeps i _)) (evalTrain_keeps i _)

theorem passedExpiries_keeps : Keeps s (passedExpiries i s) := by
  have limited : Keeps s (if s.adsorbDue i then adsorbLimit i s else s) := .ite (adsorbLimit_keeps i s) (.refl s)
  have heated {t : State} : Keeps t (allBeds.foldl (fun s x => if s.heatDue i x then heatReached i x s else s) t) :=
    .foldl (fun t x => .ite (heatReached_keeps i t x) (.refl t)) _ _
  have short {t : State} : Keeps t (allBeds.foldl (fun s x => if s.heatShortDue i x then heatShort i x s else s) t) :=
    .foldl (fun t x => .ite (heatShort_keeps i t x) (.refl t)) _ _
  have cool {t : State} : Keeps t (allBeds.foldl (fun s x => if s.coolDue i x then cooled i x s else s) t) :=
    .foldl (fun t x => .ite (cooled_keeps i t x) (.refl t)) _ _
  exact ((limited.trans heated).trans short).trans cool

end

theorem dryersTakeEffect_keeps (old : List DryerCfg) (wasMarked : Nat → Bool) (s : State) :
    Keeps s (dryersTakeEffect old wasMarked s) := by
  have former {t : State} : Keeps t ((List.range 2).foldl (fun s i =>
      if (old.getD i .blank).inUse && !keepsTrain (old.getD i .blank) (s.dryerCfg i) then
        withdrawAll (old.getD i .blank).unit s
      else s) t) := .foldl (fun t i => .ite (.of_same (by rfl)) (.refl t)) _ _
  have passed {t : State} : Keeps t (evalTrain 1 (evalTrain 0 (passedExpiries 1 (passedExpiries 0 t)))) :=
    (((passedExpiries_keeps 0 t).trans (passedExpiries_keeps 1 _)).trans (evalTrain_keeps 0 _)).trans (evalTrain_keeps 1 _)
  exact (((occur_keeps _ _ s).trans former).trans (.of_same (by rfl))).trans passed

end Sys2Proof.Machine

/-!
SUPPORT. What the mode machine and the Meter Run Computer keep of the meter runs and the duty records: a run is written by its trigger, its calorific reference, its handover and its RUNS entry alone.
-/

namespace Sys2Proof.Machine

/-! ### The mode machine (R90 to R99) -/

theorem checkStation_keeps (s : State) : Keeps s (checkStation s) :=
  .ite ((markEntry_keeps .station 0 0 s).trans (.of_same (by rfl))) (.refl s)

theorem offerLineup_keeps (l : LineupArg) (s : State) : Keeps s (offerLineup l s) := by
  unfold offerLineup
  split
  · exact offerOwn_keeps _ _ s
  · exact .refl s

theorem withdrawLineup_keeps (s : State) : Keeps s (withdrawLineup s) := by
  unfold withdrawLineup
  split
  · exact .of_same rfl
  · exact .refl s

theorem tellMode_keeps (m : Mode) (s : State) : Keeps s (tellMode m s) :=
  .trans (.trans (.of_same (by rfl)) (dutyMode_keeps m _)) (dryMode_keeps m _)

theorem enterShutIn_keeps (n : Nat) (s : State) : Keeps s (enterShutIn n s) :=
  .trans (.trans (.trans (.of_same (by rfl)) (offerLineup_keeps _ _)) (tellMode_keeps _ _)) (occur_keeps _ _ _)

theorem failTransition_keeps (s : State) : Keeps s (failTransition s) := enterShutIn_keeps _ s

theorem enterFlow_keeps (d : Dir) (s : State) : Keeps s (enterFlow d s) :=
  .trans (.trans (.of_same (by rfl)) (tellMode_keeps _ _)) (occur_keeps _ _ _)

theorem enterLineup_keeps (d : Dir) (s : State) : Keeps s (enterLineup d s) := by
  have checked : Keeps s (checkStation (stopModeTimers s)) := .trans (.of_same (by rfl)) (checkStation_keeps _)
  unfold enterLineup
  dsimp only
  split
  · exact checked.trans (.trans (.trans (.of_same (by rfl)) (offerLineup_keeps _ _)) (tellMode_keeps _ _))
  · exact checked.trans (failTransition_keeps _)

theorem evalStationFlow_keeps (s : State) : Keeps s (evalStationFlow s) := by
  have checked := checkStation_keeps s
  exact .ite (.ite checked (checked.trans (.of_same (by rfl)))) (checked.trans (.of_same (by rfl)))

theorem flowNotice_keeps (s : State) : Keeps s (flowNotice s) := .ite (evalStationFlow_keeps s) (.refl s)

theorem enterRundown_keeps (d : Dir) (s : State) : Keeps s (enterRundown d s) := by
  have checked : Keeps s (checkStation (stopModeTimers s)) := .trans (.of_same (by rfl)) (checkStation_keeps _)
  unfold enterRundown
  dsimp only
  exact (checked.trans (.trans (.of_same (by rfl)) (tellMode_keeps _ _))).trans (evalStationFlow_keeps _)

theorem quietReached_keeps (d : Dir) (s : State) : Keeps s (quietReached d s) :=
  .ite (failTransition_keeps s) (enterLineup_keeps d s)

theorem setFlow_keeps (d : Dir) (s : State) : Keeps s (setFlow d s).2 := by
  unfold setFlow
  repeat' split
  all_goals dsimp only
  · exact enterLineup_keeps _ s
  · exact .refl s
  · exact enterRundown_keeps _ s
  · exact enterRundown_keeps _ s
  all_goals exact .refl s

theorem requestFlow_keeps (d : Dir) (s : State) : Keeps s (requestFlow d s).state := by
  have set := setFlow_keeps d s
  unfold requestFlow
  split
  · exact .refl s
  · split
    all_goals
      rename_i flow
      rw [flow] at set
      exact set

theorem setMode_keeps (args : List Octet) (s : State) : Keeps s (setMode args s).state := by
  unfold setMode
  dsimp only
  repeat' split
  all_goals try dsimp only
  · exact enterShutIn_keeps _ s
  · exact requestFlow_keeps _ s
  · exact requestFlow_keeps _ s
  · exact .refl s

theorem setEsd_keeps (active : Bool) (s : State) :
    Keeps s (dutyEsd active { s with mode := { s.mode with esd := active } }) :=
  .trans (.of_same (by rfl)) (dutyEsd_keeps active _)

theorem esdActivated_keeps (s : State) : Keeps s (esdActivated s) := by
  have stopped (t : State) : Keeps t (stopModeTimers t) := .of_same rfl
  unfold esdActivated
  dsimp only
  exact ((((setEsd_keeps true s).trans (stopped _)).trans (withdrawLineup_keeps _)).trans (tellMode_keeps _ _)).trans
    (occur_keeps _ _ _)

theorem esdCleared_keeps (s : State) : Keeps s (esdCleared s) := setEsd_keeps false s

theorem actLineup_keeps (l : Lineup) (s : State) : Keeps s (actLineup l s) := by
  unfold actLineup
  split
  · exact enterFlow_keeps _ s
  · exact enterFlow_keeps _ s
  · exact enterShutIn_keeps _ s
  · exact enterShutIn_keeps _ s
  · exact enterShutIn_keeps _ s
  · exact enterShutIn_keeps _ s
  · exact .refl s

theorem stationReport_keeps (p : List Octet) (s : State) : Keeps s (stationReport p s) := by
  have cleared : Keeps s (if s.mode.esd then esdCleared s else s) := .ite (esdCleared_keeps s) (.refl s)
  have recorded (l : Lineup) (t : State) : Keeps t (recordLineup l t) := .of_same rfl
  unfold stationReport
  split
  · dsimp only
    split
    · exact (cleared.trans (recorded _ _)).trans (actLineup_keeps _ _)
    · exact .ite (recorded _ s) ((recorded _ s).trans (esdActivated_keeps _))
  · exact .refl s

theorem stationDeparted_keeps (s : State) : Keeps s (stationDeparted s) := by
  unfold stationDeparted
  split
  · exact failTransition_keeps s
  · exact .refl s

theorem changeFlag_keeps (flag : Bool) (s : State) : Keeps s (changeFlag flag s) :=
  .trans (.trans (.trans (.of_same (by rfl)) (occur_keeps _ _ _)) (dutyFlag_keeps flag _)) (acctFlag_keeps flag _)

theorem pressureNotice_keeps (ch : Nat) (s : State) : Keeps s (pressureNotice ch s) := by
  have used : Keeps s (usePressures (checkStation s)) := (checkStation_keeps s).trans (useChannels_keeps _ _)
  unfold pressureNotice
  dsimp only
  repeat' split
  · exact used
  · exact used
  · exact used.trans (changeFlag_keeps _ _)
  · exact .refl s

/-! ### One run (R69, R75, R79) -/

/-- The residues and carries of a run lie in their ranges. -/
def RunState.ResiduesOk (x : RunState) : Prop := x.rV < 360 ∧ x.rE < 1000 ∧ ∀ a ∈ x.slots, a.carry < 3600000

section
variable {x : RunState}

theorem RunState.ResiduesOk.of_same {y : RunState} (h : x.ResiduesOk) (rV : y.rV = x.rV) (rE : y.rE = x.rE)
    (slots : y.slots = x.slots) : y.ResiduesOk := by
  unfold RunState.ResiduesOk
  rwa [rV, rE, slots]

theorem energyOf_residue_lt (vb h rE : Nat) : (energyOf vb h rE).2 < 1000 := Nat.mod_lt _ (by decide)

/-- Joules are added to a slot without its carry. -/
theorem modify_add_carry {slots : List Slot} (h : ∀ a ∈ slots, a.carry < 3600000) (i e : Nat) :
    ∀ a ∈ slots.modify i (Slot.add e), a.carry < 3600000 := by
  intro a member
  obtain ⟨j, place, rfl⟩ := List.getElem_of_mem member
  have inside : j < slots.length := by simpa using place
  have old := h _ (List.getElem_mem inside)
  rw [List.getElem_modify]
  split
  · exact old
  · exact old

theorem RunState.ResiduesOk.after (h : x.ResiduesOk) (s : State) (r mark now : Nat) :
    (x.after now (s.compute r mark)).ResiduesOk := by
  refine ⟨actualVolume_residue_lt _ _ _, energyOf_residue_lt _ _ _, ?_⟩
  unfold RunState.after
  dsimp only
  split
  · exact modify_add_carry h.2.2 _ _
  · exact h.2.2

theorem handedOver_carry_lt (a : Slot) : a.handedOver.carry < 3600000 := Nat.mod_lt _ (by decide)

theorem RunState.ResiduesOk.handedOver (h : x.ResiduesOk) : x.handedOver.ResiduesOk := by
  refine ⟨h.1, h.2.1, fun a member => ?_⟩
  obtain ⟨i, place, rfl⟩ := List.getElem_of_mem member
  have inside : i < x.slots.length := by simpa [RunState.handedOver] using place
  simp only [RunState.handedOver, List.getElem_mapIdx]
  split
  · exact handedOver_carry_lt _
  · exact h.2.2 _ (List.getElem_mem inside)

theorem RunState.ResiduesOk.takes (h : x.ResiduesOk) (old new : RunCfg) : (x.takes old new).ResiduesOk := by
  refine h.of_same ?_ ?_ ?_ <;> unfold RunState.takes <;> dsimp only <;> repeat' split
  all_goals rfl

theorem RunState.initial_residuesOk (role : Role) (ref : RefState) : (RunState.initial role ref).ResiduesOk :=
  ⟨Nat.zero_lt_succ 359, Nat.zero_lt_succ 999, by simp [RunState.initial]⟩

theorem RunState.ResiduesOk.holdTimer (h : x.ResiduesOk) (marked : Bool) : (x.holdTimer marked).ResiduesOk := by
  unfold RunState.holdTimer
  split
  · exact h
  · exact h

end

/-- A state whose runs are each made of a run as it was. -/
theorem meterOk_of_runs {s t : State} (h : s.MeterOk) (runs : ∀ x ∈ t.runs, ∃ y ∈ s.runs, y.ResiduesOk → x.ResiduesOk) :
    t.MeterOk := fun x member =>
  have ⟨y, old, kept⟩ := runs x member
  kept (h y old)

/-- Runs that are changed each by what keeps its residues. -/
theorem meterOk_of_mapIdx {s t : State} {f : Nat → RunState → RunState} (h : s.MeterOk) (runs : t.runs = s.runs.mapIdx f)
    (kept : ∀ i x, x.ResiduesOk → (f i x).ResiduesOk) : t.MeterOk := by
  refine meterOk_of_runs h fun x member => ?_
  rw [runs] at member
  obtain ⟨i, place, rfl⟩ := List.mem_mapIdx.mp member
  exact ⟨_, List.getElem_mem place, kept i _⟩

theorem onRun_keeps {s : State} {r : Nat} {f : RunState → RunState} (kept : ∀ x, x.ResiduesOk → (f x).ResiduesOk) :
    Keeps s (s.onRun r f) where
  meter ok := by
    refine meterOk_of_runs ok fun x member => ?_
    obtain ⟨i, place, rfl⟩ := List.getElem_of_mem member
    have inside : i < s.runs.length := by simpa [State.onRun] using place
    refine ⟨_, List.getElem_mem inside, fun old => ?_⟩
    simp only [State.onRun, List.getElem_modify]
    split
    · exact kept _ old
    · exact old
  duty := id

/-! ### The Meter Run Computer (R66 to R83) -/

section
variable (r : Nat) (s : State)

theorem checkRun_keeps : Keeps s (checkRun r s) := .ite (markEntry_keeps .runs r r s) (.refl s)

theorem recordTrigger_keeps : Keeps s (recordTrigger r s) := onRun_keeps fun _ ok => ok

theorem stageEvents_keeps (k : Computed) : Keeps s (stageEvents r k s) :=
  (((occurIf_keeps _ _ _ s).trans (occurIf_keeps _ _ _ _)).trans (occurIf_keeps _ _ _ _)).trans (occurIf_keeps _ _ _ _)

/-- The run and the events of a trigger that has computed, before the trains and the mode machine are told (R66). -/
def computed (r mark : Nat) (s : State) : State :=
  stageEvents r (s.compute r mark) (s.onRun r (RunState.after s.now (s.compute r mark)))

/-- A volume that leaves through a STATION run is told to its trains (R77). -/
def tellVolume (r : Nat) (k : TriggerRecord) (s : State) : State :=
  if (s.run r).role = .station ∧ k.acc = some 1 ∧ 0 < k.vb then dryVolume r k.vb s else s

/-- A trigger of a STATION run is told to the mode machine (R93). -/
def tellFlow (r : Nat) (s : State) : State := if (s.run r).role = .station then flowNotice s else s

theorem computeTrigger_eq (mark : Nat) : computeTrigger r mark s =
    tellFlow r (tellVolume r ((useInputs r s).compute r mark).record (computed r mark (useInputs r s))) := rfl

theorem computed_keeps (mark : Nat) : Keeps s (computed r mark s) := by
  have written : Keeps s (s.onRun r (RunState.after s.now (s.compute r mark))) := onRun_keeps fun _ ok => ok.after _ _ _ _
  exact written.trans (stageEvents_keeps r _ _)

theorem tellVolume_keeps (k : TriggerRecord) : Keeps s (tellVolume r k s) := .ite (dryVolume_keeps r _ s) (.refl s)

theorem tellFlow_keeps : Keeps s (tellFlow r s) := .ite (flowNotice_keeps s) (.refl s)

theorem computeTrigger_keeps (mark : Nat) : Keeps s (computeTrigger r mark s) := by
  have used : Keeps s (useInputs r s) := useChannels_keeps _ s
  rw [computeTrigger_eq]
  exact ((used.trans (computed_keeps r _ mark)).trans (tellVolume_keeps r _ _)).trans (tellFlow_keeps r _)

theorem trigger_keeps : Keeps s (trigger r s) := by
  have checked := checkRun_keeps r s
  unfold trigger
  dsimp only
  repeat' split
  · exact checked.trans (recordTrigger_keeps r _)
  · exact checked.trans (recordTrigger_keeps r _)
  · exact checked.trans (computeTrigger_keeps r _ _)

theorem refFault_keeps : Keeps s (refFault r s) := by
  have faulted : Keeps s (s.onRun r fun x => { x with ref := .fault, refTimer := none }) := onRun_keeps fun _ ok => ok
  exact .ite (.refl s) (faulted.trans (occur_keeps _ _ _))

theorem refStale_keeps : Keeps s (refStale r s) := by
  have stale : Keeps s (s.onRun r fun x => { x with ref := .stale, refTimer := none }) := onRun_keeps fun _ ok => ok
  exact .ite (stale.trans (occur_keeps _ _ _)) (.refl s)

theorem openGroup_keeps (num : Nat) : Keeps s (openGroup num s) := .ite (.refl s) (.of_same (by rfl))

theorem handover_keeps (num : Nat) : Keeps s (handover num r s) := by
  have taken : Keeps s (onGroup num (Group.take (s.run r)) (openGroup num s)) :=
    (openGroup_keeps s num).trans (.of_same (by rfl))
  exact .ite (.refl s) (taken.trans (onRun_keeps fun _ ok => ok.handedOver))

end

theorem flowCompletion_keeps (ch : Nat) (s : State) : Keeps s (flowCompletion ch s) :=
  .foldl (fun t r => .ite (trigger_keeps r t) (.refl t)) _ _

theorem calorificCompletion_keeps (ch : Nat) (s : State) : Keeps s (calorificCompletion ch s) := by
  refine .foldl (fun t r => .ite ?_ (.refl t)) _ _
  split
  · exact onRun_keeps fun _ ok => ok
  · exact refFault_keeps r t
  · exact .refl t

theorem calorificAged_keeps (ch : Nat) (s : State) : Keeps s (calorificAged ch s) :=
  .foldl (fun t r => .ite (refStale_keeps r t) (.refl t)) _ _

theorem runsTakeEffect_keeps (img : StoredImage) (s : State) : Keeps s (runsTakeEffect img s) := by
  unfold runsTakeEffect
  dsimp only
  refine .trans ⟨fun ok => meterOk_of_mapIdx ok rfl fun _ _ x => x.takes _ _, fun ok => ?_⟩ (occur_keeps _ _ _)
  exact ok

end Sys2Proof.Machine

/-!
SUPPORT. What the sample channels, the Unit Directory, the frames of both ports and the arbiters keep of the meter runs
and the duty records: they reach them through the notices to their owners alone.
-/

namespace Sys2Proof.Machine

/-! ### Sample channels (R32 to R57) -/

theorem onChan_keeps (ch : Nat) (f : ChannelState → ChannelState) (s : State) : Keeps s (s.onChan ch f) := .of_same rfl

section
variable (ch : Nat) (s : State)

theorem completionNotices_keeps : Keeps s (completionNotices ch s) :=
  ((flowCompletion_keeps ch s).trans (calorificCompletion_keeps ch _)).trans (pressureNotice_keeps ch _)

theorem comparatorNotices_keeps (before : ChannelState) : Keeps s (comparatorNotices ch before s) := by
  have told {c : Prop} [Decidable c] (which : CmpId) (output : Bool) (t : State) :
      Keeps t (if c then t else dryComparator ch which output t) := .ite (.refl t) (dryComparator_keeps ch which output t)
  exact (told .a _ s).trans (told .b _ _)

theorem finishConditioning_keeps (k : Conditioning) : Keeps s (finishConditioning ch k s) := by
  unfold finishConditioning
  dsimp only
  refine ((Keeps.trans ?_ (occurIf_keeps _ _ _ _)).trans (completionNotices_keeps ch _)).trans
    (comparatorNotices_keeps ch _ _)
  exact (((onChan_keeps ch _ s).trans (occurIf_keeps _ _ _ _)).trans (occurIf_keeps _ _ _ _)).trans (occurIf_keeps _ _ _ _)

theorem useFilter_keeps (p : Nat) : Keeps s (useFilter p s) :=
  .ite (.refl s) (.ite (markEntry_keeps .filters _ _ s) (.refl s))

theorem beginCustody_keeps : Keeps s (beginCustody ch s) := by
  have used := useChannel_keeps ch s
  unfold beginCustody
  dsimp only
  split
  · exact (used.trans (onChan_keeps ch _ _)).trans (completionNotices_keeps ch _)
  · exact (used.trans (useFilter_keeps _ _)).trans (onChan_keeps ch _ _)

theorem accept_keeps (item : Item) : Keeps s (accept ch item s) := by
  rw [accept_eq]
  refine (onChan_keeps ch (s.taken ch item) s).trans ?_
  unfold proceed
  split
  · exact beginCustody_keeps ch _
  · exact onChan_keeps ch _ _
  · exact onChan_keeps ch _ _

theorem examinePending_keeps : Keeps s (examinePending ch s) := by
  rcases examinePending_cases ch s with h | ⟨item, -, h⟩ <;> rw [h]
  · exact .refl s
  · exact accept_keeps ch s item

theorem arrive_keeps (item : Item) : Keeps s (arrive ch item s) := by
  have used := useChannel_keeps ch s
  have bad := used.trans (onChan_keeps ch (fun c => { c with quality := .bad }) _)
  unfold arrive arriveMarked
  dsimp only
  repeat' split
  · exact bad.trans (flowCompletion_keeps ch _)
  · exact bad
  · exact used.trans (accept_keeps ch _ item)
  · exact used.trans (onChan_keeps ch _ _)

theorem custodyDone_keeps (k : Conditioning) : Keeps s (custodyDone ch k s) := by
  have ended := onChan_keeps ch (fun c => { c with custody := none }) s
  unfold custodyDone
  dsimp only
  split
  · exact ended.trans (examinePending_keeps ch _)
  · exact (ended.trans (finishConditioning_keeps ch _ k)).trans (examinePending_keeps ch _)

theorem beginService_keeps : Keeps s (beginService ch s) := by
  have used := useChannel_keeps ch s
  have failed (t : State) : Keeps t (serviceFails ch t) := .trans (.of_same (by rfl)) (sweepCounts_keeps ch _)
  unfold beginService
  dsimp only
  split
  · exact used.trans (failed _)
  · exact (used.trans (useFilter_keeps _ _)).trans (.trans (.of_same (by rfl)) (onChan_keeps ch _ _))

theorem engineDone_keeps (k : Conditioning) : Keeps s (engineDone ch k s) := by
  have freed : Keeps s { s with engine := { s.engine with serving := none } } := .of_same rfl
  have counted (t : State) : Keeps t (examinePending ch (sweepCounts ch t)) :=
    (sweepCounts_keeps ch t).trans (examinePending_keeps ch _)
  unfold engineDone
  dsimp only
  split
  · exact freed.trans (counted _)
  · exact ((freed.trans (onChan_keeps ch _ _)).trans (finishConditioning_keeps ch _ k)).trans (counted _)

theorem channelAged_keeps : Keeps s (channelAged ch s) := by
  unfold channelAged
  dsimp only
  exact (((onChan_keeps ch _ s).trans (occur_keeps _ _ _)).trans (calorificAged_keeps ch _)).trans
    (pressureNotice_keeps ch _)

theorem listChannel_keeps : Keeps s (listChannel s ch) := by
  have used := useChannel_keeps ch s
  unfold listChannel
  dsimp only
  repeat' split
  · exact used
  · exact used.trans (onChan_keeps ch _ _)
  · exact used.trans (.trans (.of_same (by rfl)) (onChan_keeps ch _ _))

theorem resetChannel_keeps : Keeps s (resetChannel ch s) := by
  refine ((withdrawRequest_keeps ch s).trans ?_).trans (onChan_keeps ch _ _)
  unfold voidService
  repeat' split
  · exact .of_same rfl
  · exact .refl _
  · exact .refl _

end

theorem takeItem_keeps (e : Nat) (s : State) (x : Nat × Item) : Keeps s (takeItem e s x) := by
  unfold takeItem
  dsimp only
  repeat' split
  · exact .refl s
  · exact .refl s
  · exact arrive_keeps _ s _
  · exact .refl s
  · exact .refl s
  · exact arrive_keeps _ s _

theorem sampleFrame_keeps (e : Nat) (p : List Octet) (s : State) : Keeps s (sampleFrame e p s) :=
  .foldl (takeItem_keeps e) _ _

theorem beginSweep_keeps (s : State) : Keeps s (beginSweep s) :=
  .trans (.foldl (fun t ch => listChannel_keeps ch t) _ _) (occurIf_keeps _ _ _ _)

theorem startSweepTimer_keeps (s : State) : Keeps s (startSweepTimer s) := .of_same rfl

theorem sweepPeriod_keeps (s : State) : Keeps s (sweepPeriod s) := by
  have checked := checkStation_keeps s
  have started := checked.trans (startSweepTimer_keeps _)
  exact .ite checked (.ite (started.trans (beginSweep_keeps _)) started)

theorem channelsDeparted_keeps (e : Nat) (s : State) : Keeps s (channelsDeparted e s) :=
  .foldl (fun t ch => .ite (.trans (.of_same (by rfl)) (withdrawRequest_keeps ch _)) (.refl t)) _ _

theorem channelsTakeEffect_keeps (old : List ChannelCfg) (s : State) : Keeps s (channelsTakeEffect old s) :=
  (occur_keeps _ _ s).trans (.foldl (fun t ch => .ite (.refl t) (resetChannel_keeps ch t)) _ _)

/-! ### The Unit Directory (R19 to R28) -/

section
variable (i : Nat) (s : State)

theorem onUnit_keeps (f : UnitLive → UnitLive) : Keeps s (s.onUnit i f) := .of_same rfl

theorem hear_keeps : Keeps s (hear i s) := .of_same rfl

theorem leavePresent_keeps (cls : UnitClass) : Keeps s (leavePresent i cls s) := by
  have departed := (withdrawAll_keeps i s).trans (channelsDeparted_keeps i _)
  cases cls with
  | compressor => exact departed.trans (compDeparted_keeps i _)
  | dryerValves => exact departed.trans (dryDeparted_keeps i _)
  | stationValves => exact departed.trans (stationDeparted_keeps _)
  | meter => exact departed
  | transmitter => exact departed
  | analyser => exact departed
  | generic => exact departed

theorem entryGone_keeps (was : Attach) (cls : UnitClass) : Keeps s (entryGone i was cls s) :=
  .ite ((occur_keeps _ _ s).trans (leavePresent_keeps i _ cls)) (occur_keeps _ _ s)

theorem unitFoundBad_keeps : Keeps s (unitFoundBad i s) := by
  have gone := (markEntry_keeps .units i i s).trans
    (onUnit_keeps i _ fun u => { u with attach := .absent, departed := false, silence := none })
  exact .ite (gone.trans (entryGone_keeps i _ _ _)) gone

theorem departEntry_keeps : Keeps s (departEntry i s) :=
  .ite (.refl s) ((onUnit_keeps i s _).trans (entryGone_keeps i _ _ _))

theorem announce_keeps (p : List Octet) : Keeps s (announce i p s) := by
  unfold announce
  split
  · exact (onUnit_keeps i s _).trans (occur_keeps _ _ _)
  · exact .refl s

theorem releaseEntry_keeps : Keeps s (releaseEntry i s) := by
  unfold releaseEntry
  split
  · exact onUnit_keeps i s _
  · exact onUnit_keeps i s _
  · exact .refl s
  · exact .refl s

theorem resetUnitEntry_keeps (cls : UnitClass) : Keeps s (resetUnitEntry i cls s) := by
  have reset := onUnit_keeps i s fun _ => .initial
  exact .ite (reset.trans (entryGone_keeps i _ _ cls)) reset

end

theorem lookupCheck_keeps (a : Addr) (s : State) : Keeps s (lookupCheck a s) := by
  unfold lookupCheck
  split
  · exact .ite (unitFoundBad_keeps _ s) (.refl s)
  · exact .refl s

theorem unitsTakeEffect_keeps (old : List UnitCfg) (wasMarked : Nat → Bool) (s : State) :
    Keeps s (unitsTakeEffect old wasMarked s) :=
  (occur_keeps _ _ s).trans (.foldl (fun t i => .ite (.refl t) (resetUnitEntry_keeps i t _)) _ _)

/-! ### Answers and arbiters (R15 to R17, R196, R197) -/

section
variable (s : State)

theorem leaveService_keeps : Keeps s (leaveService s) := by
  rw [leaveService_eq]
  exact .of_same rfl

theorem offerResponse_keeps (r : Response) : Keeps s (offerResponse r s) := by
  rcases offerResponse_cases r s with ⟨-, h⟩ | ⟨-, h⟩ <;> rw [h]
  · exact .trans (.of_same (by rfl)) (leaveService_keeps _)
  · exact .of_same rfl

theorem answerRequest_keeps (q : Request) (status : Status) (result : List Octet) :
    Keeps s (answerRequest q status result s) := .ite (leaveService_keeps s) (offerResponse_keeps s _)

theorem reoffer_keeps : Keeps s (reoffer s) := by
  rcases reoffer_cases s with ⟨-, h⟩ | ⟨r, -, h⟩ <;> rw [h]
  · exact .refl s
  · exact offerResponse_keeps s r

theorem sendUpstream_keeps : Keeps s (sendUpstream s) := by
  unfold sendUpstream
  split
  · exact .refl s
  · exact .of_same rfl

theorem sendResponse_keeps (r : Response) (rest : List Response) : Keeps s (sendResponse r rest s) := by
  unfold sendResponse
  dsimp only
  split
  · exact .trans (.of_same (by rfl)) (reoffer_keeps _)
  · exact .of_same rfl

theorem selectPortS_keeps : Keeps s (selectPortS s) := by
  unfold selectPortS
  repeat' split
  · exact sendUpstream_keeps s
  · exact sendResponse_keeps s _ _
  · exact .of_same rfl
  · exact sendUpstream_keeps s

theorem sendDownstream_keeps : Keeps s (sendDownstream s) := by
  unfold sendDownstream
  split
  · exact .refl s
  · exact .of_same rfl

theorem selectPortF_keeps : Keeps s (selectPortF s) := by
  unfold selectPortF
  repeat' split
  · exact sendDownstream_keeps s
  · exact .of_same rfl
  · exact sendDownstream_keeps s

/-! ### The arrival of frames (R3, R5 to R11) -/

theorem checkOwnTable_keeps : Keeps s (checkOwnTable s) := by
  rw [checkOwnTable_only]
  exact .of_same rfl

theorem offerUpstream_keeps (f : Frame) (b : Nat) : Keeps s (offerUpstream f b s) :=
  .ite (.of_same (by rfl)) (occur_keeps _ _ s)

theorem examineState_keeps (i : Nat) (p : List Octet) : Keeps s (examineState i p s) := by
  unfold examineState
  split
  · exact compressorReport_keeps i p s
  · exact dryerReport_keeps i p s
  · exact stationReport_keeps p s
  all_goals exact .refl s

theorem examine_keeps (i : Nat) (f : Frame) : Keeps s (examine i f s) := by
  refine .ite (announce_keeps i s _) (.ite (departEntry_keeps i s) (.ite ?_ (.ite ?_ (.refl s))))
  · exact .ite (sampleFrame_keeps i _ s) (.refl s)
  · exact .ite (examineState_keeps s i _) (.refl s)

theorem arriveF_keeps (f : Frame) : Keeps s (arriveF f s) := by
  have looked := (checkOwnTable_keeps s).trans (lookupCheck_keeps f.src _)
  unfold arriveF
  dsimp only
  split
  next i _ =>
    have heard := looked.trans (hear_keeps i _)
    exact .ite (heard.trans (occur_keeps _ _ _)) ((heard.trans (offerUpstream_keeps _ _ _)).trans (examine_keeps _ i f))
  · exact .ite (looked.trans (occur_keeps _ _ _)) (looked.trans (offerUpstream_keeps _ _ _))

theorem judge_keeps (i : Nat) (p : List Octet) : Keeps s (judge i p s).1 := by
  unfold judge
  split
  · exact compressorCommand_keeps i p s
  · exact dryerCommand_keeps i p s
  · rw [stationCommand_frame]
    exact .refl s
  all_goals exact .refl s

theorem carryVerdict_keeps (i : Nat) (f : Frame) (r : State × Verdict) : Keeps r.1 (carryVerdict i f r) := by
  unfold carryVerdict
  split
  · exact .of_same rfl
  · exact .of_same rfl
  · exact occur_keeps _ _ _

theorem forwardDown_keeps (f : Frame) : Keeps s (forwardDown f s) := by
  have looked := lookupCheck_keeps f.dst s
  unfold forwardDown
  dsimp only
  repeat' split
  · exact looked.trans (occur_keeps _ _ _)
  · exact (looked.trans (judge_keeps _ _ _)).trans (carryVerdict_keeps _ f _)
  · exact looked.trans (.of_same (by rfl))
  · exact .of_same rfl

theorem offerRequest_keeps (q : Request) : Keeps s (offerRequest q s) := by
  have entered (t : State) : Keeps t (enterService t) := by
    rcases enterService_cases t with ⟨-, h⟩ | ⟨_, _, -, -, h⟩ <;> rw [h]
    · exact .refl t
    · exact .of_same rfl
  have busy : Keeps s (answerBusy q s) := .ite (.refl s) (.of_same (by rfl))
  exact .ite (.trans (.of_same (by rfl)) (entered _)) (busy.trans (occur_keeps _ _ _))

theorem arriveS_keeps (f : Frame) : Keeps s (arriveS f s) := by
  have checked := checkOwnTable_keeps s
  unfold arriveS addressedS broadcastS
  dsimp only
  repeat' split
  · exact checked.trans (offerRequest_keeps _ _)
  · exact checked.trans (occur_keeps _ _ _)
  · exact checked.trans (occur_keeps _ _ _)
  · exact (checked.trans (offerRequest_keeps _ _)).trans (forwardDown_keeps _ f)
  · exact checked.trans (forwardDown_keeps _ f)
  · exact checked.trans (forwardDown_keeps _ f)

theorem takeFrameF_keeps (rx : Option (List Octet)) : Keeps s (takeFrameF rx s) := by
  unfold takeFrameF
  repeat' split
  · exact .refl s
  · exact occur_keeps _ _ s
  · exact arriveF_keeps s _

theorem takeFrameS_keeps (rx : Option (List Octet)) : Keeps s (takeFrameS rx s) := by
  unfold takeFrameS
  repeat' split
  · exact .refl s
  · exact occur_keeps _ _ s
  · exact arriveS_keeps s _

end

end Sys2Proof.Machine

/-!
SUPPORT. What closes, boundaries, requests, table images and resets keep of the meter runs and the duty records; then
every command, then the step (R79, R103, R110 to R113, R130).
-/

namespace Sys2Proof.Machine

/-! ### Updates of one part -/

theorem withAcct_keeps (s : State) (a : AcctState) : Keeps s { s with acct := a } := .of_same rfl

theorem withTime_keeps (s : State) (t : TimeState) : Keeps s { s with time := t } := .of_same rfl

theorem setLoad_keeps (l : Option Load) (s : State) : Keeps s (setLoad l s) := .of_same rfl

theorem onSlot_keeps (i : Nat) (f : AccSlot → AccSlot) (s : State) : Keeps s (s.onSlot i f) := .of_same rfl

/-! ### Closes (R167 to R180) -/

section
variable (s : State)

theorem tryAllocate_keeps : Keeps s (tryAllocate s) := by
  unfold tryAllocate
  repeat' split
  all_goals exact .of_same rfl

theorem completeGroup_keeps (num : Nat) : Keeps s (completeGroup num s) :=
  ((openGroup_keeps s num).trans (.of_same (by rfl))).trans (tryAllocate_keeps _)

theorem rollSlots_keeps : Keeps s (rollSlots s) := .of_same rfl

theorem beginClose_keeps (n : Notice) : Keeps s (beginClose n s) := by
  unfold beginClose
  dsimp only
  refine .trans (.trans (.trans ?_ (withAcct_keeps _ _)) (curtail_keeps none _)) (tryAllocate_keeps _)
  refine .trans (.trans ?_ (rollSlots_keeps _)) (reclampAll_keeps _)
  exact (checkShippers_keeps s).trans (withAcct_keeps _ _)

theorem acctBoundary_keeps (n : Notice) : Keeps s (acctBoundary n s) := by
  have opened := openGroup_keeps s n.num
  unfold acctBoundary
  dsimp only
  split
  · exact opened.trans (beginClose_keeps _ n)
  · exact opened.trans (withAcct_keeps _ _)

theorem writeClose_keeps (op : CloseOp) (r : AllocResult) : Keeps s (writeClose op r s) := by
  unfold writeClose joinHistory
  dsimp only
  split
  · exact .of_same rfl
  · exact .ite (.of_same (by rfl)) (.trans (.of_same (by rfl)) (occurIf_keeps _ _ _ _))

theorem shippersTakeEffect_keeps (img : StoredImage) : Keeps s (shippersTakeEffect img s) := by
  unfold shippersTakeEffect
  dsimp only
  exact .trans (.of_same (by rfl)) (occur_keeps _ _ _)

theorem applyShippers_keeps : Keeps s (applyShippers s) := by
  unfold applyShippers
  split
  · exact .refl s
  · exact .ite (.refl s) (shippersTakeEffect_keeps s _)

theorem nextClose_keeps : Keeps s (nextClose s) := by
  unfold nextClose
  split
  · exact .refl s
  · exact (withAcct_keeps s _).trans (beginClose_keeps _ _)

theorem completeClose_keeps (op : CloseOp) (r : AllocResult) : Keeps s (completeClose op r s) := by
  have written (t : State) : Keeps t (curtail none (reclampAll (applyShippers (writeClose op r t)))) :=
    (((writeClose_keeps t op r).trans (applyShippers_keeps _)).trans (reclampAll_keeps _)).trans (curtail_keeps none _)
  have closed (a b : AcctState) (n x : Nat) : Keeps s (occur n x
      { curtail none (reclampAll (applyShippers (writeClose op r { s with acct := a }))) with acct := b }) :=
    (((withAcct_keeps s a).trans (written _)).trans (withAcct_keeps _ b)).trans (occur_keeps n x _)
  unfold completeClose
  dsimp only
  refine .trans ?_ (nextClose_keeps _)
  split
  · refine .trans ?_ (occur_keeps _ _ _)
    exact closed _ _ _ _
  · exact closed _ _ _ _

/-! ### Boundaries and station time (R83 to R89) -/

theorem handoverAll_keeps (num : Nat) : Keeps s (handoverAll num s) := by
  have handed : Keeps s ((List.range 8).foldl (fun s r => handover num r s) s) :=
    .foldl (fun t r => handover_keeps r t num) _ _
  unfold handoverAll
  dsimp only
  split
  · exact (handed.trans (runsTakeEffect_keeps _ _)).trans (completeGroup_keeps _ _)
  · exact handed.trans (completeGroup_keeps _ _)

theorem sweepAfter_keeps (before : Nat) : Keeps s (sweepAfter before s) := .ite (.refl s) (startSweepTimer_keeps s)

theorem acctIntervalLength_keeps : Keeps s (acctIntervalLength s) := (reclampAll_keeps s).trans (curtail_keeps none _)

theorem stationTakesEffect_keeps (img : StoredImage) : Keeps s (stationTakesEffect img s) := by
  unfold stationTakesEffect
  dsimp only
  refine (Keeps.trans (.of_same (by rfl)) ((occur_keeps _ _ _).trans (sweepAfter_keeps _ _))).trans (.ite (.refl _) ?_)
  exact (acctIntervalLength_keeps _).trans (dutyEvaluation_keeps _)

theorem applyStation_keeps : Keeps s (applyStation s) := by
  unfold applyStation
  split
  · exact stationTakesEffect_keeps s _
  · exact .refl s

theorem giveNotices_keeps (n : Notice) : Keeps s (giveNotices n s) :=
  ((handoverAll_keeps s n.num).trans (acctBoundary_keeps _ n)).trans (writeRunSeconds_keeps _)

theorem raiseBoundary_keeps : Keeps s (raiseBoundary s) := by
  unfold raiseBoundary
  dsimp only
  refine .trans (.trans (.trans ?_ (withTime_keeps _ _)) (applyStation_keeps _)) (withTime_keeps _ _)
  exact .trans (.trans (checkStation_keeps s) (withTime_keeps _ _)) (giveNotices_keeps _ _)

theorem timeStep_keeps (count : Nat) : Keeps s (timeStep count s) := (withTime_keeps s _).trans (occur_keeps _ _ _)

theorem backwardStep_keeps (count : Nat) : Keeps s (backwardStep count s) :=
  (timeStep_keeps s count).trans (withTime_keeps _ _)

theorem wrapTime_keeps : Keeps s (wrapTime s) := by
  unfold wrapTime
  dsimp only
  exact .ite (withTime_keeps s _) (backwardStep_keeps s _)

theorem stepTime_keeps (count : Nat) : Keeps s (stepTime count s).2 := by
  have stepped := timeStep_keeps s count
  have forward (crosses : Bool) : Keeps s (if crosses then
      if s.acct.closing.isSome then (Status.closing, s) else (.ok, raiseBoundary (timeStep count s))
      else (.ok, timeStep count s)).2 := by
    cases crosses
    · exact stepped
    · rw [if_pos rfl]
      split
      · exact .refl s
      · exact stepped.trans (raiseBoundary_keeps _)
  unfold stepTime
  by_cases same : count = s.time.count
  · rw [if_pos same]
    exact .refl s
  · rw [if_neg same]
    by_cases back : count < s.time.count
    · rw [if_pos back]
      exact backwardStep_keeps s count
    · rw [if_neg back]
      exact forward _

theorem setTime_keeps (args : List Octet) : Keeps s (setTime args s).state := by
  have stepped := stepTime_keeps s (fieldAt args 0 6)
  unfold setTime
  dsimp only
  split
  · exact (withTime_keeps s _).trans (raiseBoundary_keeps _)
  · split
    all_goals
      rename_i outcome
      rw [outcome] at stepped
      exact stepped

/-! ### Requests -/

theorem nominate_keeps (args : List Octet) : Keeps s (nominate args s).state := by
  have current (i : Nat) (d : Dir) (n : Nat) (t : State) : Keeps t (nominateCurrent i d n t).state := by
    have used := checkStation_keeps t
    unfold nominateCurrent
    dsimp only
    split
    · exact used
    · exact (used.trans (onSlot_keeps _ _ _)).trans (curtail_keeps _ _)
  unfold nominate
  dsimp only
  repeat' split
  · exact .refl s
  · exact .refl s
  · exact .refl s
  · exact .refl s
  · exact checkShipper_keeps _ s
  · exact (checkShipper_keeps _ s).trans (current _ _ _ _)
  · exact (checkShipper_keeps _ s).trans (onSlot_keeps _ _ _)

theorem carryTransfer_keeps (i j n : Nat) : Keeps s (carryTransfer i j n s) :=
  .ite (.refl s) (.trans (.of_same (by rfl)) (curtail_keeps none _))

theorem transfer_keeps (args : List Octet) : Keeps s (transfer args s).state := by
  have checked (i j : Nat) : Keeps s (checkShipper j (checkShipper i s)) :=
    (checkShipper_keeps i s).trans (checkShipper_keeps j _)
  unfold transfer
  dsimp only
  repeat' split
  · exact .refl s
  · exact .refl s
  · exact checked _ _
  · exact checked _ _
  · exact checked _ _
  · exact (checked _ _).trans (carryTransfer_keeps _ _ _ _)
  · exact .refl s

theorem readClose_keeps (args : List Octet) : Keeps s (readClose args s).state := by
  unfold readClose
  dsimp only
  repeat' split
  all_goals exact .of_same rfl

theorem loadBegin_keeps (args : List Octet) : Keeps s (loadBegin args s).state := by
  unfold loadBegin beginLoad
  repeat' split
  · exact .refl s
  · exact .refl s
  · exact .refl s
  · exact occur_keeps Src.tableProtected noSubject s
  · exact setLoad_keeps _ s

theorem loadData_keeps (args : List Octet) : Keeps s (loadData args s).state := by
  unfold loadData
  dsimp only
  repeat' split
  all_goals exact .of_same rfl

theorem loadAbort_keeps (args : List Octet) : Keeps s (loadAbort args s).state := by
  unfold loadAbort
  split
  all_goals exact .of_same rfl

theorem releaseUnit_keeps (args : List Octet) : Keeps s (releaseUnit args s).state := by
  unfold releaseUnit
  dsimp only
  repeat' split
  · exact .refl s
  · exact .refl s
  · exact .refl s
  · exact releaseEntry_keeps _ s

theorem sweepRequest_keeps (args : List Octet) : Keeps s (sweepRequest args s).state := by
  unfold sweepRequest
  split
  · exact beginSweep_keeps s
  · exact .refl s

theorem readChannelRequest_keeps (args : List Octet) : Keeps s (readChannelRequest args s).state := by
  unfold readChannelRequest
  dsimp only
  split
  · exact .refl s
  · exact useChannel_keeps _ s

theorem readPeaks_keeps (args : List Octet) : Keeps s (readPeaks args s).state := by
  unfold readPeaks
  dsimp only
  split
  · exact .refl s
  · exact (useChannel_keeps _ s).trans (onChan_keeps _ _ _)

theorem readRun_keeps (args : List Octet) : Keeps s (readRun args s).state := by
  unfold readRun
  dsimp only
  split
  · exact .refl s
  · exact checkRun_keeps _ s

theorem withComp_keeps (args : List Octet) {f : Nat → Reply} (h : ∀ k, Keeps s (f k).state) :
    Keeps s (withComp args s f).state := by
  unfold withComp
  dsimp only
  repeat' split
  · exact .refl s
  · exact .refl s
  · exact h _

/-- A locked-out record has no timer running, so that it may be called STOPPED. -/
theorem resetUnit_keeps (args : List Octet) : Keeps s (resetUnit args s).state := by
  refine withComp_keeps s args fun k => ?_
  split
  · exact .refl s
  next sound =>
    have locked : (s.compRec k).state = .lockedOut := by
      simp only [Bool.or_eq_true, decide_eq_true_eq, not_or, not_not] at sound
      exact sound.1.1
    dsimp only
    refine .trans (onComp_keeps fun ok => ?_) (dutyEvaluation_keeps _)
    obtain ⟨start, stop, run, cool⟩ := ok.stopped_timers (.inr (.inl locked))
    obtain ⟨-, marks, -, seconds⟩ := ok
    exact .of_idle start stop run cool ⟨marks, Nat.zero_le 2, seconds⟩

theorem setUnitMode_keeps (m : UnitMode) (args : List Octet) : Keeps s (setUnitMode m args s).state := by
  refine withComp_keeps s args fun k => ?_
  split
  · exact .refl s
  · split
    · exact .refl s
    · dsimp only
      refine .trans ?_ (dutyEvaluation_keeps _)
      cases m with
      | auto => exact becomeAuto_keeps k s
      | manual => exact becomeManual_keeps k s

theorem rotate_keeps (args : List Octet) : Keeps s (rotate args s).state := by
  unfold rotate
  dsimp only
  exact (resort_keeps s).trans (dutyEvaluation_keeps _)

theorem readCompressor_keeps (args : List Octet) : Keeps s (readCompressor args s).state := by
  unfold readCompressor
  dsimp only
  split
  · exact .refl s
  · exact useComp_keeps _ s

theorem withTrain_keeps (i : Nat) {f : State → Reply} (h : ∀ t, Keeps t (f t).state) : Keeps s (withTrain i s f).state := by
  have used := useTrain_keeps i s
  unfold withTrain
  dsimp only
  repeat' split
  · exact .refl s
  · exact used
  · exact used
  · exact used.trans (h _)

theorem holdTrain_keeps (args : List Octet) : Keeps s (holdTrain args s).state :=
  withTrain_keeps s _ fun t => onTrain_keeps _ t _

theorem resumeTrain_keeps (args : List Octet) : Keeps s (resumeTrain args s).state := by
  unfold resumeTrain
  refine withTrain_keeps s _ fun t => ?_
  dsimp only
  refine .trans (.trans (.trans ?_ (testAllHeating_keeps _ _)) (startTest_keeps _ _)) (evalTrain_keeps _ _)
  exact onTrain_keeps _ t _

theorem forceSwitch_keeps (args : List Octet) : Keeps s (forceSwitch args s).state :=
  withTrain_keeps s _ fun t => by
    split
    · exact .refl t
    · dsimp only
      exact (raiseRequest_keeps _ t).trans (evalTrain_keeps _ _)

theorem returnBed_keeps (args : List Octet) : Keeps s (returnBed args s).state := by
  unfold returnBed
  dsimp only
  split
  · exact .refl s
  · refine withTrain_keeps s _ fun t => ?_
    split
    · exact .refl t
    · exact (onTrain_keeps _ t _).trans (evalTrain_keeps _ _)

theorem readDryer_keeps (args : List Octet) : Keeps s (readDryer args s).state := by
  unfold readDryer
  dsimp only
  split
  · exact .refl s
  · exact useTrain_keeps _ s

theorem readShipper_keeps (args : List Octet) : Keeps s (readShipper args s).state := by
  unfold readShipper
  dsimp only
  split
  · exact .refl s
  · exact checkShipper_keeps _ s

theorem clearEvents_keeps (args : List Octet) : Keeps s (clearEvents args s).state := .of_same rfl

theorem forceEvent_keeps (args : List Octet) : Keeps s (forceEvent args s).state := by
  unfold forceEvent
  dsimp only
  split
  · exact .refl s
  · exact occur_keeps _ _ s

theorem readEvents_keeps (args : List Octet) : Keeps s (readEvents args s).state := by
  unfold readEvents
  dsimp only
  exact checkEvents_keeps s

/-! ### Table images (R203 to R207) -/

theorem installImage_keeps (t : TableId) (img : StoredImage) : Keeps s (installImage t img s) := .of_same rfl

theorem withdrawFormer_keeps (old : List CompCfg) : Keeps s (withdrawFormer old s) :=
  .foldl (fun t _ => .ite (withdrawAll_keeps _ t) (.refl t)) _ _

/-- Records that are changed each by what keeps it sound. -/
theorem recs_ok_of_mapIdx {recs : List CompRec} {f : Nat → CompRec → CompRec} (ok : ∀ r ∈ recs, r.Ok)
    (kept : ∀ k r, r.Ok → (f k r).Ok) : ∀ r ∈ recs.mapIdx f, r.Ok := by
  intro r member
  obtain ⟨k, place, rfl⟩ := List.mem_mapIdx.mp member
  exact kept k _ (ok _ (List.getElem_mem place))

theorem withRecs_keeps {f : Nat → CompRec → CompRec} (order : List Nat) (kept : ∀ k r, r.Ok → (f k r).Ok) :
    Keeps s { s with comp := { s.comp with recs := s.comp.recs.mapIdx f, order := order } } where
  meter := id
  duty ok := ⟨recs_ok_of_mapIdx ok.1 kept, ok.2⟩

theorem compressorsTakeEffect_keeps (old : List CompCfg) : Keeps s (compressorsTakeEffect old s) := by
  unfold compressorsTakeEffect
  dsimp only
  have withdrawn := withdrawFormer_keeps s old
  generalize withdrawFormer old s = t at withdrawn ⊢
  refine .trans (.trans (withdrawn.trans (withRecs_keeps t _ ?_)) (occur_keeps _ _ _)) (dutyEvaluation_keeps _)
  exact fun k r sound => recordAfter_ok sound _ _

theorem ownerActs_keeps (t : TableId) (before : State) : Keeps s (ownerActs t before s) := by
  cases t with
  | units => exact unitsTakeEffect_keeps _ _ s
  | channels => exact channelsTakeEffect_keeps _ s
  | compressors => exact compressorsTakeEffect_keeps s _
  | dryers => exact dryersTakeEffect_keeps _ _ s
  | link => exact occur_keeps _ _ s
  | filters => exact occur_keeps _ _ s
  | events => exact occur_keeps _ _ s
  | runs => exact .refl s
  | station => exact .refl s
  | shippers => exact .refl s

theorem takeImage_keeps (t : TableId) (img : StoredImage) : Keeps s (takeImage t img s) := by
  refine .ite ((installImage_keeps s t img).trans (ownerActs_keeps _ t s)) ?_
  unfold makePending
  split
  all_goals exact .of_same rfl

theorem useNamed_keeps (l : Load) : Keeps s (l.useNamed s) := .ite (useChannels_keeps _ s) (.refl s)

theorem refuseCommit_keeps (q : Request) (l : Load) (f : Finding) : Keeps s (refuseCommit q l f s) := by
  have used := useNamed_keeps s l
  unfold refuseCommit
  split
  · exact answerRequest_keeps s q _ _
  · exact answerRequest_keeps s q _ _
  · exact used.trans (answerRequest_keeps _ q _ _)
  · exact (used.trans (occur_keeps _ _ _)).trans (answerRequest_keeps _ q _ _)
  · exact .refl s

/-! ### Resets and the clock (R108, R199 to R201) -/

theorem samplingReset_keeps : Keeps s (samplingReset s) := by
  refine .trans (.trans ?_ (checkStation_keeps _)) (startSweepTimer_keeps _)
  exact .of_same rfl

theorem runsRestart_keeps : Keeps s (runsRestart s) where
  meter ok := meterOk_of_mapIdx ok rfl fun _ _ x => x
  duty := id

/-- A RESTART keeps the run seconds and run milliseconds of a record, and leaves it without timers (R130). -/
theorem compRestart_keeps : Keeps s (compRestart s) where
  meter := id
  duty ok := by
    refine ⟨recs_ok_of_mapIdx ok.1 fun k r sound => ?_, ok.2⟩
    obtain ⟨-, -, -, seconds, milliseconds⟩ := sound
    exact recordAfterReset_ok _ _ seconds milliseconds

theorem modeReset_keeps (flag : Bool) : Keeps s (modeReset flag s) := .of_same rfl

theorem dryReset_keeps : Keeps s (dryReset s) := .of_same rfl

theorem mgmtRestart_keeps : Keeps s (mgmtRestart s) := .of_same rfl

theorem linkAndDirectoryRestart_keeps : Keeps s (directoryReset (linkRestart (eventsReset s))) := .of_same rfl

theorem restartBlocks_keeps : Keeps s (restartBlocks s) := by
  have sampled := (linkAndDirectoryRestart_keeps s).trans (samplingReset_keeps _)
  have duty := (sampled.trans (runsRestart_keeps _)).trans ((modeReset_keeps _ s.mode.flag).trans (compRestart_keeps _))
  exact duty.trans ((dryReset_keeps _).trans (mgmtRestart_keeps _))

theorem fieldRestart_keeps : Keeps s (fieldRestart s) :=
  .trans (.trans (restartBlocks_keeps s) (acctCompressor_keeps 0 _)) (acctDrying_keeps 0 _)

theorem restart_keeps (args : List Octet) : Keeps s (restart args s).state := by
  unfold restart
  dsimp only
  exact fieldRestart_keeps s

theorem runsPowerOn_keeps : Keeps s (runsPowerOn s) where
  meter _ x member := by
    obtain ⟨c, -, rfl⟩ := List.mem_map.mp member
    exact RunState.initial_residuesOk _ _
  duty := id

/-- At a power-on the run seconds of a record are those of the retained store (R130). -/
theorem compPowerOn_keeps : Keeps s (compPowerOn s) where
  meter := id
  duty ok := by
    refine ⟨fun r member => ?_, ok.2⟩
    obtain ⟨k, -, rfl⟩ := List.mem_map.mp member
    refine recordAfterReset_ok _ _ ?_ (by decide)
    rw [List.getD_eq_getElem?_getD]
    cases found : s.ret.runSeconds[k]? with
    | none => exact Nat.zero_le _
    | some v => exact ok.2 v (List.mem_of_getElem? found)

theorem powerOnBlocks_keeps : Keeps s (powerOnBlocks s) := by
  have meter : State.reset.MeterOk := by decide
  have duty : ∀ r ∈ State.reset.comp.recs, r.Ok := by decide
  unfold powerOnBlocks
  dsimp only
  refine .trans (.trans (.trans ?_ (runsPowerOn_keeps _)) (samplingReset_keeps _)) (compPowerOn_keeps _)
  exact ⟨fun _ => meter, fun ok => ⟨duty, ok.2⟩⟩

theorem repeat_keeps {f : State → State} (h : ∀ t, Keeps t (f t)) (n : Nat) : Keeps s (Nat.repeat f n s) := by
  induction n with
  | zero => exact .refl s
  | succ n ih => exact ih.trans (h _)

theorem tick_keeps : Keeps s (tick s) where
  meter ok := meterOk_of_mapIdx ok rfl fun _ x sound => sound.holdTimer _
  duty ok := by
    refine ⟨recs_ok_of_mapIdx ok.1 fun _ _ sound => ?_, ok.2⟩
    split
    · exact sound.accrue
    · exact sound

end

/-! ### Every command -/

/-- An answer that goes on keeps the runs and the records of the state it was given for. -/
def Answer.KeptFrom (s : State) : Answer → Prop
  | .next t => Keeps s t
  | .fault _ => True
  | .refused _ => True

section
variable {s : State}

theorem serve_keeps {code : Octet} {f : List Octet → State → Reply} (h : ∀ args, Keeps s (f args s).state) :
    Answer.KeptFrom s (serve code f s) := by
  unfold serve
  split
  · exact .refl s
  · split
    · exact (h _).trans (answerRequest_keeps _ _ _ _)
    · exact answerRequest_keeps s _ _ _

/-- An expiry acts on a target that exists when its moment has come. -/
theorem guarded_keeps {c d : Prop} [Decidable c] [Decidable d] {r : Refusal} {t : State} (h : d → Keeps s t) :
    Answer.KeptFrom s (if c then .refused r else .next (if d then t else s)) := by
  split
  · trivial
  · show Keeps s _
    split
    next due => exact h due
    · exact .refl s

/-- The duty state in the guard of a duty timer's expiry. -/
theorem state_of_guard {a b : DutyState} {e : Bool} (h : (decide (a = b) && e) = true) : a = b :=
  of_decide_eq_true (Bool.and_eq_true_iff.mp h).1

theorem execLineupTimerExpiry_keeps : Answer.KeptFrom s (execLineupTimerExpiry s) := by
  unfold execLineupTimerExpiry Answer.KeptFrom
  dsimp only
  split
  · exact .ite (failTransition_keeps s) (.refl s)
  · exact .refl s

theorem execRundownTimerExpiry_keeps : Answer.KeptFrom s (execRundownTimerExpiry s) := by
  unfold execRundownTimerExpiry Answer.KeptFrom
  dsimp only
  split
  · exact .ite (failTransition_keeps s) (.refl s)
  · exact .refl s

theorem execQuietDwellExpiry_keeps : Answer.KeptFrom s (execQuietDwellExpiry s) := by
  unfold execQuietDwellExpiry Answer.KeptFrom
  dsimp only
  split
  · exact .ite (quietReached_keeps _ s) (.refl s)
  · exact .refl s

theorem execEngineSelect_keeps : Answer.KeptFrom s (execEngineSelect s) := by
  unfold execEngineSelect Answer.KeptFrom
  dsimp only
  split
  · exact beginService_keeps _ s
  · exact .refl s

theorem execEngineConditioningDone_keeps : Answer.KeptFrom s (execEngineConditioningDone s) := by
  unfold execEngineConditioningDone
  split
  · exact .refl s
  · exact engineDone_keeps _ s _

theorem execCustodyConditioningDone_keeps (ch : Nat) : Answer.KeptFrom s (execCustodyConditioningDone ch s) := by
  unfold execCustodyConditioningDone
  repeat' split
  · trivial
  · exact .refl s
  · exact custodyDone_keeps _ s _

theorem execOpeningValveTimeout_keeps (i : Nat) : Answer.KeptFrom s (execOpeningValveTimeout i s) := by
  unfold execOpeningValveTimeout
  repeat' split
  · trivial
  · exact .refl s
  · exact (failOpening_keeps i s true _).trans (evalTrain_keeps _ _)

theorem execReleasingValveTimeout_keeps (i : Nat) : Answer.KeptFrom s (execReleasingValveTimeout i s) := by
  unfold execReleasingValveTimeout
  repeat' split
  · trivial
  · exact .refl s
  · exact (failRelease_keeps i s true _).trans (evalTrain_keeps _ _)

theorem execCloseComplete_keeps : Answer.KeptFrom s (execCloseComplete s) := by
  unfold execCloseComplete Answer.KeptFrom
  dsimp only
  repeat' split
  · exact .refl s
  · exact .refl s
  · exact completeClose_keeps s _ _

theorem execUnknownRequest_keeps : Answer.KeptFrom s (execUnknownRequest s) := by
  unfold execUnknownRequest
  split
  · exact .refl s
  · exact .ite (answerRequest_keeps s _ _ _) (.refl s)

theorem execLoadCommit_keeps : Answer.KeptFrom s (execLoadCommit s) := by
  unfold execLoadCommit
  repeat' split
  · exact .refl s
  · exact answerRequest_keeps s _ _ _
  · exact answerRequest_keeps s _ _ _
  · exact .of_same rfl

theorem execCommitComplete_keeps : Answer.KeptFrom s (execCommitComplete s) := by
  unfold execCommitComplete Answer.KeptFrom
  dsimp only
  split
  next q l _ =>
    have unloaded : Keeps s (setLoad none (l.useNamed s)) := (useNamed_keeps s l).trans (setLoad_keeps _ _)
    exact .ite ((unloaded.trans (takeImage_keeps _ _ _)).trans (answerRequest_keeps _ q _ _)) (.refl s)
  · exact .refl s

theorem execCommitRefused_keeps : Answer.KeptFrom s (execCommitRefused s) := by
  unfold execCommitRefused Answer.KeptFrom
  dsimp only
  split
  · exact refuseCommit_keeps s _ _ _
  · exact .refl s

theorem execAbortDelimiter_keeps (a : LineAbort) : Answer.KeptFrom s (execAbortDelimiter a s) := by
  unfold execAbortDelimiter Answer.KeptFrom dropCollected
  dsimp only
  split
  all_goals exact .of_same rfl

end

/-- Every command keeps the ranges of the runs and of the duty records. -/
theorem exec_keeps (c : Instr) (s : State) : Answer.KeptFrom s (exec c s) := by
  cases c with
  | powerOnReset => exact (powerOnBlocks_keeps s).trans (repeat_keeps _ (occur_keeps _ _) _)
  | custodyLineChange => exact .of_same rfl
  | frameArrivalPortF run => exact .trans (.of_same (by rfl)) (takeFrameF_keeps _ _)
  | frameArrivalPortS run => exact .trans (.of_same (by rfl)) (takeFrameS_keeps _ _)
  | portSSelect => exact .ite (selectPortS_keeps s) (.refl s)
  | portSTransmitEnd => exact .of_same rfl
  | portFSelect => exact .ite (selectPortF_keeps s) (.refl s)
  | portFTransmitEnd => exact .of_same rfl
  | silenceTimeout i => exact guarded_keeps fun _ => departEntry_keeps i s
  | releaseUnit => exact serve_keeps (releaseUnit_keeps s)
  | readUnit => exact serve_keeps fun a => (readUnit_state a s).symm ▸ .refl s
  | intervalTimerExpiry ch => exact guarded_keeps fun _ => (onChan_keeps ch _ s).trans (examinePending_keeps ch _)
  | custodyConditioningDone ch => exact execCustodyConditioningDone_keeps ch
  | engineSelect => exact execEngineSelect_keeps
  | engineConditioningDone => exact execEngineConditioningDone_keeps
  | ageTimerExpiry ch => exact guarded_keeps fun _ => channelAged_keeps ch s
  | sweepPeriodExpiry => exact .ite (sweepPeriod_keeps s) (.refl s)
  | sweep => exact serve_keeps (sweepRequest_keeps s)
  | readChannel => exact serve_keeps (readChannelRequest_keeps s)
  | readPeaks => exact serve_keeps (readPeaks_keeps s)
  | refStaleTimerExpiry r => exact guarded_keeps fun _ => refStale_keeps r s
  | readRun => exact serve_keeps (readRun_keeps s)
  | boundary => exact .ite (raiseBoundary_keeps s) (.refl s)
  | timeWrap => exact .ite (wrapTime_keeps s) (.refl s)
  | setTime => exact serve_keeps (setTime_keeps s)
  | setMode => exact serve_keeps (setMode_keeps · s)
  | lineupTimerExpiry => exact execLineupTimerExpiry_keeps
  | rundownTimerExpiry => exact execRundownTimerExpiry_keeps
  | quietDwellExpiry => exact execQuietDwellExpiry_keeps
  | readStatus => exact serve_keeps fun _ => .refl s
  | startConfirmExpiry k => exact guarded_keeps fun due => failStart_keeps k s (state_of_guard due)
  | minimumRunExpiry k => exact guarded_keeps fun _ => minimumRunOver_keeps k s
  | stopConfirmExpiry k => exact guarded_keeps fun due => stopTimedOut_keeps k s (state_of_guard due)
  | cooldownExpiry k => exact guarded_keeps fun due => cooledDown_keeps k s (state_of_guard due)
  | startMarkAgeout k => exact guarded_keeps fun _ => markAgeout_keeps k s
  | resetUnit => exact serve_keeps (resetUnit_keeps s)
  | setUnitAuto => exact serve_keeps (setUnitMode_keeps s .auto)
  | setUnitManual => exact serve_keeps (setUnitMode_keeps s .manual)
  | rotate => exact serve_keeps (rotate_keeps s)
  | readCompressor => exact serve_keeps (readCompressor_keeps s)
  | adsorbLimitExpiry i => exact guarded_keeps fun _ => adsorbLimit_keeps i s
  | openingValveTimeout i => exact execOpeningValveTimeout_keeps i
  | releasingValveTimeout i => exact execReleasingValveTimeout_keeps i
  | heatTimeReached i x => exact guarded_keeps fun _ => heatReached_keeps i s x
  | heatShort i x => exact guarded_keeps fun _ => heatShort_keeps i s x
  | coolTimerExpiry i x => exact guarded_keeps fun _ => cooled_keeps i s x
  | holdTrain => exact serve_keeps (holdTrain_keeps s)
  | resumeTrain => exact serve_keeps (resumeTrain_keeps s)
  | forceSwitch => exact serve_keeps (forceSwitch_keeps s)
  | returnBed => exact serve_keeps (returnBed_keeps s)
  | readDryer => exact serve_keeps (readDryer_keeps s)
  | nominate => exact serve_keeps (nominate_keeps s)
  | closeComplete => exact execCloseComplete_keeps
  | transfer => exact serve_keeps (transfer_keeps s)
  | readShipper => exact serve_keeps (readShipper_keeps s)
  | readClose => exact serve_keeps (readClose_keeps s)
  | clearEvents => exact serve_keeps (clearEvents_keeps s)
  | forceEvent => exact serve_keeps (forceEvent_keeps s)
  | readEvents => exact serve_keeps (readEvents_keeps s)
  | readTable => exact serve_keeps fun a => (readTable_state a s).symm ▸ .refl s
  | restart => exact serve_keeps (restart_keeps s)
  | unknownRequest => exact execUnknownRequest_keeps
  | loadBegin => exact serve_keeps (loadBegin_keeps s)
  | loadData => exact serve_keeps (loadData_keeps s)
  | loadAbort => exact serve_keeps (loadAbort_keeps s)
  | loadCommit => exact execLoadCommit_keeps
  | commitComplete => exact execCommitComplete_keeps
  | abortDelimiter a => exact execAbortDelimiter_keeps a
  | commitRefused => exact execCommitRefused_keeps

theorem step_keeps (s : State) : Answer.KeptFrom s (step s) := by
  unfold step
  split
  · exact tick_keeps s
  next c rest _ =>
    have kept := exec_keeps c { s with pending := rest }
    generalize exec c { s with pending := rest } = answer at kept ⊢
    cases answer with
    | next t => exact .trans (.of_same (by rfl)) kept
    | fault _ => trivial
    | refused _ => trivial

/-- Settles O56: a command reaches residues and carries through remainders alone, and sets a duty timer only together
with the duty state it belongs to; both invariants pass through every other operation. -/
theorem stepKeepsMeterAndDutyRecords : Obligations.StepKeepsMeterAndDutyRecords := by
  have keeps {s t : State} (h : step s = .next t) : Keeps s t := by
    have kept := step_keeps s
    rw [h] at kept
    exact kept
  exact ⟨fun _ _ ok h => (keeps h).meter ok, fun _ _ ok h => (keeps h).duty ok⟩

end Sys2Proof.Machine

/-!
SUPPORT. One run of the state after a change of one run, and the handover of a run to the group of its boundary
(R79, R167).
-/

namespace Sys2Proof.Machine

/-! ### One run -/

section
variable {s : State} {r : Nat}

theorem onRun_run_same (f : RunState → RunState) (place : r < s.runs.length) : (s.onRun r f).run r = f (s.run r) := by
  rw [State.run_onRun, if_pos ⟨rfl, place⟩]

theorem onRun_run_ne (f : RunState → RunState) {j : Nat} (other : j ≠ r) : (s.onRun r f).run j = s.run j := by
  rw [State.run_onRun, if_neg fun h => other h.1.symm]

end

/-! ### Slots (R79) -/

/-- Whole kWh and a remainder below one kWh. -/
theorem handedOver_conserves (a : Slot) :
    a.kWh * 3600000 + a.handedOver.carry = a.joules + a.carry ∧ a.handedOver.carry < 3600000 ∧ a.handedOver.joules = 0 :=
  ⟨Nat.div_add_mod' _ _, handedOver_carry_lt a, rfl⟩

section
variable {x : RunState}

theorem handedOver_slots_length (x : RunState) : x.handedOver.slots.length = x.slots.length := List.length_mapIdx

theorem handedOver_slot {i : Nat} (place : i < x.slots.length) : x.handedOver.slots.getD i ⟨0, 0⟩ =
    if i < x.role.accumulators then (x.slots.getD i ⟨0, 0⟩).handedOver else x.slots.getD i ⟨0, 0⟩ := by
  simp [RunState.handedOver, List.getD_eq_getElem?_getD, place]

theorem handedOver_of_unused (unused : x.role = .unused) : x.handedOver = x := by
  obtain ⟨role, slots⟩ := x
  subst unused
  have same : slots.mapIdx (fun _ a => a) = slots := List.ext_getElem (by simp) (by simp)
  simp [RunState.handedOver, Role.accumulators, same]

end

/-! ### The group of a boundary (R167) -/

section
variable {num : Nat} {s : State} {f : Group → Group}

theorem map_group_of_absent {groups : List Group} (absent : ∀ h ∈ groups, h.num ≠ num) :
    groups.map (fun g => if g.num = num then f g else g) = groups := by
  refine (List.map_congr_left fun h member => ?_).trans (List.map_id _)
  exact if_neg (absent h member)

theorem onGroup_openGroup_of_mem {older newer : List Group} {g : Group} (groups : s.acct.groups = older ++ g :: newer)
    (named : g.num = num) (others : ∀ h ∈ older ++ newer, h.num ≠ num) :
    (onGroup num f (openGroup num s)).acct.groups = older ++ f g :: newer := by
  have known : openGroup num s = s := if_pos (by simp [groups, named])
  have before := map_group_of_absent (f := f) fun h member => others h (List.mem_append_left _ member)
  have after := map_group_of_absent (f := f) fun h member => others h (List.mem_append_right _ member)
  rw [known]
  simp only [onGroup, groups, List.map_append, List.map_cons, before, after, if_pos named]

theorem onGroup_openGroup_of_absent (absent : ∀ h ∈ s.acct.groups, h.num ≠ num) :
    (onGroup num f (openGroup num s)).acct.groups = s.acct.groups ++ [f (Group.opened num)] := by
  have opened : (openGroup num s).acct.groups = s.acct.groups ++ [Group.opened num] := by
    rw [openGroup, if_neg (by simpa using absent)]
  simp [onGroup, opened, map_group_of_absent absent, Group.opened]

end

/-! ### The handover of a run -/

section
variable {num r : Nat} {s : State}

theorem handover_of_unused (unused : (s.run r).role = .unused) : handover num r s = s := if_pos unused

theorem handover_of_used (used : (s.run r).role ≠ .unused) :
    handover num r s = (onGroup num (Group.take (s.run r)) (openGroup num s)).onRun r RunState.handedOver := if_neg used

theorem openGroup_runs (num : Nat) (s : State) : (openGroup num s).runs = s.runs := by
  unfold openGroup
  split
  · rfl
  · rfl

theorem onGroup_openGroup_run (f : Group → Group) (j : Nat) : (onGroup num f (openGroup num s)).run j = s.run j :=
  congrArg (fun runs : List RunState => runs.getD j (.initial .unused .ready)) (openGroup_runs num s)

theorem handover_run_same (place : r < s.runs.length) : (handover num r s).run r = (s.run r).handedOver := by
  by_cases unused : (s.run r).role = .unused
  · rw [handover_of_unused unused, handedOver_of_unused unused]
  · have inside : r < (onGroup num (Group.take (s.run r)) (openGroup num s)).runs.length :=
      (openGroup_runs num s).symm ▸ place
    rw [handover_of_used unused, onRun_run_same _ inside, onGroup_openGroup_run]

theorem handover_run_ne {j : Nat} (other : j ≠ r) : (handover num r s).run j = s.run j := by
  by_cases unused : (s.run r).role = .unused
  · rw [handover_of_unused unused]
  · rw [handover_of_used unused, onRun_run_ne _ other, onGroup_openGroup_run]

theorem handover_groups_of_mem {older newer : List Group} {g : Group} (used : (s.run r).role ≠ .unused)
    (groups : s.acct.groups = older ++ g :: newer) (named : g.num = num) (others : ∀ h ∈ older ++ newer, h.num ≠ num) :
    (handover num r s).acct.groups = older ++ g.take (s.run r) :: newer := by
  rw [handover_of_used used]
  exact onGroup_openGroup_of_mem groups named others

theorem handover_groups_of_absent (used : (s.run r).role ≠ .unused) (absent : ∀ h ∈ s.acct.groups, h.num ≠ num) :
    (handover num r s).acct.groups = s.acct.groups ++ [(Group.opened num).take (s.run r)] := by
  rw [handover_of_used used]
  exact onGroup_openGroup_of_absent absent

end

/-- Settles O21: division with remainder for the slot; a run in use hands over through its group, an UNUSED one not at
all. -/
theorem handoverLosesNoEnergy : Obligations.HandoverLosesNoEnergy := by
  refine ⟨handedOver_conserves, fun num s r place => ?_⟩
  have frame := handover_frame num r s
  dsimp only
  rw [handover_run_same place]
  refine ⟨rfl, handedOver_slots_length _, fun i inside counted => ?_, fun i inside spare => ?_, fun used => ?_,
    fun unused => ?_, handover_of_unused, ?_, ?_, fun j => handover_run_ne, frame.ret, frame.tables⟩
  · rw [handedOver_slot inside, if_pos counted]
    rfl
  · rw [handedOver_slot inside, if_neg (Nat.not_lt.mpr spare)]
  · exact if_neg used
  · exact if_pos unused
  · intro older newer g used groups named others
    exact handover_groups_of_mem used groups named others
  · exact handover_groups_of_absent

end Sys2Proof.Machine

/-!
SUPPORT. What a trigger reads and writes (R66 to R81): the event records that an operation leaves, the channel checks of
its inputs, its stages, and the notices that follow.
-/

namespace Sys2Proof.Machine

/-! ### Event records that an operation leaves -/

/-- The record of source `n` stays, and so does the number of records. -/
structure SameSource (n : Nat) (s t : State) : Prop where
  source : t.source n = s.source n
  length : t.ev.recs.length = s.ev.recs.length

section
variable {n m : Nat} {s t u : State}

theorem SameSource.refl (n : Nat) (s : State) : SameSource n s s := ⟨rfl, rfl⟩

theorem SameSource.trans (h : SameSource n s t) (k : SameSource n t u) : SameSource n s u :=
  ⟨k.source.trans h.source, k.length.trans h.length⟩

theorem SameSource.of_ev (same : t.ev.recs = s.ev.recs) : SameSource n s t :=
  ⟨congrArg (fun recs : List SourceRec => recs.getD n .initial) same, congrArg List.length same⟩

theorem SameSource.ite {c : Prop} [Decidable c] (h : SameSource n s t) (k : SameSource n s u) :
    SameSource n s (if c then t else u) := by
  split
  · exact h
  · exact k

theorem occurPlain_sameSource (other : n ≠ m) (b : Nat) (s : State) : SameSource n s (occurPlain m b s) :=
  ⟨by simp [State.source, List.getD_eq_getElem?_getD, List.getElem?_set_ne other.symm], by simp⟩

theorem occurParity_sameSource (other : n ≠ Src.tableParity) (b : Nat) (s : State) : SameSource n s (occurParity b s) := by
  have marked : SameSource n s (s.setMark .events Src.tableParity) := .of_ev rfl
  unfold occurParity
  split
  · exact (marked.trans (occurPlain_sameSource other _ _)).trans (occurPlain_sameSource other _ _)
  · exact occurPlain_sameSource other b s

theorem occur_sameSource (other : n ≠ m) (parity : n ≠ Src.tableParity) (b : Nat) (s : State) :
    SameSource n s (occur m b s) := by
  have marked : SameSource n s (s.setMark .events m) := .of_ev rfl
  unfold occur
  repeat' split
  · exact occurParity_sameSource parity b s
  · exact (marked.trans (occurParity_sameSource parity _ _)).trans (occurPlain_sameSource other b _)
  · exact occurPlain_sameSource other b s

theorem occurIf_sameSource (other : n ≠ m) (parity : n ≠ Src.tableParity) (c : Bool) (b : Nat) (s : State) :
    SameSource n s (occurIf c m b s) := .ite (occur_sameSource other parity b s) (.refl n s)

theorem occurIf_source (place : n < s.ev.recs.length) (parity : n ≠ Src.tableParity) (c : Bool) (b : Nat) :
    (occurIf c n b s).source n =
      if c then ⟨true, min 255 ((s.source n).count + 1), BitVec.ofNat 8 b⟩ else s.source n := by
  cases c with
  | false => rfl
  | true => exact occur_source b place parity

theorem markEntry_sameSource (parity : n ≠ Src.tableParity) (t : TableId) (i b : Nat) (s : State) :
    SameSource n s (markEntry t i b s) :=
  .trans (t := s.setMark t i) (.of_ev rfl) (occurParity_sameSource parity b _)

theorem useChannel_sameSource (sweep : n ≠ Src.sweepDone) (parity : n ≠ Src.tableParity) (ch : Nat) (s : State) :
    SameSource n s (useChannel ch s) := by
  have counted (t : State) : SameSource n t (sweepCounts ch t) :=
    .ite (.trans (.of_ev (by rfl)) (occurIf_sameSource sweep parity _ _ _)) (.refl n t)
  have withdrawn (t : State) : SameSource n t (withdrawRequest ch t) :=
    .ite (.trans (.of_ev (by rfl)) (counted _)) (.refl n t)
  have dropped : SameSource n s (dropPending ch (markEntry .channels ch ch s)) :=
    (markEntry_sameSource parity _ _ _ s).trans (.of_ev rfl)
  exact .ite ((dropped.trans (withdrawn _)).trans (.of_ev (by rfl))) (.refl n s)

theorem useChannels_sameSource (sweep : n ≠ Src.sweepDone) (parity : n ≠ Src.tableParity) (chs : List Nat) (s : State) :
    SameSource n s (useChannels chs s) := by
  unfold useChannels
  induction chs generalizing s with
  | nil => exact .refl n s
  | cons ch chs ih => exact (useChannel_sameSource sweep parity ch s).trans (ih _)

theorem flowNotice_sameSource (parity : n ≠ Src.tableParity) (s : State) : SameSource n s (flowNotice s) := by
  have checked : SameSource n s (checkStation s) :=
    .ite ((markEntry_sameSource parity _ _ _ s).trans (.of_ev (by rfl))) (.refl n s)
  exact .ite (.ite (.ite checked (checked.trans (.of_ev (by rfl)))) (checked.trans (.of_ev (by rfl)))) (.refl n s)

end

/-! ### The checks of the inputs (R37) -/

theorem useChannel_dry (ch : Nat) (s : State) : (useChannel ch s).dry = s.dry := by
  have marked : (markEntry .channels ch ch s).dry = s.dry := (markEntry_frame (t := .channels) ch ch s (by decide)).dry
  have counted (t : State) : (sweepCounts ch t).dry = t.dry := by
    unfold sweepCounts
    dsimp only
    split
    · exact (occurIf_frame _ _ _ _).dry
    · rfl
  have withdrawn (t : State) : (withdrawRequest ch t).dry = t.dry := by
    unfold withdrawRequest
    split
    · exact counted _
    · rfl
  unfold useChannel
  split
  · exact (withdrawn _).trans marked
  · rfl

theorem useChannels_dry (chs : List Nat) (s : State) : (useChannels chs s).dry = s.dry := by
  unfold useChannels
  induction chs generalizing s with
  | nil => rfl
  | cons ch chs ih => exact (ih _).trans (useChannel_dry ch s)

section
variable (r : Nat) (s : State)

theorem useInputs_frame : ByDrying s (useInputs r s) := useChannels_frame _ s

theorem useInputs_run (j : Nat) : (useInputs r s).run j = s.run j := by
  rw [State.run, (useInputs_frame r s).runs, State.run]

theorem useInputs_runCfg (j : Nat) : (useInputs r s).runCfg j = s.runCfg j := by
  rw [State.runCfg, (useInputs_frame r s).tables, State.runCfg]

end

/-! ### The stages (R67 to R76) -/

/-- Rounding half up, for a quotient of natural numbers (R72). -/
theorem roundHalfUp_toNat (num den : Nat) : (roundHalfUp num den).toNat = (2 * num + den) / (2 * den) := by
  have quotient : roundHalfUp num den = (((2 * num + den) / (2 * den) : Nat) : Int) := by
    unfold roundHalfUp
    norm_cast
  rw [quotient, Int.toNat_natCast]

theorem standardVolume_eq (c : RunCfg) (va p t z : Nat) :
    standardVolume c va p t z = (2 * (va * p * c.tb * c.zb) + c.pb * t * z) / (2 * (c.pb * t * z)) := roundHalfUp_toNat _ _

theorem energyOf_conserves (vb h rE : Nat) : (energyOf vb h rE).1 * 1000 + (energyOf vb h rE).2 = vb * h + rE :=
  Nat.div_add_mod' _ _

section
variable {role : Role} {mode : Mode} {q : Int}

theorem classify_none (idle : q = 0 ∨ role = .unused) : (classify role mode q).1 = none := by
  unfold classify
  rcases idle with rfl | rfl
  · rfl
  · split <;> rfl

theorem classify_single (single : role = .fuel ∨ role = .regen) (flows : q ≠ 0) : (classify role mode q).1 = some 0 := by
  unfold classify
  rw [if_neg flows]
  rcases single with rfl | rfl <;> rfl

theorem classify_in (flows : 0 < q) :
    (classify .station mode q).1 = some (if mode = .inject then 0 else 2) := by
  unfold classify
  rw [if_neg flows.ne']
  dsimp only
  rw [if_pos flows]
  cases mode <;> rfl

theorem classify_out (flows : q < 0) :
    (classify .station mode q).1 = some (if mode = .withdraw then 1 else 3) := by
  unfold classify
  rw [if_neg flows.ne]
  dsimp only
  rw [if_neg flows.not_gt]
  cases mode <;> rfl

theorem classify_counterflow : (classify role mode q).2 = (decide (role = .station) &&
    (decide (mode = .withdraw) && decide (0 < q) || decide (mode = .inject) && decide (q < 0))) := by
  rcases lt_trichotomy q 0 with out | rfl | into
  · cases role <;> cases mode <;> simp [classify, out, out.ne, out.not_gt]
  · simp [classify]
  · cases role <;> cases mode <;> simp [classify, into, into.ne', into.not_gt]

end

/-! ### The events of the stages -/

/-- Source `src` is latched for run `r` on the way from `s` to `t` in its case, and is left otherwise. -/
def Told (r : Nat) (s t : State) (case : Bool) (src : Nat) : Prop :=
  t.source src = if case then ⟨true, min 255 ((s.source src).count + 1), BitVec.ofNat 8 r⟩ else s.source src

section
variable {r src : Nat} {case : Bool} {s t u : State}

theorem occurIf_told (place : src < s.ev.recs.length) (parity : src ≠ Src.tableParity) :
    Told r s (occurIf case src r s) case src := occurIf_source place parity case r

theorem Told.after (h : SameSource src s t) (k : Told r t u case src) : Told r s u case src := by
  unfold Told at k ⊢
  rw [k, h.source]

theorem Told.before (h : Told r s t case src) (k : SameSource src t u) : Told r s u case src := k.source.trans h

/-- A series of events for run `r`, each in its case. -/
def occurEach (r : Nat) (events : List (Bool × Nat)) (s : State) : State :=
  events.foldl (fun s e => occurIf e.1 e.2 r s) s

theorem occurEach_sameSource (parity : src ≠ Src.tableParity) {events : List (Bool × Nat)}
    (others : ∀ e ∈ events, src ≠ e.2) (s : State) : SameSource src s (occurEach r events s) := by
  induction events generalizing s with
  | nil => exact .refl src s
  | cons e events ih =>
    obtain ⟨first, rest⟩ := List.forall_mem_cons.mp others
    exact (occurIf_sameSource first parity _ r s).trans (ih rest _)

theorem occurEach_told {events : List (Bool × Nat)} (distinct : (events.map (·.2)).Nodup)
    (places : ∀ e ∈ events, e.2 < s.ev.recs.length ∧ e.2 ≠ Src.tableParity) (listed : (case, src) ∈ events) :
    Told r s (occurEach r events s) case src := by
  induction events generalizing s with
  | nil => nomatch listed
  | cons e events ih =>
    obtain ⟨⟨place, parity⟩, rest⟩ := List.forall_mem_cons.mp places
    obtain ⟨new, distinct⟩ := List.nodup_cons.mp distinct
    have differ {d : Bool × Nat} (later : d ∈ events) : e.2 ≠ d.2 := fun same =>
      new (List.mem_map.mpr ⟨d, later, same.symm⟩)
    rcases List.mem_cons.mp listed with rfl | later
    · exact (occurIf_told place parity).before (occurEach_sameSource parity (fun d => differ) _)
    · have kept := occurIf_sameSource (differ later).symm (rest _ later).2 e.1 r s
      refine Told.after kept (ih distinct (fun d later => ⟨?_, (rest d later).2⟩) later)
      rw [kept.length]
      exact (rest d later).1

/-- Each event of the stages is latched in its case and leaves the records of the others. -/
theorem stageEvents_told {k : Computed} (recs : s.ev.recs.length = 48)
    (stage : (case, src) ∈ [(k.record.flags.dtCapped, Src.gapCapped), (k.record.flags.qSubstituted, Src.flowSubstituted),
      (k.zRange, Src.zRange), (k.counterflow, Src.counterflow)]) : Told r s (stageEvents r k s) case src := by
  refine occurEach_told (by simp only [List.map_cons, List.map_nil]; decide) (fun e listed => ?_) stage
  rw [recs]
  simp only [List.mem_cons, List.not_mem_nil, or_false] at listed
  rcases listed with rfl | rfl | rfl | rfl <;> dsimp only <;> decide

end

/-! ### The run after a trigger that computes -/

section
variable (r m : Nat) (s : State)

theorem computed_frame : ByDuty (s.onRun r (RunState.after s.now (s.compute r m))) (computed r m s) :=
  stageEvents_frame _ _ _

theorem tellVolume_frame (k : TriggerRecord) : ByDrying s (tellVolume r k s) := .ite (dryVolume_frame r _ s) (.refl s)

theorem tellFlow_frame : ByStation s (tellFlow r s) := .ite (flowNotice_frame s) (.refl s)

/-- What a trigger works out once its inputs are checked. -/
def workedOut : Computed := (useInputs r s).compute r m

/-- The stages take the run, its parameters, the mode and the moment as they are before the checks of the inputs. -/
theorem workedOut_dt : (workedOut r m s).record.dt = min (s.now - m) (s.runCfg r).gapCap := by
  rw [← (useInputs_frame r s).now, ← useInputs_runCfg r s r]
  rfl

theorem workedOut_dtCapped : (workedOut r m s).record.flags.dtCapped = decide ((s.runCfg r).gapCap < s.now - m) := by
  rw [← (useInputs_frame r s).now, ← useInputs_runCfg r s r]
  rfl

theorem workedOut_volume : (workedOut r m s).record.va * 360 + (workedOut r m s).rV =
    (workedOut r m s).record.q.natAbs * min (s.now - m) (s.runCfg r).gapCap + (s.run r).rV := by
  rw [← workedOut_dt, ← useInputs_run r s r]
  exact actualVolume_conserves _ _ _

theorem workedOut_vb : (workedOut r m s).record.vb =
    (2 * ((workedOut r m s).record.va * (workedOut r m s).record.p * (s.runCfg r).tb * (s.runCfg r).zb) +
      (s.runCfg r).pb * (workedOut r m s).record.t * (workedOut r m s).record.z) /
      (2 * ((s.runCfg r).pb * (workedOut r m s).record.t * (workedOut r m s).record.z)) := by
  rw [← useInputs_runCfg r s r]
  exact standardVolume_eq _ _ _ _ _

theorem workedOut_energy : (workedOut r m s).record.e * 1000 + (workedOut r m s).rE =
    (workedOut r m s).record.vb * (workedOut r m s).record.h + (s.run r).rE := by
  rw [← useInputs_run r s r]
  exact energyOf_conserves _ _ _

theorem workedOut_acc : (workedOut r m s).record.acc =
    (classify (s.run r).role s.mode.mode (workedOut r m s).record.q).1 := by
  rw [← useInputs_run r s r, ← (useInputs_frame r s).mode]
  rfl

theorem workedOut_counterflow : (workedOut r m s).counterflow =
    (classify (s.run r).role s.mode.mode (workedOut r m s).record.q).2 := by
  rw [← useInputs_run r s r, ← (useInputs_frame r s).mode]
  rfl

theorem computed_runs : (computed r m (useInputs r s)).runs = s.runs.modify r (RunState.after s.now (workedOut r m s)) := by
  rw [(computed_frame r m _).runs, State.onRun, (useInputs_frame r s).runs, (useInputs_frame r s).now, workedOut]

theorem computeTrigger_runs :
    (computeTrigger r m s).runs = s.runs.modify r (RunState.after s.now (workedOut r m s)) := by
  rw [computeTrigger_eq, (tellFlow_frame r _).runs, (tellVolume_frame r _ _).runs, computed_runs]

end

section
variable {r m : Nat} {s : State}

theorem computeTrigger_run (j : Nat) : (computeTrigger r m s).run j =
    if r = j ∧ j < s.runs.length then (s.run j).after s.now (workedOut r m s) else s.run j := by
  rw [State.run, computeTrigger_runs]
  exact getD_modify _ _ _ _ _

theorem computed_run (place : r < s.runs.length) :
    (computed r m (useInputs r s)).run r = (s.run r).after s.now (workedOut r m s) := by
  rw [State.run, computed_runs]
  exact (getD_modify _ _ _ _ _).trans (if_pos ⟨rfl, place⟩)

theorem computed_runs_set (place : r < s.runs.length) : (computed r m (useInputs r s)).runs =
    s.runs.set r ((s.run r).after s.now (workedOut r m s)) := by
  rw [computed_runs, List.modify_eq_set_getElem?]
  simp [State.run, place]

theorem computed_dry : (computed r m (useInputs r s)).dry = s.dry := by
  rw [(computed_frame r m _).dry]
  exact useChannels_dry _ s

theorem computed_tables : (computed r m (useInputs r s)).tables = s.tables := by
  rw [(computed_frame r m _).tables]
  exact (useInputs_frame r s).tables

theorem tellFlow_of_station (station : (s.run r).role = .station) : tellFlow r s = flowNotice s := if_pos station

theorem tellVolume_of_none {k : TriggerRecord} (none : k.acc ≠ some 1) : tellVolume r k s = s := if_neg fun h => none h.2.1

theorem tellVolume_of_out {k : TriggerRecord} (station : (s.run r).role = .station) (out : k.acc = some 1)
    (water : 0 < k.vb) : tellVolume r k s = dryVolume r k.vb s := if_pos ⟨station, out, water⟩

theorem dryVolume_run (vb j : Nat) (s : State) : (dryVolume r vb s).run j = s.run j := by
  rw [State.run, (dryVolume_frame r vb s).runs, State.run]

theorem computed_role (place : r < s.runs.length) : ((computed r m (useInputs r s)).run r).role = (s.run r).role := by
  rw [computed_run place]
  rfl

/-- A volume out of a STATION run is told to its trains, then the mode machine is told (R77, R93). -/
theorem computeTrigger_of_out (place : r < s.runs.length) (station : (s.run r).role = .station)
    (out : (workedOut r m s).record.acc = some 1) (water : 0 < (workedOut r m s).record.vb) :
    computeTrigger r m s = flowNotice (dryVolume r (workedOut r m s).record.vb (computed r m (useInputs r s))) := by
  have role : ((computed r m (useInputs r s)).run r).role = .station := (computed_role place).trans station
  rw [computeTrigger_eq, ← workedOut, tellVolume_of_out role out water, tellFlow_of_station]
  rwa [dryVolume_run]

theorem computeTrigger_of_quiet (none : (workedOut r m s).record.acc ≠ some 1) :
    computeTrigger r m s = tellFlow r (computed r m (useInputs r s)) := by
  rw [computeTrigger_eq, ← workedOut, tellVolume_of_none none]

theorem onRun_sameSource (f : RunState → RunState) (src : Nat) : SameSource src s (s.onRun r f) := .of_ev rfl

theorem computed_told (recs : s.ev.recs.length = 48) {case : Bool} {src : Nat}
    (stage : (case, src) ∈ [((s.compute r m).record.flags.dtCapped, Src.gapCapped),
      ((s.compute r m).record.flags.qSubstituted, Src.flowSubstituted), ((s.compute r m).zRange, Src.zRange),
      ((s.compute r m).counterflow, Src.counterflow)]) : Told r s (computed r m s) case src :=
  Told.after (onRun_sameSource _ src) (stageEvents_told recs stage)

theorem tellFlow_sameSource {src : Nat} (parity : src ≠ Src.tableParity) : SameSource src s (tellFlow r s) :=
  .ite (flowNotice_sameSource parity s) (.refl src s)

/-- Where no water is told, the event records are those that the stages leave. -/
theorem computeTrigger_told (none : (workedOut r m s).record.acc ≠ some 1) (recs : s.ev.recs.length = 48)
    {case : Bool} {src : Nat} (stage : (case, src) ∈ [((workedOut r m s).record.flags.dtCapped, Src.gapCapped),
      ((workedOut r m s).record.flags.qSubstituted, Src.flowSubstituted), ((workedOut r m s).zRange, Src.zRange),
      ((workedOut r m s).counterflow, Src.counterflow)]) : Told r s (computeTrigger r m s) case src := by
  have apart : src ≠ Src.sweepDone ∧ src ≠ Src.tableParity := by
    simp only [List.mem_cons, Prod.mk.injEq, List.not_mem_nil, or_false] at stage
    rcases stage with ⟨-, rfl⟩ | ⟨-, rfl⟩ | ⟨-, rfl⟩ | ⟨-, rfl⟩ <;> decide
  obtain ⟨sweep, parity⟩ := apart
  have used : SameSource src s (useInputs r s) := useChannels_sameSource sweep parity _ s
  have stages : Told r (useInputs r s) (computed r m (useInputs r s)) case src :=
    computed_told (used.length.trans recs) stage
  rw [computeTrigger_of_quiet none]
  exact (Told.after used stages).before (tellFlow_sameSource parity)

end

/-! ### The trigger (R66, R81) -/

section
variable {r : Nat} {s : State}

theorem trigger_of_bad (bad : s.foundBad .runs r = true) :
    trigger r s = recordTrigger r (occur Src.tableParity r (s.setMark .runs r)) := by
  have checked : checkRun r s = markEntry .runs r r s := if_pos bad
  have marked : (checkRun r s).marked .runs r = true := by
    rw [checked, (markEntry_spec s r r r bad (by decide)).1]
    simp
  rw [trigger, if_pos marked, checked, markEntry_eq_occur]

theorem checkRun_of_sound (sound : s.foundBad .runs r = false) : checkRun r s = s := if_neg (Bool.eq_false_iff.mp sound)

theorem trigger_records (sound : s.foundBad .runs r = false) (idle : (s.run r).mark = none ∨ s.marked .runs r = true) :
    trigger r s = recordTrigger r s := by
  unfold trigger
  dsimp only
  rw [checkRun_of_sound sound]
  split
  · rfl
  next unmarked =>
    rw [idle.resolve_right unmarked]

theorem trigger_computes {m : Nat} (sound : s.foundBad .runs r = false) (unmarked : s.marked .runs r = false)
    (mark : (s.run r).mark = some m) : trigger r s = computeTrigger r m s := by
  unfold trigger
  dsimp only
  rw [checkRun_of_sound sound, if_neg (Bool.eq_false_iff.mp unmarked), mark]

end

/-- Settles O19: a run without a mark computes on its checked inputs, and all that is told afterwards leaves the runs as
they are. -/
theorem triggerComputesEnergy : Obligations.TriggerComputesEnergy := by
  refine ⟨fun s r _ bad => ?_, fun s r place sound => ⟨trigger_records sound, fun m unmarked mark => ?_⟩⟩
  · rw [trigger_of_bad bad, recordTrigger, (occur_frame _ _ _).now]
    rfl
  have trig := trigger_computes sound unmarked mark
  have run : (trigger r s).run r = (s.run r).after s.now (workedOut r m s) := by
    rw [trig, computeTrigger_run, if_pos ⟨rfl, place⟩]
  have acc := workedOut_acc r m s
  dsimp only
  rw [run]
  refine ⟨(workedOut r m s).record, rfl, rfl, rfl, rfl, rfl, rfl, workedOut_dt r m s, workedOut_volume r m s,
    actualVolume_residue_lt _ _ _, workedOut_vb r m s, workedOut_energy r m s, energyOf_residue_lt _ _ _, fun idle => ?_,
    fun single flows => ?_, fun station flows => ?_, fun station flows => ?_, fun a told => ?_, fun none => ?_,
    fun j other => ?_, fun quiet recs => ?_, fun station out water => ?_, fun station quiet => ?_⟩
  · rw [acc, classify_none idle]
  · rw [acc, classify_single single flows]
  · rw [acc, station, classify_in flows]
  · rw [acc, station, classify_out flows]
  · simp only [RunState.after, told]
    rfl
  · simp only [RunState.after, none]
  · rw [trig, computeTrigger_run, if_neg fun same => other same.1.symm]
  · have told {case : Bool} {src : Nat} := computeTrigger_told (case := case) (src := src) quiet recs
    rw [trig]
    refine ⟨?_, told (by simp), told (List.mem_cons_of_mem _ (List.mem_cons_of_mem _ (List.mem_cons_self ..))), ?_⟩
    · rw [← workedOut_dtCapped]
      exact told (by simp)
    · rw [← classify_counterflow, ← workedOut_counterflow]
      exact told (by simp)
  · exact ⟨_, computed_runs_set place, computed_dry, computed_tables,
      trig.trans (computeTrigger_of_out place station out water)⟩
  · refine ⟨_, computed_runs_set place, computed_dry, ?_⟩
    rw [trig, computeTrigger_of_quiet quiet, tellFlow_of_station ((computed_role place).trans station)]

end Sys2Proof.Machine

/-!
SUPPORT. The inputs of a trigger (R68, R70, R71, R75, R78): what a channel reading gives, the fallbacks, the
compressibility on a rising curve, and when a trigger leaves its run ESTIMATED.
-/

namespace Sys2Proof.Machine

/-! ### Channel readings -/

/-- Channel `ch` is in use and shows this quality with this value. -/
def State.Reads (s : State) (ch : Nat) (q : Quality) (v : Int) : Prop :=
  (s.chCfg ch).inUse = true ∧ (s.chan ch).quality = q ∧ (s.chan ch).filtered = some v

/-- A trusted reading, GOOD or SUSPECT. -/
def State.Usable (s : State) (ch : Nat) (v : Int) : Prop := s.Reads ch .good v ∨ s.Reads ch .suspect v

/-- The age of a channel lies within the maximum of the run. -/
def State.Fresh (s : State) (ch maxAge : Nat) : Prop := ∃ t0, (s.chan ch).ageStart = some t0 ∧ s.now - t0 ≤ maxAge * 1000

/-- A GOOD reading within its range. -/
def State.Whole (s : State) (ch : Nat) (lo hi : Int) : Prop := ∃ v, s.Reads ch .good v ∧ lo ≤ v ∧ v ≤ hi

section
variable {s : State} {ch : Nat} {q : Quality} {v : Int}

theorem readChannel_of_reads (h : s.Reads ch q v) (known : q ≠ .stale) : s.readChannel ch = (q, some v) := by
  obtain ⟨inUse, rfl, filtered⟩ := h
  rw [State.readChannel, if_pos inUse, filtered]
  split
  · exact absurd ‹_› known
  · rfl

theorem reads_of_readChannel (h : s.readChannel ch = (q, some v)) : s.Reads ch q v := by
  unfold State.readChannel at h
  split at h
  next inUse =>
    split at h
    · cases h
    · obtain ⟨rfl, filtered⟩ := Prod.mk.inj h
      exact ⟨inUse, rfl, filtered⟩
  · cases h

theorem State.Reads.unique {p : Quality} {w : Int} (h : s.Reads ch q v) (k : s.Reads ch p w) : q = p ∧ v = w :=
  ⟨h.2.1.symm.trans k.2.1, Option.some.inj (h.2.2.symm.trans k.2.2)⟩

theorem young_iff {maxAge : Nat} : s.young ch maxAge = true ↔ s.Fresh ch maxAge := by
  unfold State.young State.Fresh
  cases (s.chan ch).ageStart with
  | none => simp
  | some t0 => simp [Config.second]

end

/-! ### Values with their fallbacks (R68, R70) -/

theorem clampInt_eq {lo hi : Int} (v : Int) (range : lo ≤ hi) : clampInt lo hi v = max lo (min v hi) := by
  unfold clampInt
  repeat' split
  all_goals omega

/-- A value that R78 counts: not GOOD, or held, substituted or limited. -/
def Input.flawed (i : Input) : Bool := !i.good || i.held || i.substituted || i.clamped

theorem taken_flawed {lo hi v : Int} (range : lo ≤ hi) : (Input.taken lo hi v true).flawed = true ↔ ¬(lo ≤ v ∧ v ≤ hi) := by
  simp only [Input.taken, Input.flawed, clampInt_eq v range, Bool.not_true, Bool.false_or, decide_eq_true_eq]
  omega

section
variable {s : State} {ch : Nat} {v : Int}

theorem rateInput_of_good (h : s.Reads ch .good v) (subst : Int) :
    rateInput (s.readChannel ch) subst = .taken (-50000000) 50000000 v true := by
  rw [readChannel_of_reads h (by decide)]
  rfl

theorem rateInput_of_suspect (h : s.Reads ch .suspect v) (subst : Int) :
    rateInput (s.readChannel ch) subst = .taken (-50000000) 50000000 v false := by
  rw [readChannel_of_reads h (by decide)]
  rfl

theorem rateInput_of_unusable (h : ∀ v, ¬s.Usable ch v) (subst : Int) :
    rateInput (s.readChannel ch) subst = ⟨subst, false, true, false, false⟩ := by
  unfold rateInput
  split
  next v reading => exact absurd (.inl (reads_of_readChannel reading)) (h v)
  next v reading => exact absurd (.inr (reads_of_readChannel reading)) (h v)
  · rfl

theorem rateInput_of_usable (h : s.Usable ch v) (subst : Int) :
    (rateInput (s.readChannel ch) subst).value = max (-50000000) (min v 50000000) ∧
      (rateInput (s.readChannel ch) subst).substituted = false := by
  rcases h with good | suspect
  · rw [rateInput_of_good good]
    exact ⟨clampInt_eq v (by decide), rfl⟩
  · rw [rateInput_of_suspect suspect]
    exact ⟨clampInt_eq v (by decide), rfl⟩

/-- Where nothing is readable as GOOD the input is flawed. -/
theorem rateInput_flawed_iff (subst : Int) :
    (rateInput (s.readChannel ch) subst).flawed = true ↔ ¬s.Whole ch (-50000000) 50000000 := by
  by_cases usable : ∃ v, s.Usable ch v
  · obtain ⟨v, good | suspect⟩ := usable
    · rw [rateInput_of_good good, taken_flawed (by decide)]
      refine not_congr ⟨fun inside => ⟨v, good, inside⟩, fun ⟨w, reads, inside⟩ => ?_⟩
      rwa [(good.unique reads).2]
    · rw [rateInput_of_suspect suspect]
      refine iff_of_true rfl fun ⟨w, reads, _⟩ => ?_
      exact nomatch (suspect.unique reads).1
  · rw [not_exists] at usable
    rw [rateInput_of_unusable usable]
    exact iff_of_true rfl fun ⟨w, reads, _⟩ => usable w (.inl reads)

variable {maxAge : Nat} {lo hi : Int} {lastGood : Option Nat} {base : Nat}

theorem heldInput_of_good (h : s.Reads ch .good v) (fresh : s.Fresh ch maxAge) :
    heldInput (s.readChannel ch) (s.young ch maxAge) lo hi lastGood base = .taken lo hi v true := by
  rw [readChannel_of_reads h (by decide), young_iff.mpr fresh]
  rfl

theorem heldInput_of_suspect (h : s.Reads ch .suspect v) (fresh : s.Fresh ch maxAge) :
    heldInput (s.readChannel ch) (s.young ch maxAge) lo hi lastGood base = .taken lo hi v false := by
  rw [readChannel_of_reads h (by decide), young_iff.mpr fresh]
  rfl

theorem heldInput_of_unusable (h : (∀ v, ¬s.Usable ch v) ∨ ¬s.Fresh ch maxAge) :
    (heldInput (s.readChannel ch) (s.young ch maxAge) lo hi lastGood base).value = (lastGood.getD base : Nat) ∧
      (heldInput (s.readChannel ch) (s.young ch maxAge) lo hi lastGood base).good = false := by
  have usable {v : Int} (reads : s.Usable ch v) (young : s.young ch maxAge = true) : False := by
    rcases h with none | old
    · exact none v reads
    · exact old (young_iff.mp young)
  unfold heldInput
  cases lastGood <;> dsimp only <;> split
  next reading young => exact (usable (.inl (reads_of_readChannel reading)) young).elim
  next reading young => exact (usable (.inr (reads_of_readChannel reading)) young).elim
  · exact ⟨rfl, rfl⟩
  next reading young => exact (usable (.inl (reads_of_readChannel reading)) young).elim
  next reading young => exact (usable (.inr (reads_of_readChannel reading)) young).elim
  · exact ⟨rfl, rfl⟩

theorem heldInput_of_usable (h : s.Usable ch v) (fresh : s.Fresh ch maxAge) (range : lo ≤ hi) :
    (heldInput (s.readChannel ch) (s.young ch maxAge) lo hi lastGood base).value = max lo (min v hi) := by
  rcases h with good | suspect
  · rw [heldInput_of_good good fresh]
    exact clampInt_eq v range
  · rw [heldInput_of_suspect suspect fresh]
    exact clampInt_eq v range

theorem heldInput_good_iff : (heldInput (s.readChannel ch) (s.young ch maxAge) lo hi lastGood base).good = true ↔
    (∃ v, s.Reads ch .good v) ∧ s.Fresh ch maxAge := by
  by_cases fresh : s.Fresh ch maxAge
  · by_cases usable : ∃ v, s.Usable ch v
    · obtain ⟨v, good | suspect⟩ := usable
      · rw [heldInput_of_good good fresh]
        exact iff_of_true rfl ⟨⟨v, good⟩, fresh⟩
      · rw [heldInput_of_suspect suspect fresh]
        exact iff_of_false Bool.false_ne_true fun ⟨⟨w, reads⟩, _⟩ => nomatch (suspect.unique reads).1
    · rw [not_exists] at usable
      rw [(heldInput_of_unusable (.inl usable)).2]
      exact iff_of_false Bool.false_ne_true fun ⟨⟨w, reads⟩, _⟩ => usable w (.inl reads)
  · rw [(heldInput_of_unusable (.inr fresh)).2]
    exact iff_of_false Bool.false_ne_true fun h => fresh h.2

theorem heldInput_flawed_iff (range : lo ≤ hi) :
    (heldInput (s.readChannel ch) (s.young ch maxAge) lo hi lastGood base).flawed = true ↔
      ¬(s.Whole ch lo hi ∧ s.Fresh ch maxAge) := by
  by_cases good : (∃ v, s.Reads ch .good v) ∧ s.Fresh ch maxAge
  · obtain ⟨⟨v, reads⟩, fresh⟩ := good
    rw [heldInput_of_good reads fresh, taken_flawed range]
    refine not_congr ⟨fun inside => ⟨⟨v, reads, inside⟩, fresh⟩, fun ⟨⟨w, again, inside⟩, _⟩ => ?_⟩
    rwa [(reads.unique again).2]
  · have bad : (heldInput (s.readChannel ch) (s.young ch maxAge) lo hi lastGood base).good = false :=
      Bool.eq_false_iff.mpr (mt heldInput_good_iff.mp good)
    rw [Input.flawed, bad]
    exact iff_of_true rfl fun ⟨⟨v, reads, _⟩, fresh⟩ => good ⟨⟨v, reads⟩, fresh⟩

end

/-! ### The compressibility on a rising curve (R71) -/

/-- The value between two points of the curve. -/
def between (a b : Nat × Nat) (p : Nat) : Nat :=
  (roundHalfAway (a.2 * ((b.1 : Int) - a.1) + ((b.2 : Int) - a.2) * ((p : Int) - a.1)) (b.1 - a.1)).toNat

/-- The value `z` at `p`, with the flag that `p` lies outside, is that of the curve at or above its first point. -/
structure OnCurve (curve : List (Nat × Nat)) (p : Nat) (z : Nat × Bool) : Prop where
  last : ∀ a, curve.getLast? = some a → a.1 < p → z.1 = a.2
  point : ∀ a ∈ curve, p = a.1 → z.1 = a.2
  segment : ∀ i a b, curve[i]? = some a → curve[i + 1]? = some b → a.1 < p → p < b.1 → z.1 = between a b p
  outside : z.2 = true ↔ ∀ a ∈ curve, a.1 < p

theorem walk_onCurve {p : Nat} (rest : List (Nat × Nat)) (pi zi : Nat) (low : pi ≤ p)
    (rising : ((pi, zi) :: rest).Pairwise (fun a b => a.1 < b.1)) :
    OnCurve ((pi, zi) :: rest) p (compressibility.walk p pi zi rest) := by
  induction rest generalizing pi zi with
  | nil =>
    unfold compressibility.walk
    exact ⟨by simp, by simp, by simp, by simp⟩
  | cons b rest ih =>
    obtain ⟨above, rest_rising⟩ := List.pairwise_cons.mp rising
    obtain ⟨pj, zj⟩ := b
    have first : pi < pj := above _ (List.mem_cons_self ..)
    have later {a : Nat × Nat} (member : a ∈ (pj, zj) :: rest) : pj ≤ a.1 := by
      rcases List.mem_cons.mp member with rfl | member
      · exact Nat.le_refl _
      · exact Nat.le_of_lt ((List.pairwise_cons.mp rest_rising).1 a member)
    have ends {a : Nat × Nat} (last : ((pi, zi) :: (pj, zj) :: rest).getLast? = some a) : a ∈ (pj, zj) :: rest := by
      rw [List.getLast?_cons_cons] at last
      exact List.mem_of_getLast? last
    unfold compressibility.walk
    by_cases here : p = pi
    · rw [if_pos here]
      refine ⟨fun a last below => ?_, fun a member at_a => ?_, fun i a b left right below _ => ?_, ?_⟩
      · have := later (ends last)
        omega
      · rcases List.mem_cons.mp member with rfl | member
        · rfl
        · have := later member
          omega
      · rcases List.mem_cons.mp (List.mem_of_getElem? left) with rfl | member
        · omega
        · have := later member
          omega
      · exact iff_of_false Bool.false_ne_true fun all => (all _ (List.mem_cons_self ..)).ne' here
    rw [if_neg here]
    by_cases inside : p < pj
    · rw [if_pos inside]
      refine ⟨fun a last below => ?_, fun a member at_a => ?_, fun i a b left right below above => ?_, ?_⟩
      · have := later (ends last)
        omega
      · rcases List.mem_cons.mp member with rfl | member
        · exact absurd at_a here
        · have := later member
          omega
      · cases i with
        | zero =>
          obtain rfl := Option.some.inj left
          obtain rfl := Option.some.inj right
          rfl
        | succ i =>
          have := later (List.mem_of_getElem? left)
          omega
      · refine iff_of_false Bool.false_ne_true fun all => ?_
        have := all (pj, zj) (List.mem_cons_of_mem _ (List.mem_cons_self ..))
        omega
    · rw [if_neg inside]
      obtain ⟨last, point, segment, outside⟩ := ih pj zj (Nat.le_of_not_lt inside) rest_rising
      refine ⟨fun a ends => ?_, fun a member at_a => ?_, fun i a b left right below above => ?_, ?_⟩
      · rw [List.getLast?_cons_cons] at ends
        exact last a ends
      · rcases List.mem_cons.mp member with rfl | member
        · exact absurd at_a here
        · exact point a member at_a
      · cases i with
        | zero =>
          obtain rfl := Option.some.inj right
          exact absurd above inside
        | succ i => exact segment i a b left right below above
      · have passed : pi < p := Nat.lt_of_le_of_ne low (Ne.symm here)
        exact outside.trans ⟨fun all => List.forall_mem_cons.mpr ⟨passed, all⟩, fun all => (List.forall_mem_cons.mp all).2⟩

/-- On a rising curve: the first value below it, the last above it, the points themselves and the segments between them;
the flag says that the pressure lies outside. -/
theorem compressibility_rising {curve : List (Nat × Nat)} (p : Nat) (rising : curve.Pairwise (fun a b => a.1 < b.1)) :
    (∀ a, curve.head? = some a → p < a.1 → (compressibility curve p).1 = a.2) ∧
    (∀ a, curve.getLast? = some a → a.1 < p → (compressibility curve p).1 = a.2) ∧
    (∀ a ∈ curve, p = a.1 → (compressibility curve p).1 = a.2) ∧
    (∀ i a b, curve[i]? = some a → curve[i + 1]? = some b → a.1 < p → p < b.1 →
      (compressibility curve p).1 = between a b p) ∧
    ((compressibility curve p).2 = true ↔ (∀ a ∈ curve, p < a.1) ∨ ∀ a ∈ curve, a.1 < p) := by
  cases curve with
  | nil => exact ⟨nofun, nofun, nofun, nofun, iff_of_true rfl (.inl nofun)⟩
  | cons c rest =>
    obtain ⟨pc, zc⟩ := c
    by_cases below : p < pc
    · have value : compressibility ((pc, zc) :: rest) p = (zc, true) := if_pos below
      have higher {a : Nat × Nat} (member : a ∈ (pc, zc) :: rest) : p < a.1 := by
        rcases List.mem_cons.mp member with rfl | member
        · exact below
        · exact below.trans ((List.pairwise_cons.mp rising).1 a member)
      rw [value]
      refine ⟨fun a first _ => ?_, fun a last above => ?_, fun a member at_a => ?_, fun i a b left _ above _ => ?_,
        iff_of_true rfl (.inl fun a => higher)⟩
      · obtain rfl := Option.some.inj first
        rfl
      · exact absurd above (higher (List.mem_of_getLast? last)).not_gt
      · exact absurd at_a (higher member).ne
      · exact absurd above (higher (List.mem_of_getElem? left)).not_gt
    · have value : compressibility ((pc, zc) :: rest) p = compressibility.walk p pc zc rest := if_neg below
      obtain ⟨last, point, segment, outside⟩ := walk_onCurve rest pc zc (Nat.le_of_not_lt below) rising
      rw [value]
      refine ⟨fun a first low => ?_, last, point, segment, outside.trans (or_iff_right fun all => ?_).symm⟩
      · obtain rfl := Option.some.inj first
        exact absurd low below
      · exact below (all (pc, zc) (List.mem_cons_self ..))

/-! ### The calorific value (R75) and what leaves a run ESTIMATED (R78) -/

section
variable {c : RunCfg} {x : RunState}

theorem calorific_of_own (ready : x.ref = .ready) (own : c.calCh = none) : (calorific c x).1 = c.fallbackH := by
  simp [calorific, ready, own]

theorem calorific_of_lastH {h : Nat} (ready : x.ref = .ready) (named : c.calCh ≠ none) (last : x.lastH = some h) :
    (calorific c x).1 = h := by
  simp [calorific, ready, last, Option.isSome_iff_ne_none, named]

theorem calorific_of_stale {h : Nat} (stale : x.ref = .stale) (last : x.lastH = some h) : (calorific c x).1 = h := by
  simp [calorific, stale, last]

theorem calorific_of_fallback (fallback : x.ref = .fault ∨ x.ref = .none) : (calorific c x).1 = c.fallbackH := by
  rcases fallback with ref | ref
  · simp [calorific, ref]
  · simp [calorific, ref]

/-- Only a READY reference gives a value that is neither held nor substituted. -/
theorem calorific_flawed_iff : ((calorific c x).2.1 || (calorific c x).2.2) = true ↔ x.ref ≠ .ready := by
  unfold calorific
  cases x.ref <;> simp

end

theorem rateInput_held (reading : Quality × Option Int) (subst : Int) : (rateInput reading subst).held = false := by
  unfold rateInput
  split <;> rfl

theorem overflows_iff {x : RunState} {acc : Option Nat} {e : Nat} :
    x.overflows acc e = true ↔ ∃ a, acc = some a ∧ 2 ^ 64 - 1 < (x.slots.getD a ⟨0, 0⟩).joules + e := by
  cases acc with
  | none => simp [RunState.overflows]
  | some a => simp [RunState.overflows, Config.max64]

section
variable (s : State) (r m : Nat)

/-- The rate of a trigger (R68). -/
def State.rateOf : Input := rateInput (s.readChannel (s.runCfg r).flow) (s.runCfg r).subst

/-- The pressure of a trigger (R70). -/
def State.pressureOf : Input :=
  heldInput (s.readChannel (s.runCfg r).press) (s.young (s.runCfg r).press (s.runCfg r).ptMaxAge) 0 30000000
    (s.run r).lastP (s.runCfg r).pb

/-- The temperature of a trigger (R70). -/
def State.temperatureOf : Input :=
  heldInput (s.readChannel (s.runCfg r).temp) (s.young (s.runCfg r).temp (s.runCfg r).ptMaxAge) 20000 40000
    (s.run r).lastT (s.runCfg r).tb

/-- The causes of R78 in a computing trigger are its capped interval and its flawed inputs. -/
theorem compute_flawed_iff : ((s.compute r m).suspect || (s.compute r m).record.flags.any) = true ↔
    (s.runCfg r).gapCap < s.now - m ∨ (s.rateOf r).flawed = true ∨ (s.pressureOf r).flawed = true ∨
      (s.temperatureOf r).flawed = true ∨ (s.compute r m).record.flags.zClamped = true ∨ (s.run r).ref ≠ .ready := by
  have rate : (s.rateOf r).held = false := rateInput_held _ _
  rw [← calorific_flawed_iff (c := s.runCfg r)]
  have flags : (s.compute r m).record.flags =
      { dtCapped := decide ((s.runCfg r).gapCap < s.now - m)
        qSubstituted := (s.rateOf r).substituted
        qClamped := (s.rateOf r).clamped
        pHeld := (s.pressureOf r).held
        pSubstituted := (s.pressureOf r).substituted
        pClamped := (s.pressureOf r).clamped
        tHeld := (s.temperatureOf r).held
        tSubstituted := (s.temperatureOf r).substituted
        tClamped := (s.temperatureOf r).clamped
        zClamped := (s.compute r m).record.flags.zClamped
        hHeld := (calorific (s.runCfg r) (s.run r)).2.1
        hSubstituted := (calorific (s.runCfg r) (s.run r)).2.2 } := rfl
  have suspect : (s.compute r m).suspect = (!(s.rateOf r).good || !(s.pressureOf r).good || !(s.temperatureOf r).good) := rfl
  have causes : ((s.compute r m).suspect || (s.compute r m).record.flags.any) =
      (decide ((s.runCfg r).gapCap < s.now - m) || ((s.rateOf r).flawed || ((s.pressureOf r).flawed ||
        ((s.temperatureOf r).flawed || ((s.compute r m).record.flags.zClamped ||
          ((calorific (s.runCfg r) (s.run r)).2.1 || (calorific (s.runCfg r) (s.run r)).2.2)))))) := by
    rw [suspect, InputFlags.any, flags]
    simp only [Input.flawed, rate, Bool.or_false]
    ac_rfl
  rw [causes]
  simp only [Bool.or_eq_true, decide_eq_true_eq]

/-- ESTIMATED after a computing trigger (R78, R62). -/
theorem after_estimated_iff : ((s.run r).after s.now (s.compute r m)).estimated = true ↔
    (s.run r).estimated = true ∨ ((s.compute r m).suspect || (s.compute r m).record.flags.any) = true ∨
      (s.run r).overflows (s.compute r m).record.acc (s.compute r m).record.e = true := by
  simp only [RunState.after, Bool.or_eq_true]
  tauto

end

/-! ### A second check of the inputs -/

theorem useChannels_foundBad (l : List Nat) (j : Nat) (s : State) :
    (useChannels l s).foundBad .channels j = (s.foundBad .channels j && !decide (j ∈ l)) := by
  unfold useChannels
  induction l generalizing s with
  | nil => simp
  | cons ch l ih =>
    rw [List.foldl_cons, ih, (useChannel_entry j s ch (by decide)).1]
    by_cases here : ch = j
    · simp [here]
    · simp [here, Ne.symm here]

theorem useChannels_again (l : List Nat) (s : State) : useChannels l (useChannels l s) = useChannels l s :=
  useChannels_of_sound fun ch member => by simp [useChannels_foundBad, member]

theorem useChannels_entry {t : TableId} (other : t ≠ .events) (apart : t ≠ .channels) (l : List Nat) (j : Nat) (s : State) :
    (useChannels l s).foundBad t j = s.foundBad t j ∧ (useChannels l s).marked t j = s.marked t j := by
  unfold useChannels
  induction l generalizing s with
  | nil => exact ⟨rfl, rfl⟩
  | cons ch l ih =>
    obtain ⟨found, marked⟩ := ih (useChannel ch s)
    obtain ⟨found', marked'⟩ := useChannel_entry j s ch other
    rw [List.foldl_cons, found, marked, found', marked' (.inl apart.symm)]
    simp [apart.symm]

section
variable {r m : Nat} {s : State}

theorem useInputs_again : useInputs r (useInputs r s) = useInputs r s := by
  rw [useInputs, useInputs_runCfg]
  exact useChannels_again _ s

/-- A computing trigger works on the state in which its inputs were checked. -/
theorem trigger_useInputs (sound : s.foundBad .runs r = false) (unmarked : s.marked .runs r = false)
    (mark : (s.run r).mark = some m) : trigger r s = trigger r (useInputs r s) := by
  obtain ⟨found, marked⟩ := useChannels_entry (t := .runs) (by decide) (by decide) _ r s
  have again : trigger r (useInputs r s) = computeTrigger r m (useInputs r s) :=
    trigger_computes (found.trans sound) (marked.trans unmarked) (useInputs_run r s r ▸ mark)
  rw [trigger_computes sound unmarked mark, again, computeTrigger_eq, computeTrigger_eq, useInputs_again]

theorem useInputs_of_sound
    (sound : ∀ ch ∈ [(s.runCfg r).flow, (s.runCfg r).press, (s.runCfg r).temp], s.foundBad .channels ch = false) :
    useInputs r s = s := useChannels_of_sound sound

end

end Sys2Proof.Machine

/-!
SUPPORT. The calorific reference (R73, R74) and READ_RUN (R82), and the inputs of a computing trigger together.
-/

namespace Sys2Proof.Machine

/-! ### The inputs of a computing trigger together -/

section
variable {s : State} {r m : Nat}

/-- What the record of a computing trigger shows where the entries of its channels are sound. -/
theorem compute_inputs {rec : TriggerRecord} (shown : ((s.run r).after s.now (s.compute r m)).last = some rec) :
    let c := s.runCfg r
    let x := s.run r
    let y := (s.run r).after s.now (s.compute r m)
    (∀ v, s.Usable c.flow v → rec.q = max (-50000000) (min v 50000000)) ∧
    ((∀ v, ¬s.Usable c.flow v) → rec.q = c.subst ∧ rec.flags.qSubstituted = true) ∧
    ((∃ v, s.Usable c.flow v) → rec.flags.qSubstituted = false) ∧
    (∀ v, s.Usable c.press v → s.Fresh c.press c.ptMaxAge → rec.p = (max 0 (min v 30000000)).toNat) ∧
    ((∀ v, ¬s.Usable c.press v) ∨ ¬s.Fresh c.press c.ptMaxAge → rec.p = x.lastP.getD c.pb) ∧
    (∀ v, s.Usable c.temp v → s.Fresh c.temp c.ptMaxAge → rec.t = (max 20000 (min v 40000)).toNat) ∧
    ((∀ v, ¬s.Usable c.temp v) ∨ ¬s.Fresh c.temp c.ptMaxAge → rec.t = x.lastT.getD c.tb) ∧
    ((∃ v, s.Reads c.press .good v) → s.Fresh c.press c.ptMaxAge → y.lastP = some rec.p) ∧
    ((∀ v, ¬s.Reads c.press .good v) ∨ ¬s.Fresh c.press c.ptMaxAge → y.lastP = x.lastP) ∧
    ((∃ v, s.Reads c.temp .good v) → s.Fresh c.temp c.ptMaxAge → y.lastT = some rec.t) ∧
    ((∀ v, ¬s.Reads c.temp .good v) ∨ ¬s.Fresh c.temp c.ptMaxAge → y.lastT = x.lastT) := by
  obtain rfl : (s.compute r m).record = rec := Option.some.inj shown
  dsimp only
  have p_of {n : Int} {k : Nat} (h : (s.pressureOf r).value = n) (e : n.toNat = k) : (s.compute r m).record.p = k :=
    (congrArg Int.toNat h).trans e
  have t_of {n : Int} {k : Nat} (h : (s.temperatureOf r).value = n) (e : n.toNat = k) : (s.compute r m).record.t = k :=
    (congrArg Int.toNat h).trans e
  refine ⟨fun v usable => (rateInput_of_usable usable _).1, fun unusable => ?_,
    fun ⟨v, usable⟩ => (rateInput_of_usable usable _).2,
    fun v usable fresh => p_of (heldInput_of_usable usable fresh (by decide)) rfl,
    fun unusable => p_of (heldInput_of_unusable unusable).1 (Int.toNat_natCast _),
    fun v usable fresh => t_of (heldInput_of_usable usable fresh (by decide)) rfl,
    fun unusable => t_of (heldInput_of_unusable unusable).1 (Int.toNat_natCast _),
    fun good fresh => if_pos (heldInput_good_iff.mpr ⟨good, fresh⟩), fun bad => if_neg fun good => ?_,
    fun good fresh => if_pos (heldInput_good_iff.mpr ⟨good, fresh⟩), fun bad => if_neg fun good => ?_⟩
  · have value := rateInput_of_unusable unusable (s.runCfg r).subst
    exact ⟨congrArg Input.value value, congrArg Input.substituted value⟩
  · obtain ⟨⟨v, reads⟩, fresh⟩ := heldInput_good_iff.mp good
    exact bad.elim (fun none => none v reads) fun old => old fresh
  · obtain ⟨⟨v, reads⟩, fresh⟩ := heldInput_good_iff.mp good
    exact bad.elim (fun none => none v reads) fun old => old fresh

end

/-! ### What a notice about a calorific channel leaves (R73) -/

/-- Runs apart, nothing that such a notice reads has changed, and no event record has lost its latch. -/
structure KeepsBesideRuns (s t : State) : Prop where
  runs : t.runs.length = s.runs.length
  recs : t.ev.recs.length = s.ev.recs.length
  latch : ∀ n, (s.source n).latch = true → (t.source n).latch = true
  now : t.now = s.now
  tables : t.tables = s.tables
  chans : t.chans = s.chans
  marks : t.parity.get .runs = s.parity.get .runs

section
variable {s t u : State}

theorem KeepsBesideRuns.refl (s : State) : KeepsBesideRuns s s := ⟨rfl, rfl, fun _ => id, rfl, rfl, rfl, rfl⟩

theorem KeepsBesideRuns.trans (h : KeepsBesideRuns s t) (k : KeepsBesideRuns t u) : KeepsBesideRuns s u :=
  ⟨k.runs.trans h.runs, k.recs.trans h.recs, fun n => k.latch n ∘ h.latch n, k.now.trans h.now, k.tables.trans h.tables,
    k.chans.trans h.chans, k.marks.trans h.marks⟩

theorem occurPlain_latch (m b n : Nat) (s : State) (latched : (s.source n).latch = true) :
    ((occurPlain m b s).source n).latch = true := by
  by_cases here : n = m
  · subst here
    by_cases place : n < s.ev.recs.length
    · simp [State.source, List.getD_eq_getElem?_getD, place]
    · have out := Nat.le_of_not_lt place
      rw [State.source, List.getD_eq_default _ _ out] at latched
      exact absurd latched Bool.false_ne_true
  · rwa [(occurPlain_sameSource here b s).source]

theorem occur_latch (m b n : Nat) (s : State) (latched : (s.source n).latch = true) :
    ((occur m b s).source n).latch = true := by
  rcases occur_cases m b s with ⟨-, h⟩ | ⟨-, -, h⟩ | ⟨-, -, h⟩ <;> rw [h]
  · exact occurPlain_latch m b n s latched
  · exact occurPlain_latch m b n _ (occurPlain_latch m m n _ latched)
  · refine occurPlain_latch m b n _ ?_
    unfold occurParity
    split
    · exact occurPlain_latch _ _ n _ (occurPlain_latch _ _ n _ latched)
    · exact occurPlain_latch _ _ n _ latched

theorem occur_recs_length (m b : Nat) (s : State) : (occur m b s).ev.recs.length = s.ev.recs.length := by
  have sizes := occur_sizes m b s
  simp only [State.sizes, List.cons.injEq] at sizes
  omega

theorem occur_run (m b j : Nat) (s : State) : (occur m b s).run j = s.run j := by
  rw [State.run, (occur_frame m b s).runs, State.run]

theorem occur_keepsBesideRuns (m b : Nat) (s : State) : KeepsBesideRuns s (occur m b s) :=
  ⟨congrArg List.length (occur_frame m b s).runs, occur_recs_length m b s, fun n => occur_latch m b n s,
    (occur_frame m b s).now, (occur_frame m b s).tables, (occur_frame m b s).chans, occur_parity m b s (by decide)⟩

theorem onRun_keepsBesideRuns (r : Nat) (f : RunState → RunState) (s : State) : KeepsBesideRuns s (s.onRun r f) :=
  ⟨List.length_modify .., rfl, fun _ => id, rfl, rfl, rfl, rfl⟩

end

section
variable {f : Nat → State → State} {r : Nat}

theorem foldl_other_runs (keeps : ∀ i s, KeepsBesideRuns s (f i s)) (others : ∀ i s, i ≠ r → (f i s).run r = s.run r)
    {l : List Nat} (absent : r ∉ l) (s : State) :
    KeepsBesideRuns s (l.foldl (fun s i => f i s) s) ∧ (l.foldl (fun s i => f i s) s).run r = s.run r := by
  induction l generalizing s with
  | nil => exact ⟨.refl s, rfl⟩
  | cons i l ih =>
    rw [List.mem_cons, not_or] at absent
    obtain ⟨differ, absent⟩ := absent
    obtain ⟨kept, same⟩ := ih absent (f i s)
    exact ⟨(keeps i s).trans kept, same.trans (others i s (Ne.symm differ))⟩

/-- Over all runs, run `r` ends as its own turn leaves it, and that turn finds it as it was. -/
theorem foldl_range_run (keeps : ∀ i s, KeepsBesideRuns s (f i s)) (others : ∀ i s, i ≠ r → (f i s).run r = s.run r)
    (member : r < 8) (s : State) : ∃ v, KeepsBesideRuns s v ∧ v.run r = s.run r ∧
      KeepsBesideRuns (f r v) ((List.range 8).foldl (fun s i => f i s) s) ∧
      ((List.range 8).foldl (fun s i => f i s) s).run r = (f r v).run r := by
  obtain ⟨before, after, split⟩ := List.append_of_mem (List.mem_range.mpr member)
  have once : (before ++ r :: after).Nodup := split ▸ List.nodup_range
  have absent := (List.nodup_cons.mp (List.nodup_middle.mp once)).1
  rw [List.mem_append, not_or] at absent
  rw [split, List.foldl_append, List.foldl_cons]
  obtain ⟨kept, same⟩ := foldl_other_runs keeps others absent.1 s
  exact ⟨_, kept, same, foldl_other_runs keeps others absent.2 _⟩

end

/-! ### The reference of a run (R73, R74) -/

section
variable (ch i : Nat) (s : State)

theorem refFault_keepsBesideRuns : KeepsBesideRuns s (refFault i s) := by
  unfold refFault
  split
  · exact .refl s
  · exact (onRun_keepsBesideRuns i _ s).trans (occur_keepsBesideRuns _ _ _)

theorem refStale_keepsBesideRuns : KeepsBesideRuns s (refStale i s) := by
  unfold refStale
  split
  · exact (onRun_keepsBesideRuns i _ s).trans (occur_keepsBesideRuns _ _ _)
  · exact .refl s

theorem refFault_run_ne {r : Nat} (other : i ≠ r) : (refFault i s).run r = s.run r := by
  unfold refFault
  split
  · rfl
  · rw [occur_run, onRun_run_ne _ other.symm]

theorem refStale_run_ne {r : Nat} (other : i ≠ r) : (refStale i s).run r = s.run r := by
  unfold refStale
  split
  · rw [occur_run, onRun_run_ne _ other.symm]
  · rfl

/-- A completion with its quality, for one run that names the channel (R73). -/
def completeReference (ch r : Nat) (s : State) : State :=
  match (s.chan ch).quality, (s.chan ch).filtered with
  | .good, some v => s.onRun r (RunState.calGood s.now (s.runCfg r).refStale v)
  | .bad, _ => refFault r s
  | _, _ => s

theorem calorificCompletion_eq : calorificCompletion ch s =
    (List.range 8).foldl (fun s i => if s.calorificOf ch i then completeReference ch i s else s) s := rfl

theorem completeReference_keepsBesideRuns : KeepsBesideRuns s (completeReference ch i s) := by
  unfold completeReference
  split
  · exact onRun_keepsBesideRuns i _ s
  · exact refFault_keepsBesideRuns i s
  · exact .refl s

theorem completeReference_run_ne {r : Nat} (other : i ≠ r) : (completeReference ch i s).run r = s.run r := by
  unfold completeReference
  split
  · exact onRun_run_ne _ other.symm
  · exact refFault_run_ne i s other
  · rfl

end

section
variable {ch r : Nat} {s t : State}

theorem calorificOf_iff : s.calorificOf ch r = true ↔ (s.runCfg r).calCh = some ch ∧ s.marked .runs r = false := by
  simp [State.calorificOf]

theorem KeepsBesideRuns.runCfg (h : KeepsBesideRuns s t) (r : Nat) : t.runCfg r = s.runCfg r := by
  rw [State.runCfg, h.tables, State.runCfg]

theorem KeepsBesideRuns.chan (h : KeepsBesideRuns s t) (ch : Nat) : t.chan ch = s.chan ch := by
  rw [State.chan, h.chans, State.chan]

theorem KeepsBesideRuns.calorificOf (h : KeepsBesideRuns s t) (ch r : Nat) : t.calorificOf ch r = s.calorificOf ch r := by
  rw [State.calorificOf, h.runCfg, marked_congr h.marks, State.calorificOf]

theorem completeReference_of_good {v : Int} (good : (s.chan ch).quality = .good) (value : (s.chan ch).filtered = some v) :
    completeReference ch r s = s.onRun r (RunState.calGood s.now (s.runCfg r).refStale v) := by
  rw [completeReference, good, value]

theorem completeReference_of_bad (bad : (s.chan ch).quality = .bad) : completeReference ch r s = refFault r s := by
  rw [completeReference, bad]

theorem completeReference_of_quiet (quiet : (s.chan ch).quality = .suspect ∨ (s.chan ch).quality = .stale) :
    completeReference ch r s = s := by
  rcases quiet with quality | quality <;> rw [completeReference, quality]

theorem refFault_of_fault (fault : (s.run r).ref = .fault) : refFault r s = s := if_pos fault

theorem refFault_of_other (other : (s.run r).ref ≠ .fault) :
    refFault r s = occur Src.refFault r (s.onRun r fun x => { x with ref := .fault, refTimer := none }) := if_neg other

theorem refStale_of_ready (ready : (s.run r).ref = .ready) :
    refStale r s = occur Src.refStale r (s.onRun r fun x => { x with ref := .stale, refTimer := none }) := if_pos ready

theorem refStale_of_other (other : (s.run r).ref ≠ .ready) : refStale r s = s := if_neg other

/-- An event of run `r` behind an update of that run. -/
theorem occur_onRun_latched {n : Nat} (f : RunState → RunState) (place : r < s.runs.length) (recs : s.ev.recs.length = 48)
    (source : n < 48 ∧ n ≠ Src.tableParity) :
    (occur n r (s.onRun r f)).run r = f (s.run r) ∧ ((occur n r (s.onRun r f)).source n).latch = true := by
  obtain ⟨known, parity⟩ := source
  refine ⟨by rw [occur_run, onRun_run_same f place], ?_⟩
  have inside : n < (s.onRun r f).ev.recs.length := recs.symm ▸ known
  rw [occur_source r inside parity]

end

section
variable {ch r : Nat} {s : State} (member : r < 8)
include member

/-- Run `r` after a completion is as its own turn leaves it. -/
theorem calorificCompletion_turn : ∃ v, KeepsBesideRuns s v ∧ v.run r = s.run r ∧
    KeepsBesideRuns (if v.calorificOf ch r then completeReference ch r v else v) (calorificCompletion ch s) ∧
    (calorificCompletion ch s).run r = (if v.calorificOf ch r then completeReference ch r v else v).run r := by
  rw [calorificCompletion_eq]
  refine foldl_range_run (f := fun i s => if s.calorificOf ch i then completeReference ch i s else s) (fun i s => ?_)
    (fun i s other => ?_) member s
  · split
    · exact completeReference_keepsBesideRuns ch i s
    · exact .refl s
  · split
    · exact completeReference_run_ne ch i s other
    · rfl

theorem calorificAged_turn : ∃ v, KeepsBesideRuns s v ∧ v.run r = s.run r ∧
    KeepsBesideRuns (if v.calorificOf ch r then refStale r v else v) (calorificAged ch s) ∧
    (calorificAged ch s).run r = (if v.calorificOf ch r then refStale r v else v).run r := by
  refine foldl_range_run (f := fun i s => if s.calorificOf ch i then refStale i s else s) (fun i s => ?_)
    (fun i s other => ?_) member s
  · split
    · exact refStale_keepsBesideRuns i s
    · exact .refl s
  · split
    · exact refStale_run_ne i s other
    · rfl

theorem calorific_run_of_unnamed (unnamed : ¬((s.runCfg r).calCh = some ch ∧ s.marked .runs r = false)) :
    (calorificCompletion ch s).run r = s.run r ∧ (calorificAged ch s).run r = s.run r := by
  have out {v : State} (kept : KeepsBesideRuns s v) : ¬v.calorificOf ch r = true := by
    rwa [kept.calorificOf, calorificOf_iff]
  constructor
  · obtain ⟨v, kept, same, -, turn⟩ := calorificCompletion_turn (ch := ch) (s := s) member
    rw [turn, if_neg (out kept), same]
  · obtain ⟨v, kept, same, -, turn⟩ := calorificAged_turn (ch := ch) (s := s) member
    rw [turn, if_neg (out kept), same]

variable (named : (s.runCfg r).calCh = some ch ∧ s.marked .runs r = false) (place : s.runs.length = 8)
include named place

theorem calorificCompletion_of_good {v : Int} (good : (s.chan ch).quality = .good)
    (value : (s.chan ch).filtered = some v) :
    (calorificCompletion ch s).run r = (s.run r).calGood s.now (s.runCfg r).refStale v := by
  obtain ⟨u, kept, same, -, turn⟩ := calorificCompletion_turn (ch := ch) (s := s) member
  have acts : u.calorificOf ch r = true := (kept.calorificOf ch r).trans (calorificOf_iff.mpr named)
  have inside : r < u.runs.length := by rw [kept.runs, place]; exact member
  rw [turn, if_pos acts, completeReference_of_good ((kept.chan ch).symm ▸ good) ((kept.chan ch).symm ▸ value),
    onRun_run_same _ inside, same, kept.now, kept.runCfg]

variable (recs : s.ev.recs.length = 48)
include recs

theorem calorificCompletion_of_bad (bad : (s.chan ch).quality = .bad) (sound : (s.run r).ref ≠ .fault) :
    (calorificCompletion ch s).run r = { s.run r with ref := .fault, refTimer := none } ∧
      ((calorificCompletion ch s).source Src.refFault).latch = true := by
  obtain ⟨u, kept, same, later, turn⟩ := calorificCompletion_turn (ch := ch) (s := s) member
  have acts : u.calorificOf ch r = true := (kept.calorificOf ch r).trans (calorificOf_iff.mpr named)
  have inside : r < u.runs.length := by rw [kept.runs, place]; exact member
  rw [if_pos acts, completeReference_of_bad ((kept.chan ch).symm ▸ bad), refFault_of_other (same.symm ▸ sound)] at later turn
  obtain ⟨run, latch⟩ := occur_onRun_latched (s := u) (n := Src.refFault)
    (fun x => { x with ref := .fault, refTimer := none })
    inside (kept.recs.trans recs) (by decide)
  exact ⟨by rw [turn, run, same], later.latch _ latch⟩

theorem calorificAged_of_ready (ready : (s.run r).ref = .ready) :
    (calorificAged ch s).run r = { s.run r with ref := .stale, refTimer := none } ∧
      ((calorificAged ch s).source Src.refStale).latch = true := by
  obtain ⟨u, kept, same, later, turn⟩ := calorificAged_turn (ch := ch) (s := s) member
  have acts : u.calorificOf ch r = true := (kept.calorificOf ch r).trans (calorificOf_iff.mpr named)
  have inside : r < u.runs.length := by rw [kept.runs, place]; exact member
  rw [if_pos acts, refStale_of_ready (same.symm ▸ ready)] at later turn
  obtain ⟨run, latch⟩ := occur_onRun_latched (s := u) (n := Src.refStale)
    (fun x => { x with ref := .stale, refTimer := none })
    inside (kept.recs.trans recs) (by decide)
  exact ⟨by rw [turn, run, same], later.latch _ latch⟩

omit place recs in
theorem calorificCompletion_of_fault (bad : (s.chan ch).quality = .bad) (fault : (s.run r).ref = .fault) :
    (calorificCompletion ch s).run r = s.run r := by
  obtain ⟨u, kept, same, -, turn⟩ := calorificCompletion_turn (ch := ch) (s := s) member
  have acts : u.calorificOf ch r = true := (kept.calorificOf ch r).trans (calorificOf_iff.mpr named)
  rw [turn, if_pos acts, completeReference_of_bad ((kept.chan ch).symm ▸ bad), refFault_of_fault (same.symm ▸ fault), same]

omit place recs in
theorem calorificAged_of_other (other : (s.run r).ref ≠ .ready) : (calorificAged ch s).run r = s.run r := by
  obtain ⟨u, kept, same, -, turn⟩ := calorificAged_turn (ch := ch) (s := s) member
  have acts : u.calorificOf ch r = true := (kept.calorificOf ch r).trans (calorificOf_iff.mpr named)
  rw [turn, if_pos acts, refStale_of_other (same.symm ▸ other), same]

end

theorem calorificCompletion_of_quiet {ch : Nat} {s : State}
    (quiet : (s.chan ch).quality = .suspect ∨ (s.chan ch).quality = .stale) : calorificCompletion ch s = s := by
  rw [calorificCompletion_eq]
  refine List.foldl_fixed' (fun i => ?_) _
  rw [completeReference_of_quiet quiet, ite_self]

/-! ### The stale timer (R73) -/

section
variable {s : State} {r : Nat}

theorem execRefStaleTimerExpiry_of_le (member : r < 8) : exec (.refStaleTimerExpiry r) s =
    .next (if fires s.now (s.run r).refTimer && !s.marked .runs r then refStale r s else s) := by
  have arm : exec (.refStaleTimerExpiry r) s = execRefStaleTimerExpiry r s := rfl
  rw [arm, execRefStaleTimerExpiry, if_neg (Nat.not_le.mpr member)]

theorem execRefStaleTimerExpiry_of_due (member : r < 8) (due : fires s.now (s.run r).refTimer = true)
    (unmarked : s.marked .runs r = false) (ready : (s.run r).ref = .ready) : exec (.refStaleTimerExpiry r) s =
      .next (occur Src.refStale r (s.onRun r fun x => { x with ref := .stale, refTimer := none })) := by
  rw [execRefStaleTimerExpiry_of_le member, due, unmarked, refStale_of_ready ready]
  rfl

theorem execRefStaleTimerExpiry_of_idle (member : r < 8) (idle : fires s.now (s.run r).refTimer = false ∨
    s.marked .runs r = true ∨ (s.run r).ref ≠ .ready) : exec (.refStaleTimerExpiry r) s = .next s := by
  rw [execRefStaleTimerExpiry_of_le member]
  rcases idle with early | marked | other
  · rw [early]
    rfl
  · rw [marked, Bool.not_true, Bool.and_false]
    rfl
  · rw [refStale_of_other other, ite_self]

end

/-! ### READ_RUN (R82) -/

theorem lastResult_eq (last : Option TriggerRecord) : lastResult last =
    last.elim (0 :: be 55 0) fun t => 1 :: (be 2 t.dt ++ beInt 4 t.q ++ be 4 t.p ++
      be 2 t.t ++ be 3 t.z ++ be 2 t.h ++ be 8 t.va ++ be 8 t.vb ++ be 8 t.e ++ beOpt 1 t.acc ++
      [t.flags.dtCapped, t.flags.qSubstituted, t.flags.qClamped, t.flags.pHeld, t.flags.pSubstituted, t.flags.pClamped,
        t.flags.tHeld, t.flags.tSubstituted, t.flags.tClamped, t.flags.zClamped, t.flags.hHeld,
        t.flags.hSubstituted].flatMap beFlag) := by
  cases last with
  | none => rfl
  | some t => simp [lastResult, TriggerRecord.result, InputFlags.result]

section
variable {s : State} {q : Request} {b : Octet}

theorem readRun_of_le (le : b.toNat ≤ 7) :
    readRun [b] s = ⟨.ok, (checkRun b.toNat s).runResult b.toNat, checkRun b.toNat s⟩ := by
  simp [readRun, fieldAt_single, Nat.not_lt.mpr le]

theorem readRun_of_gt (gt : 7 < b.toNat) : readRun [b] s = ⟨.badArgument, [], s⟩ := by
  simp [readRun, fieldAt_single, gt, refuse]

theorem checkRun_of_bad {r : Nat} (bad : s.foundBad .runs r = true) :
    checkRun r s = occur Src.tableParity r (s.setMark .runs r) := by
  rw [checkRun, if_pos bad, markEntry_eq_occur]

theorem exec_readRun_of_bad (asks : s.Asks q 0x04 [b]) (le : b.toNat ≤ 7) (bad : s.foundBad .runs b.toNat = true) :
    exec .readRun s = .next (answerRequest q .ok
      ((occur Src.tableParity b.toNat (s.setMark .runs b.toNat)).runResult b.toNat)
      (occur Src.tableParity b.toNat (s.setMark .runs b.toNat))) := by
  have arm : exec .readRun s = serve 0x04 readRun s := rfl
  rw [arm, serve_of_asks asks rfl rfl, readRun_of_le le, checkRun_of_bad bad]

theorem exec_readRun_of_sound (asks : s.Asks q 0x04 [b]) (le : b.toNat ≤ 7) (sound : s.foundBad .runs b.toNat = false) :
    exec .readRun s = .next (s.answered q .ok (s.runResult b.toNat)) := by
  refine serve_of_asks_same asks rfl rfl ?_
  rw [readRun_of_le le, checkRun_of_sound sound]

end

/-! ### The obligation -/

/-- Settles O20: each input by the quality and age of its channel, the reference by its own turn among the runs. -/
theorem triggerInputsAndReference : Obligations.TriggerInputsAndReference := by
  refine ⟨?inputs, ?reference, ?expiry, ?result, ?request⟩
  case inputs =>
    intro s r m place sound unmarked mark
    refine ⟨trigger_useInputs sound unmarked mark, fun entries rec shown => ?_⟩
    have clean : useInputs r s = s := useInputs_of_sound entries
    have run : (trigger r s).run r = (s.run r).after s.now (s.compute r m) := by
      rw [trigger_computes sound unmarked mark, computeTrigger_run, if_pos ⟨rfl, place⟩, workedOut, clean]
    rw [run] at shown ⊢
    obtain ⟨rate, noRate, rateRead, p, noP, t, noT, goodP, keptP, goodT, keptT⟩ := compute_inputs shown
    obtain rfl : (s.compute r m).record = rec := Option.some.inj shown
    refine ⟨rate, noRate, rateRead, p, noP, t, noT, goodP, keptP, goodT, keptT, compressibility_rising _,
      calorific_of_own, fun h => calorific_of_lastH, fun h => calorific_of_stale, calorific_of_fallback, ?_⟩
    rw [after_estimated_iff, compute_flawed_iff, overflows_iff, State.rateOf, rateInput_flawed_iff, State.pressureOf,
      heldInput_flawed_iff (by decide), State.temperatureOf, heldInput_flawed_iff (by decide)]
    simp only [or_assoc]
    rfl
  case reference =>
    intro s ch r member runs recs
    refine ⟨calorific_run_of_unnamed member, fun named => ⟨fun v good value => ?_,
      calorificCompletion_of_bad member named runs recs, calorificCompletion_of_fault member named,
      calorificAged_of_ready member named runs recs, calorificAged_of_other member named⟩, calorificCompletion_of_quiet⟩
    rw [calorificCompletion_of_good member named runs good value, RunState.calGood, clampInt_eq v (by decide)]
  case expiry =>
    exact fun s r member => ⟨execRefStaleTimerExpiry_of_due member, execRefStaleTimerExpiry_of_idle member⟩
  case result =>
    intro s r
    unfold State.runResult
    dsimp only
    rw [lastResult_eq]
    cases (s.run r).role <;> rfl
  case request =>
    exact fun s q b asks => ⟨exec_readRun_of_sound asks, exec_readRun_of_bad asks,
      fun gt => serve_of_asks_same asks rfl rfl (readRun_of_gt gt)⟩

end Sys2Proof.Machine

/-!
SUPPORT. Water loading, the switch triggers, the start test and the train state (R77, R138 to R140, R151): each operation
of the drying controller by the conditions of its rule.
-/

namespace Sys2Proof.Machine

/-! ### What an evaluation of a train leaves of the DRYERS marks -/

section
variable (s : State)

theorem occurIf_dryers (c : Bool) (n b : Nat) : (occurIf c n b s).parity.dryers = s.parity.dryers :=
  occurIf_parity c n b s (t := .dryers) (by decide)

theorem checkComp_dryers (k : Nat) : (checkComp k s).parity.dryers = s.parity.dryers := by
  have marked : (markEntry .compressors k k s).parity.dryers = s.parity.dryers := by
    rw [markEntry_eq_occur]
    exact (occur_parity _ _ _ (t := .dryers) (by decide)).trans
      ((Parity.get_put s.parity .compressors .dryers _).trans (if_neg (by decide)))
  unfold checkComp
  repeat' split
  · exact marked
  · exact marked
  · rfl

theorem checkOrder_dryers : (checkOrder s).parity.dryers = s.parity.dryers := by
  unfold checkOrder
  generalize s.comp.order = order
  induction order generalizing s with
  | nil => rfl
  | cons k order ih => exact (ih _).trans (checkComp_dryers s k)

theorem curtailCore_dryers (just : Option Nat) : (curtailCore just s).parity.dryers = s.parity.dryers := by
  unfold curtailCore
  dsimp only
  split
  · rfl
  · exact occurIf_dryers _ _ _ _

theorem publish_dryers : (publish s).parity.dryers = s.parity.dryers := by
  have computed (t : State) (same : t.parity = s.parity) : (curtailCore none t).parity.dryers = s.parity.dryers :=
    (curtailCore_dryers t none).trans (congrArg Parity.dryers same)
  unfold publish
  dsimp only
  repeat' split
  · rfl
  · exact (congrArg Parity.dryers (evalCore_parity _)).trans (computed _ rfl)
  · exact computed _ rfl

theorem dutyEvaluation_dryers : (dutyEvaluation s).parity.dryers = s.parity.dryers :=
  (publish_dryers _).trans ((congrArg Parity.dryers (evalCore_parity _)).trans (checkOrder_dryers s))

theorem curtail_dryers (just : Option Nat) : (curtail just s).parity.dryers = s.parity.dryers := by
  unfold curtail
  dsimp only
  split
  · exact (dutyEvaluation_dryers _).trans (curtailCore_dryers s just)
  · exact curtailCore_dryers s just

theorem tellDrying_dryers : (tellDrying s).parity.dryers = s.parity.dryers := by
  unfold tellDrying
  split
  · rfl
  · exact curtail_dryers _ none

theorem evalTrain_dryers (i : Nat) : (evalTrain i s).parity.dryers = s.parity.dryers := by
  unfold evalTrain
  dsimp only
  exact (tellDrying_dryers _).trans (occurIf_dryers _ _ _ _)

/-- A train found bad at a use is marked from then on. -/
theorem useTrain_marked {s : State} {i : Nat} (bad : s.foundBad .dryers i = true) :
    (useTrain i s).marked .dryers i = true := by
  have marked : (markEntry .dryers i i s).marked .dryers i = true := by
    rw [(markEntry_spec s i i i bad (by decide)).1]
    simp
  unfold useTrain
  rw [if_pos bad]
  split
  · rw [marked_congr (tb := .dryers) (evalTrain_dryers _ i)]
    exact marked
  · exact marked

end

/-! ### One train -/

section
variable {s : State} {i : Nat}

theorem onTrain_congr {f g : Train → Train} (same : f (s.train i) = g (s.train i)) (place : i < s.dry.trains.length) :
    s.onTrain i f = s.onTrain i g := by
  have trains : s.dry.trains.modify i f = s.dry.trains.modify i g := by
    rw [State.train, List.getD_eq_getElem _ _ place] at same
    simp [List.modify_eq_set_getElem?, place, same]
  rw [State.onTrain, State.onTrain, trains]

end

/-! ### Water loading (R138) -/

/-- A volume of run `run` goes to train `i` where the train is in use and fed by that run (R77). -/
def feed (run vb i : Nat) (s : State) : State :=
  if (s.dryerCfg i).inUse = true ∧ (s.dryerCfg i).run = run then trainVolume i vb s else s

theorem feed_eq (run vb i : Nat) (s : State) :
    (if s.trainInUse i && decide ((s.dryerCfg i).run = run) then trainVolume i vb s else s) = feed run vb i s :=
  if_congr (by simp [State.trainInUse]) rfl rfl

theorem dryVolume_eq (run vb : Nat) (s : State) : dryVolume run vb s = feed run vb 1 (feed run vb 0 s) := by
  rw [dryVolume]
  simp only [feed_eq]
  rfl

section
variable {s : State} {ch : Nat}

/-- Channel `ch` is in use and GOOD or SUSPECT. -/
def State.Trusts (s : State) (ch : Nat) : Prop :=
  (s.chCfg ch).inUse = true ∧ ((s.chan ch).quality = .good ∨ (s.chan ch).quality = .suspect)

theorem trusted_of_trusts (h : s.Trusts ch) : s.trusted ch = (s.chan ch).filtered := by
  obtain ⟨inUse, good | suspect⟩ := h
  · rw [State.trusted, State.readChannel, if_pos inUse, good]
  · rw [State.trusted, State.readChannel, if_pos inUse, suspect]

theorem trusted_of_not_trusts (h : ¬s.Trusts ch) : s.trusted ch = none :=
  trusted_eq_none fun _ ⟨inUse, quality, _⟩ => h ⟨inUse, quality⟩

/-- The water content taken: the reading where the channel is trusted, the default otherwise. -/
theorem trusted_getD {v d : Int} (read : s.Trusts ch → v = ((s.chan ch).filtered).getD d) (fallback : ¬s.Trusts ch → v = d) :
    (s.trusted ch).getD d = v := by
  by_cases h : s.Trusts ch
  · rw [trusted_of_trusts h, read h]
  · rw [trusted_of_not_trusts h, fallback h]
    rfl

theorem waterOf_eq (v : Int) : waterOf v = (max 0 (min 10000 v)).toNat := by
  rw [waterOf, clampInt_eq v (by decide), min_comm]

end

section
variable {s : State} {i : Nat} (vb : Nat)

theorem trainVolume_of_bad (bad : s.foundBad .dryers i = true) : trainVolume i vb s = useTrain i s := by
  unfold trainVolume
  dsimp only
  rw [if_pos (useTrain_marked bad)]

theorem trainVolume_of_marked (marked : s.marked .dryers i = true) : trainVolume i vb s = s := by
  have used : useTrain i s = s := useTrain_of_sound (not_foundBad_of_marked marked)
  unfold trainVolume
  dsimp only
  rw [used, if_pos marked]

/-- The water of a volume with the residue before it, in units of a millionth of a milligram (R138). -/
def State.waterIn (s : State) (i vb : Nat) : Nat :=
  vb * (waterOf ((s.trusted (s.dryerCfg i).inlet).getD (s.dryerCfg i).defaultInlet) -
    waterOf ((s.trusted (s.dryerCfg i).outlet).getD 0)) + (s.train i).residue

/-- A volume taken by a train without a mark, its water channels checked. -/
def takeWater (i vb : Nat) (s : State) : State :=
  evalTrain i (loadingTrigger i (s.onTrain i fun t =>
    { addWater (s.waterIn i vb / 1000000) t with residue := s.waterIn i vb % 1000000 }))

theorem useChannels_dryerCfg (l : List Nat) (s : State) (i : Nat) : (useChannels l s).dryerCfg i = s.dryerCfg i := by
  rw [State.dryerCfg, (useChannels_frame l s).tables, State.dryerCfg]

variable (sound : s.foundBad .dryers i = false) (unmarked : s.marked .dryers i = false)
include sound unmarked

theorem trainVolume_takes :
    trainVolume i vb s = takeWater i vb (useChannels [(s.dryerCfg i).inlet, (s.dryerCfg i).outlet] s) := by
  unfold trainVolume takeWater State.waterIn
  dsimp only
  rw [useTrain_of_sound sound, if_neg (Bool.eq_false_iff.mp unmarked), useChannels_dryerCfg]

/-- A volume is taken as after the checks of the water channels. -/
theorem trainVolume_useChannels : trainVolume i vb s =
    trainVolume i vb (useChannels [(s.dryerCfg i).inlet, (s.dryerCfg i).outlet] s) := by
  obtain ⟨found, marked⟩ := useChannels_entry (t := .dryers) (by decide) (by decide)
    [(s.dryerCfg i).inlet, (s.dryerCfg i).outlet] i s
  rw [trainVolume_takes vb sound unmarked, trainVolume_takes vb (found.trans sound) (marked.trans unmarked),
    useChannels_dryerCfg, useChannels_again]

theorem trainVolume_of_sound (inlet : s.foundBad .channels (s.dryerCfg i).inlet = false)
    (outlet : s.foundBad .channels (s.dryerCfg i).outlet = false) : trainVolume i vb s = takeWater i vb s := by
  rw [trainVolume_takes vb sound unmarked, useChannels_of_sound]
  intro ch member
  rcases List.mem_pair.mp member with rfl | rfl
  · exact inlet
  · exact outlet

end

section
variable {s : State} {i : Nat} (vb : Nat) (place : i < s.dry.trains.length)
include place

theorem takeWater_of_adsorbing {w : BedId} (adsorbing : (s.train i).adsorbing = some w) :
    takeWater i vb s = evalTrain i (loadingTrigger i (s.onTrain i fun t =>
      { t.onBed w (fun y => { y with loading := min (2 ^ 64 - 1) (y.loading + s.waterIn i vb / 1000000) }) with
        residue := s.waterIn i vb % 1000000 })) := by
  rw [takeWater]
  congr 2
  refine onTrain_congr ?_ place
  rw [addWater, adsorbing]

theorem takeWater_of_none (none : (s.train i).adsorbing = none) :
    takeWater i vb s =
      evalTrain i (loadingTrigger i (s.onTrain i fun t => { t with residue := s.waterIn i vb % 1000000 })) := by
  rw [takeWater]
  congr 2
  refine onTrain_congr ?_ place
  rw [addWater, none]

end

/-! ### The switch triggers (R139) and the start test (R140) -/

section
variable {s : State} {i : Nat}

/-- In WITHDRAW an ADSORBING bed may be replaced while no switch is in its OPENING phase. -/
def State.Replaceable (s : State) (i : Nat) : Prop :=
  s.dry.heldMode = .withdraw ∧ (s.train i).adsorbing ≠ none ∧ ∀ op, (s.train i).switch = some op → op.phase = .releasing

theorem not_opening_iff {t : Train} : t.opening = false ↔ ∀ op, t.switch = some op → op.phase = .releasing := by
  unfold Train.opening
  cases t.switch with
  | none => simp
  | some op => cases phase : op.phase <;> simp [phase]

theorem bedTrigger_guard_iff : (s.withdrawing && (s.train i).adsorbing.isSome && !(s.train i).opening) = true ↔
    s.Replaceable i := by
  simp [State.withdrawing, State.Replaceable, not_opening_iff, Option.isSome_iff_ne_none, and_assoc]

theorem bedTrigger_of_replaceable (h : s.Replaceable i) : bedTrigger i s = raiseRequest i s :=
  if_pos (bedTrigger_guard_iff.mpr h)

theorem bedTrigger_of_not (h : ¬s.Replaceable i) : bedTrigger i s = s := if_neg (mt bedTrigger_guard_iff.mp h)

/-- The ADSORBING bed holds the load at which it is to be replaced. -/
def State.Full (s : State) (i : Nat) : Prop := ∃ w, (s.train i).adsorbing = some w ∧
  (s.dryerCfg i).bedCapacity * 10 * (s.dryerCfg i).switchPercent ≤ ((s.train i).bed w).loading

theorem adsorbingLoading_of_some {t : Train} {w : BedId} (adsorbing : t.adsorbing = some w) :
    t.adsorbingLoading = (t.bed w).loading := by
  rw [Train.adsorbingLoading, adsorbing]

theorem loadingTrigger_of_full (h : s.Replaceable i ∧ s.Full i) : loadingTrigger i s = raiseRequest i s := by
  obtain ⟨replaceable, w, adsorbing, full⟩ := h
  have reached : (s.dryerCfg i).switchThreshold ≤ (s.train i).adsorbingLoading := by
    rw [adsorbingLoading_of_some adsorbing]
    exact full
  rw [loadingTrigger, if_pos reached, bedTrigger_of_replaceable replaceable]

theorem loadingTrigger_of_not (h : ¬(s.Replaceable i ∧ s.Full i)) : loadingTrigger i s = s := by
  unfold loadingTrigger
  split
  next reached =>
    refine bedTrigger_of_not fun replaceable => h ⟨replaceable, ?_⟩
    obtain ⟨w, adsorbing⟩ := Option.ne_none_iff_exists'.mp replaceable.2.1
    rw [adsorbingLoading_of_some adsorbing] at reached
    exact ⟨w, adsorbing, reached⟩
  · rfl

/-- In WITHDRAW a synchronised train without a mark has neither an ADSORBING bed nor a switch. -/
def State.Bare (s : State) (i : Nat) : Prop := s.dry.heldMode = .withdraw ∧ (s.train i).synced = true ∧
  s.marked .dryers i = false ∧ (s.train i).adsorbing = none ∧ (s.train i).switch = none

theorem noBedTrigger_guard_iff : (s.withdrawing && (s.train i).synced && !s.marked .dryers i &&
    (s.train i).adsorbing.isNone && (s.train i).switch.isNone) = true ↔ s.Bare i := by
  simp [State.withdrawing, State.Bare, and_assoc]

theorem noBedTrigger_of_bare (h : s.Bare i) : noBedTrigger i s = raiseRequest i s :=
  if_pos (noBedTrigger_guard_iff.mpr h)

theorem noBedTrigger_of_not (h : ¬s.Bare i) : noBedTrigger i s = s := if_neg (mt noBedTrigger_guard_iff.mp h)

/-- Nothing stands against the start of a switch but the want of a STANDBY bed. -/
def State.Free (s : State) (i : Nat) : Prop := (s.train i).request = true ∧ (s.train i).switch = none ∧
  (s.train i).held = false ∧ (s.train i).synced = true ∧ s.marked .dryers i = false ∧ s.present (s.dryerCfg i).unit = true

theorem startTest_guard_iff : ((s.train i).request && (s.train i).switch.isNone && !(s.train i).held && (s.train i).synced &&
    !s.marked .dryers i && s.accepts (s.dryerCfg i).unit) = true ↔ s.Free i := by
  simp [State.Free, State.accepts, and_assoc]

theorem startTest_of_not (h : ¬s.Free i ∨ (s.train i).standby = none) : startTest i s = s := by
  unfold startTest
  dsimp only
  split
  · rfl
  next w standby =>
    refine if_neg fun guard => ?_
    rcases h with held | none
    · exact held (startTest_guard_iff.mp guard)
    · exact nomatch standby.symm.trans none

theorem startTest_of_free {w : BedId} (free : s.Free i) (standby : (s.train i).standby = some w) : startTest i s =
    (offerOwn (s.dryerCfg i).unit (.openBed w) s).onTrain i fun t => { t with
      request := false
      switch := some ⟨.opening, w, t.adsorbing, s.now + (s.dryerCfg i).valveConfirm * 1000⟩ } := by
  unfold startTest
  dsimp only
  rw [standby]
  exact if_pos (startTest_guard_iff.mpr free)

end

/-! ### A breakthrough (R139, R153) -/

section
variable {s : State} {i : Nat}

theorem occur_train (n b : Nat) (s : State) (i : Nat) : (occur n b s).train i = s.train i := by
  rw [State.train, (occur_frame n b s).dry, State.train]

theorem occur_replaceable (n b : Nat) : (occur n b s).Replaceable i ↔ s.Replaceable i := by
  rw [State.Replaceable, occur_train, (occur_frame n b s).dry, State.Replaceable]

theorem breakthrough_of_sound (sound : s.foundBad .dryers i = false) : breakthrough i s =
    if s.marked .dryers i then occur Src.breakthrough i s
    else evalTrain i (bedTrigger i (occur Src.breakthrough i s)) := by
  unfold breakthrough
  dsimp only
  rw [useTrain_of_sound sound, marked_congr (tb := .dryers) (occur_parity _ _ s (by decide))]

theorem breakthrough_of_bad (bad : s.foundBad .dryers i = true) :
    breakthrough i s = occur Src.breakthrough i (useTrain i s) := by
  unfold breakthrough
  dsimp only
  rw [marked_congr (tb := .dryers) (occur_parity _ _ _ (by decide)), if_pos (useTrain_marked bad)]

theorem breakthrough_of_marked (sound : s.foundBad .dryers i = false) (marked : s.marked .dryers i = true) :
    breakthrough i s = occur Src.breakthrough i s := by
  rw [breakthrough_of_sound sound, if_pos marked]

theorem breakthrough_of_replaceable (sound : s.foundBad .dryers i = false) (unmarked : s.marked .dryers i = false)
    (replaceable : s.Replaceable i) : breakthrough i s = evalTrain i (raiseRequest i (occur Src.breakthrough i s)) := by
  rw [breakthrough_of_sound sound, if_neg (Bool.eq_false_iff.mp unmarked),
    bedTrigger_of_replaceable ((occur_replaceable _ _).mpr replaceable)]

theorem breakthrough_of_not (sound : s.foundBad .dryers i = false) (unmarked : s.marked .dryers i = false)
    (fixed : ¬s.Replaceable i) : breakthrough i s = evalTrain i (occur Src.breakthrough i s) := by
  rw [breakthrough_of_sound sound, if_neg (Bool.eq_false_iff.mp unmarked),
    bedTrigger_of_not (mt (occur_replaceable _ _).mp fixed)]

end

/-! ### The train state (R151) -/

section
variable {s : State} {i : Nat}

/-- The train is OUT_OF_SERVICE: not in use, its unit not present, its record marked, or no bed usable. -/
def State.TrainOut (s : State) (i : Nat) : Prop := (s.dryerCfg i).inUse = false ∨ s.present (s.dryerCfg i).unit = false ∨
  s.marked .dryers i = true ∨ ∀ x, ((s.train i).bed x).state = .unsynced ∨ ((s.train i).bed x).state = .outOfService

/-- The train is DEGRADED when it is not out: a request waits, or the ADSORBING bed holds more than its capacity. -/
def State.TrainWaits (s : State) (i : Nat) : Prop := ((s.train i).request = true ∧ (s.train i).switch = none) ∨
  ∃ w, (s.train i).adsorbing = some w ∧ (s.dryerCfg i).bedCapacity * 1000 < ((s.train i).bed w).loading

theorem no_usable_iff {t : Train} : (allBeds.any fun bd => (t.bed bd).usable) = false ↔
    ∀ x, (t.bed x).state = .unsynced ∨ (t.bed x).state = .outOfService := by
  have spoiled (b : Bed) : ¬b.usable = true ↔ b.state = .unsynced ∨ b.state = .outOfService := by
    cases state : b.state <;> simp [Bed.usable, state]
  have listed (x : BedId) : x ∈ allBeds := by cases x <;> decide
  rw [List.any_eq_false]
  exact ⟨fun none x => (spoiled _).mp (none x (listed x)), fun none x _ => (spoiled _).mpr (none x)⟩

theorem trainOut_guard_iff : (!s.trainInUse i || !s.present (s.dryerCfg i).unit || s.marked .dryers i ||
    !allBeds.any fun bd => ((s.train i).bed bd).usable) = true ↔ s.TrainOut i := by
  simp only [State.TrainOut, State.trainInUse, ← no_usable_iff, Bool.or_eq_true, Bool.not_eq_true', or_assoc]

theorem trainWaits_guard_iff : ((s.train i).switchPending ||
    decide ((s.dryerCfg i).overloadLimit < (s.train i).adsorbingLoading)) = true ↔ s.TrainWaits i := by
  have pending : (s.train i).switchPending = true ↔ (s.train i).request = true ∧ (s.train i).switch = none := by
    simp [Train.switchPending]
  have overloaded : (s.dryerCfg i).overloadLimit < (s.train i).adsorbingLoading ↔ ∃ w, (s.train i).adsorbing = some w ∧
      (s.dryerCfg i).bedCapacity * 1000 < ((s.train i).bed w).loading := by
    unfold Train.adsorbingLoading DryerCfg.overloadLimit
    cases (s.train i).adsorbing with
    | none => simp
    | some w => simp
  rw [Bool.or_eq_true, pending, decide_eq_true_eq, overloaded, State.TrainWaits]

theorem trainStateNow_of_out (out : s.TrainOut i) : s.trainStateNow i = .outOfService :=
  if_pos (trainOut_guard_iff.mpr out)

theorem trainStateNow_of_waits (working : ¬s.TrainOut i) (waits : s.TrainWaits i) : s.trainStateNow i = .degraded :=
  (if_neg (mt trainOut_guard_iff.mp working)).trans (if_pos (trainWaits_guard_iff.mpr waits))

theorem trainStateNow_of_serves (working : ¬s.TrainOut i) (serves : ¬s.TrainWaits i) : s.trainStateNow i = .inService :=
  (if_neg (mt trainOut_guard_iff.mp working)).trans (if_neg (mt trainWaits_guard_iff.mp serves))

/-- The train in a state with its published capacity. -/
def State.withTrainState (s : State) (i : Nat) (st : TrainState) : State :=
  s.onTrain i fun t => { t with state := st, published := (s.dryerCfg i).publishedIn st }

theorem evalTrain_of_state {st : TrainState} (now : s.trainStateNow i = st)
    (quiet : st ≠ .degraded ∨ (s.train i).state = .degraded) :
    evalTrain i s = tellDrying (s.withTrainState i st) := by
  unfold evalTrain
  dsimp only
  rw [now]
  have none : (decide (st = .degraded) && decide ((s.train i).state ≠ .degraded)) = false := by
    rcases quiet with other | same
    · simp [other]
    · simp [same]
  rw [none]
  rfl

theorem evalTrain_of_degraded (now : s.trainStateNow i = .degraded) (before : (s.train i).state ≠ .degraded) :
    evalTrain i s = tellDrying (occur Src.trainDegraded i (s.withTrainState i .degraded)) := by
  unfold evalTrain
  dsimp only
  rw [now, decide_eq_true before]
  rfl

/-- A changed sum over both trains is told to the accounts. -/
theorem tellDrying_eq {u : State} (total : u.dry.total = s.dry.total) : tellDrying u =
    if (u.dry.trains.map (·.published)).sum = s.dry.total then u
    else curtail none { u with
      dry := { u.dry with total := (u.dry.trains.map (·.published)).sum }
      acct := { u.acct with dryCap := (u.dry.trains.map (·.published)).sum } } := by
  rw [← total]
  rfl

end

/-! ### The obligation -/

/-- Settles O32: each operation of the drying controller by the conditions of its rule, on the checked entries. -/
theorem waterLoadingAndTrainState : Obligations.WaterLoadingAndTrainState := by
  refine ⟨fun s run vb => dryVolume_eq run vb s, ?water, ?triggers, ?state⟩
  case water =>
    intro s i vb place
    refine ⟨trainVolume_of_bad vb, trainVolume_of_marked vb, fun sound unmarked =>
      ⟨trainVolume_useChannels vb sound unmarked, fun inlet outlet win wout readIn defaultIn readOut defaultOut => ?_⟩⟩
    have water : s.waterIn i vb = vb * ((max 0 (min 10000 win)).toNat - (max 0 (min 10000 wout)).toNat) +
        (s.train i).residue := by
      rw [State.waterIn, trusted_getD readIn defaultIn, trusted_getD readOut defaultOut, waterOf_eq, waterOf_eq]
    dsimp only
    rw [trainVolume_of_sound vb sound unmarked inlet outlet, ← water]
    exact ⟨fun w => takeWater_of_adsorbing vb place, takeWater_of_none vb place⟩
  case triggers =>
    intro s i
    exact ⟨loadingTrigger_of_full, loadingTrigger_of_not, bedTrigger_of_replaceable, bedTrigger_of_not,
      noBedTrigger_of_bare, noBedTrigger_of_not, fun sound => ⟨breakthrough_of_marked sound,
        breakthrough_of_replaceable sound, breakthrough_of_not sound⟩, breakthrough_of_bad, startTest_of_not,
      fun w => startTest_of_free⟩
  case state =>
    intro s i
    have told (st : TrainState) := tellDrying_eq (s := s) (u := s.withTrainState i st) rfl
    refine ⟨fun out => ?_, fun serves idle => ?_, fun serves waits => ⟨fun same => ?_, fun before => ?_⟩⟩
    · exact (evalTrain_of_state (trainStateNow_of_out out) (.inl (by decide))).trans (told _)
    · exact (evalTrain_of_state (trainStateNow_of_serves serves idle) (.inl (by decide))).trans (told _)
    · exact (evalTrain_of_state (trainStateNow_of_waits serves waits) (.inr same)).trans (told _)
    · refine (evalTrain_of_degraded (trainStateNow_of_waits serves waits) before).trans (tellDrying_eq ?_)
      rw [(occur_frame _ _ _).dry]
      rfl

end Sys2Proof.Machine

/-!
SUPPORT. What the controllers and the accounts hold of the mode machine and of each other (R90, R99, R120, R123, R139, R151,
R158, R165), through the operations of the duty controller, the accounts, the trains and the channels: none of them changes
the mode, the ESD state or the flag that a block holds, and a capacity or a sum changes on both of its sides together.
-/

namespace Sys2Proof.Machine

/-- The mode machine, and what each block holds of it. -/
structure Heard where
  mode : ModeState
  dutyMode : Mode
  dutyEsd : Bool
  dutyFlag : Bool
  dryMode : Mode
  acctFlag : Bool

def State.heard (s : State) : Heard :=
  ⟨s.mode, s.comp.heldMode, s.comp.heldEsd, s.comp.heldFlag, s.dry.heldMode, s.acct.flag⟩

/-- The blocks hold `h`, and the capacities and sums last told agree on both sides: the drying capacity if `p`, since a
field restart tells the accounts of the compressors before it tells them of the trains (R201). -/
def Hears (p : Prop) (h : Heard) (s : State) : Prop :=
  s.heard = h ∧ s.acct.compCap = s.comp.published ∧ (p → s.acct.dryCap = s.dry.total) ∧
    s.comp.injTotal = s.acct.toldInj ∧ s.comp.wdTotal = s.acct.toldWd

section
variable {p : Prop} {h : Heard} {s : State}

theorem Hears.foldl {α : Type} {f : State → α → State} (step : ∀ {t} a, Hears p h t → Hears p h (f t a)) (l : List α)
    (hs : Hears p h s) : Hears p h (l.foldl f s) :=
  List.foldlRecOn l f hs fun _ ht a _ => step a ht

theorem Hears.ite {c : Prop} [Decidable c] {t : State} (hs : Hears p h s) (ht : Hears p h t) :
    Hears p h (if c then s else t) := by
  split
  · exact hs
  · exact ht

/-! ### Events, parity marks and own commands -/

theorem occur_hears (n b : Nat) (hs : Hears p h s) : Hears p h (occur n b s) := by
  rw [occur_only]
  exact hs

theorem occurIf_hears (c : Bool) (n b : Nat) (hs : Hears p h s) : Hears p h (occurIf c n b s) := .ite (occur_hears n b hs) hs

theorem markEntry_hears (t : TableId) (i b : Nat) (hs : Hears p h s) : Hears p h (markEntry t i b s) := by
  rw [markEntry_only]
  exact hs

theorem offerOwn_hears (e : Nat) (c : Command) (hs : Hears p h s) : Hears p h (offerOwn e c s) := .ite hs hs

/-! ### Duty records (R109, R111, R114, R115, R121, R122, R128) -/

theorem onComp_hears (k : Nat) (f : CompRec → CompRec) (hs : Hears p h s) : Hears p h (s.onComp k f) := hs

theorem checkComp_hears (k : Nat) (hs : Hears p h s) : Hears p h (checkComp k s) :=
  .ite (.ite (markEntry_hears .compressors k k hs) (markEntry_hears .compressors k k hs)) hs

theorem ownStart_hears (k : Nat) (hs : Hears p h s) : Hears p h (ownStart k s) := by
  have begun : Hears p h (beginStart k s) := onComp_hears k _ hs
  unfold ownStart
  repeat' split
  · exact hs
  · exact offerOwn_hears _ _ begun
  · exact onComp_hears k _ begun

theorem takeStop_hears (k : Nat) (hs : Hears p h s) : Hears p h (takeStop k s) :=
  .ite (offerOwn_hears (s.compEntry k) .stop hs) hs

theorem immediateStop_hears (k : Nat) (hs : Hears p h s) : Hears p h (immediateStop k s) := by
  unfold immediateStop
  split
  · exact .ite hs (offerOwn_hears (s.compEntry k) .stop hs)
  · exact takeStop_hears k hs
  · exact hs

theorem immediateStops_hears (hs : Hears p h s) : Hears p h (immediateStops s) :=
  .foldl (fun k ht => .ite (immediateStop_hears k ht) ht) _ hs

theorem cancelStart_hears (k : Nat) (hs : Hears p h s) : Hears p h (cancelStart k s) := hs

theorem cancelUnsentStarts_hears (hs : Hears p h s) : Hears p h (cancelUnsentStarts s) :=
  .foldl (fun k ht => .ite (cancelStart_hears k ht) ht) _ hs

theorem actOn_hears (wanted : List Nat) (k : Nat) (hs : Hears p h s) : Hears p h (actOn wanted k s) := by
  unfold actOn
  repeat' split
  · exact ownStart_hears k hs
  · exact hs
  · exact onComp_hears k _ hs
  · exact onComp_hears k _ hs
  · exact takeStop_hears k hs
  · exact hs

theorem offerSpeed_hears (demand running k : Nat) (hs : Hears p h s) : Hears p h (offerSpeed demand running k s) :=
  .ite (offerOwn_hears (s.compEntry k) _ hs) hs

theorem evalCore_hears (hs : Hears p h s) : Hears p h (evalCore s) := by
  have acted := Hears.foldl (actOn_hears s.desired) s.comp.order hs
  exact .ite acted (.foldl (offerSpeed_hears _ _) _ acted)

theorem checkOrder_hears (hs : Hears p h s) : Hears p h (checkOrder s) := .foldl checkComp_hears _ hs

/-! ### Confirmation and its coupling with duty (R123, R163 to R165, R181) -/

theorem reclamp_hears (i : Nat) (hs : Hears p h s) : Hears p h (reclamp i s) := hs

theorem reclampAll_hears (hs : Hears p h s) : Hears p h (reclampAll s) := .foldl reclamp_hears _ hs

theorem curtailCore_hears (just : Option Nat) (hs : Hears p h s) : Hears p h (curtailCore just s) := by
  unfold curtailCore
  dsimp only
  split
  · exact hs
  · exact occurIf_hears _ _ _ hs

/-- The sums told are those the duty controller then holds (R165). -/
theorem tellSums_hears (hs : Hears p h s) : Hears p h (tellSums s) :=
  have ⟨heard, comp, dry, _, _⟩ := hs
  ⟨heard, comp, dry, rfl, rfl⟩

/-- The capacity published is the one the accounts then hold (R123, R158). -/
theorem publish_hears (hs : Hears p h s) : Hears p h (publish s) := by
  have told : Hears p h { s with
      comp := { s.comp with published := s.compCapacity }, acct := { s.acct with compCap := s.compCapacity } } :=
    have ⟨heard, _, dry, inj, wd⟩ := hs
    ⟨heard, rfl, dry, inj, wd⟩
  have curtailed := curtailCore_hears none told
  exact .ite hs (.ite (evalCore_hears (tellSums_hears curtailed)) curtailed)

theorem dutyEvaluation_hears (hs : Hears p h s) : Hears p h (dutyEvaluation s) :=
  publish_hears (evalCore_hears (checkOrder_hears hs))

theorem curtail_hears (just : Option Nat) (hs : Hears p h s) : Hears p h (curtail just s) := by
  have core := curtailCore_hears just hs
  exact .ite (dutyEvaluation_hears (tellSums_hears core)) core

theorem checkShipper_hears (i : Nat) (hs : Hears p h s) : Hears p h (checkShipper i s) :=
  .ite (curtail_hears none (s := (markEntry .shippers i i s).onSlot i _) (markEntry_hears .shippers i i hs)) hs

/-- The accounts are told of the drying capacity in force (R151, R158). -/
theorem acctDrying_hears {q : Prop} {cap : Nat} (total : s.dry.total = cap) (hs : Hears p h s) : Hears q h (acctDrying cap s) :=
  have ⟨heard, comp, _, inj, wd⟩ := hs
  curtail_hears none ⟨heard, comp, fun _ => total.symm, inj, wd⟩

/-! ### Reports, departure, commands and timers of compressors (R105 to R116, R118, R124 to R128) -/

theorem firstReport_hears (k : Nat) (c : Condition) (hs : Hears p h s) : Hears p h (firstReport k c s) := by
  unfold firstReport
  split
  · exact hs
  · exact dutyEvaluation_hears hs
  · exact dutyEvaluation_hears hs
  · exact .ite (dutyEvaluation_hears hs) (dutyEvaluation_hears hs)

theorem actReport_hears (k : Nat) (c : Condition) (hs : Hears p h s) : Hears p h (actReport k c s) := by
  unfold actReport
  split
  · exact firstReport_hears k _ hs
  · exact hs
  · exact dutyEvaluation_hears hs
  · exact dutyEvaluation_hears (occur_hears _ _ hs)
  · exact dutyEvaluation_hears (occur_hears _ _ hs)
  · exact dutyEvaluation_hears hs
  · exact dutyEvaluation_hears hs
  · exact dutyEvaluation_hears hs
  all_goals exact hs

theorem useComp_hears (k : Nat) (hs : Hears p h s) : Hears p h (useComp k s) :=
  .ite (dutyEvaluation_hears (checkComp_hears k hs)) hs

theorem compressorReport_hears (e : Nat) (payload : List Octet) (hs : Hears p h s) :
    Hears p h (compressorReport e payload s) := by
  unfold compressorReport
  split
  next k found =>
    have recorded (c : Condition) (b : Bool) : Hears p h (occurIf b Src.unitTripped k
        ((useComp k s).onComp k fun r => { r with lastReport := some c })) := occurIf_hears _ _ _ (useComp_hears k hs)
    exact .ite (recorded _ _) (actReport_hears _ _ (recorded _ _))
  · exact hs

theorem compDeparted_hears (e : Nat) (hs : Hears p h s) : Hears p h (compDeparted e s) := by
  unfold compDeparted
  split
  · exact hs
  · exact dutyEvaluation_hears (occurIf_hears _ _ _ hs)

theorem becomeManual_hears (k : Nat) (hs : Hears p h s) : Hears p h (becomeManual k s) := .ite hs hs

theorem becomeAuto_hears (k : Nat) (hs : Hears p h s) : Hears p h (becomeAuto k s) := .ite hs hs

theorem supervisorStop_hears (k : Nat) (hs : Hears p h s) : Hears p h (supervisorStop k s).1 := by
  unfold supervisorStop
  dsimp only
  exact dutyEvaluation_hears (becomeManual_hears k (immediateStop_hears k hs))

theorem supervisorStart_hears (k : Nat) (hs : Hears p h s) : Hears p h (supervisorStart k s).1 := by
  unfold supervisorStart
  split
  · exact hs
  · exact dutyEvaluation_hears (onComp_hears k _ hs)

theorem supervisorSpeed_hears (k : Nat) (payload : List Octet) (hs : Hears p h s) :
    Hears p h (supervisorSpeed k payload s).1 := by
  unfold supervisorSpeed
  dsimp only
  repeat' split
  · exact hs
  · exact onComp_hears k _ hs
  · exact occur_hears _ _ (onComp_hears k _ hs)

theorem judgeComp_hears (k : Nat) (payload : List Octet) (hs : Hears p h s) : Hears p h (judgeComp k payload s).1 := by
  have used := useComp_hears k hs
  unfold judgeComp
  dsimp only
  repeat' split
  · exact used
  · exact supervisorStop_hears k used
  · exact supervisorStart_hears k used
  · exact supervisorSpeed_hears k _ used
  · exact used

theorem compressorCommand_hears (e : Nat) (payload : List Octet) (hs : Hears p h s) :
    Hears p h (compressorCommand e payload s).1 := by
  unfold compressorCommand
  split
  · exact hs
  · exact judgeComp_hears _ _ hs

theorem failStart_hears (k : Nat) (hs : Hears p h s) : Hears p h (failStart k s) := by
  have failed : Hears p h (startFailed k s) := occur_hears _ _ (offerOwn_hears (s.compEntry k) .stop hs)
  exact .ite (dutyEvaluation_hears (occur_hears _ _ failed)) (dutyEvaluation_hears failed)

theorem minimumRunOver_hears (k : Nat) (hs : Hears p h s) : Hears p h (minimumRunOver k s) :=
  .ite (dutyEvaluation_hears (takeStop_hears k hs)) hs

/-! ### Train state, switches and reports (R136 to R143, R151, R153) -/

/-- A changed drying capacity is the one the accounts then hold (R151). -/
theorem tellDrying_hears (hs : Hears p h s) : Hears p h (tellDrying s) :=
  .ite hs <| acctDrying_hears (p := False) rfl <|
    have ⟨heard, comp, _, inj, wd⟩ := hs
    ⟨heard, comp, False.elim, inj, wd⟩

theorem evalTrain_hears (i : Nat) (hs : Hears p h s) : Hears p h (evalTrain i s) := tellDrying_hears (occurIf_hears _ _ _ hs)

theorem startTest_hears (i : Nat) (hs : Hears p h s) : Hears p h (startTest i s) := by
  unfold startTest
  dsimp only
  split
  · exact hs
  · exact .ite (offerOwn_hears (s.dryerCfg i).unit _ hs) hs

theorem raiseRequest_hears (i : Nat) (hs : Hears p h s) : Hears p h (raiseRequest i s) := startTest_hears i hs

theorem bedTrigger_hears (i : Nat) (hs : Hears p h s) : Hears p h (bedTrigger i s) := .ite (raiseRequest_hears i hs) hs

theorem loadingTrigger_hears (i : Nat) (hs : Hears p h s) : Hears p h (loadingTrigger i s) := .ite (bedTrigger_hears i hs) hs

theorem noBedTrigger_hears (i : Nat) (hs : Hears p h s) : Hears p h (noBedTrigger i s) := .ite (raiseRequest_hears i hs) hs

theorem entryTriggers_hears (i : Nat) (hs : Hears p h s) : Hears p h (entryTriggers i s) :=
  noBedTrigger_hears i (loadingTrigger_hears i hs)

theorem endSwitch_hears (i : Nat) (hs : Hears p h s) : Hears p h (endSwitch i s) := startTest_hears i (noBedTrigger_hears i hs)

theorem bedOut_hears (i : Nat) (x : BedId) (hs : Hears p h s) : Hears p h (bedOut i x s) := occur_hears _ _ hs

theorem confirmOpening_hears (i : Nat) (op : SwitchOp) (hs : Hears p h s) : Hears p h (confirmOpening i op s) := by
  unfold confirmOpening
  dsimp only
  split
  · exact endSwitch_hears i (occur_hears _ _ hs)
  · exact offerOwn_hears (s := s.onTrain i _) (s.dryerCfg i).unit _ hs

theorem failOpening_hears (timeout : Bool) (i : Nat) (op : SwitchOp) (hs : Hears p h s) :
    Hears p h (failOpening timeout i op s) :=
  endSwitch_hears i (bedOut_hears i op.incoming (occurIf_hears timeout _ _ hs))

theorem confirmRelease_hears (i : Nat) (x : BedId) (hs : Hears p h s) : Hears p h (confirmRelease i x s) :=
  endSwitch_hears i (occur_hears _ _ hs)

theorem failRelease_hears (timeout : Bool) (i : Nat) (x : BedId) (hs : Hears p h s) : Hears p h (failRelease timeout i x s) :=
  endSwitch_hears i (occur_hears _ _ hs)

theorem useTrain_hears (i : Nat) (hs : Hears p h s) : Hears p h (useTrain i s) := by
  have marked := markEntry_hears .dryers i i hs
  exact .ite (.ite (evalTrain_hears i marked) marked) hs

theorem synchronise_hears (i : Nat) (positions : BedId → Position) (hs : Hears p h s) :
    Hears p h (synchronise i positions s) := by
  have outs (a b c : Bool) (f : Train → Train) : Hears p h (evalTrain i (occurIf a Src.bedOut i (occurIf b Src.bedOut i
      (occurIf c Src.bedOut i (s.onTrain i f))))) :=
    evalTrain_hears i (occurIf_hears a _ _ (occurIf_hears b _ _ (occurIf_hears c _ _ hs)))
  exact .ite (evalTrain_hears i (entryTriggers_hears i (outs _ _ _ _))) (outs _ _ _ _)

theorem faultPlain_hears (i : Nat) (x : BedId) (hs : Hears p h s) : Hears p h (faultPlain i x s) := by
  have out := bedOut_hears i x hs
  unfold faultPlain
  split
  · exact out
  · exact noBedTrigger_hears i out
  · exact out
  · exact out
  all_goals exact hs

theorem faultAt_hears (i : Nat) (x : BedId) (hs : Hears p h s) : Hears p h (faultAt i x s) := by
  unfold faultAt
  repeat' split
  · exact faultPlain_hears i x hs
  · exact failOpening_hears false i _ hs
  · exact bedOut_hears i x hs
  · exact bedOut_hears i x hs
  · exact failRelease_hears false i x hs
  · exact faultPlain_hears i x hs

theorem actPosition_hears (i : Nat) (before : Option SwitchOp) (x : BedId) (position : Position) (hs : Hears p h s) :
    Hears p h (actPosition i before x position s) := by
  unfold actPosition
  repeat' split
  · exact hs
  · exact evalTrain_hears i (faultAt_hears i x hs)
  · exact evalTrain_hears i (confirmOpening_hears i _ hs)
  · exact hs
  · exact hs
  · exact evalTrain_hears i (confirmRelease_hears i x hs)
  · exact hs
  · exact hs

theorem dryerReport_hears (e : Nat) (payload : List Octet) (hs : Hears p h s) : Hears p h (dryerReport e payload s) := by
  unfold dryerReport
  split
  next i _ =>
    have used := useTrain_hears i hs
    refine .ite used (.ite ?_ (.ite used (synchronise_hears i _ used)))
    exact actPosition_hears i _ .c _ (actPosition_hears i _ .b _ (actPosition_hears i _ .a _ used))
  · exact hs

/-! ### Channels as their consumers read them (R37, R46) -/

theorem sweepCounts_hears (ch : Nat) (hs : Hears p h s) : Hears p h (sweepCounts ch s) := .ite (occurIf_hears _ _ _ hs) hs

theorem withdrawRequest_hears (ch : Nat) (hs : Hears p h s) : Hears p h (withdrawRequest ch s) :=
  .ite (sweepCounts_hears ch hs) hs

theorem useChannel_hears (ch : Nat) (hs : Hears p h s) : Hears p h (useChannel ch s) :=
  .ite (withdrawRequest_hears (s := dropPending ch _) ch (markEntry_hears .channels ch ch hs)) hs

theorem useChannels_hears (chs : List Nat) (hs : Hears p h s) : Hears p h (useChannels chs s) :=
  .foldl useChannel_hears chs hs

/-! ### Notices to the trains (R77, R138, R139, R146, R152) -/

theorem trainVolume_hears (i vb : Nat) (hs : Hears p h s) : Hears p h (trainVolume i vb s) := by
  have used := useTrain_hears i hs
  exact .ite used (evalTrain_hears i (loadingTrigger_hears i (useChannels_hears _ used)))

theorem dryVolume_hears (run vb : Nat) (hs : Hears p h s) : Hears p h (dryVolume run vb s) :=
  .foldl (fun i ht => .ite (trainVolume_hears i vb ht) ht) _ hs

theorem breakthrough_hears (i : Nat) (hs : Hears p h s) : Hears p h (breakthrough i s) := by
  have latched := occur_hears Src.breakthrough i (useTrain_hears i hs)
  exact .ite latched (evalTrain_hears i (bedTrigger_hears i latched))

theorem testHeating_hears (i : Nat) (x : BedId) (hs : Hears p h s) : Hears p h (testHeating i x s) := by
  have used := useChannels_hears (s.dryerCfg i).regenCh.toList hs
  exact .ite (.ite used used) hs

theorem testAllHeating_hears (i : Nat) (hs : Hears p h s) : Hears p h (testAllHeating i s) := .foldl (testHeating_hears i) _ hs

theorem regenChanged_hears (i : Nat) (hs : Hears p h s) : Hears p h (regenChanged i s) := by
  have used := useTrain_hears i hs
  exact .ite used (evalTrain_hears i (testAllHeating_hears i used))

theorem trainComparator_hears (i ch : Nat) (which : CmpId) (output : Bool) (hs : Hears p h s) :
    Hears p h (trainComparator i ch which output s) := by
  have broke {c d : Prop} [Decidable c] [Decidable d] :
      Hears p h (if c then breakthrough i s else if d then useTrain i s else s) :=
    .ite (breakthrough_hears i hs) (.ite (useTrain_hears i hs) hs)
  exact .ite (.ite (regenChanged_hears i broke) broke) hs

theorem dryComparator_hears (ch : Nat) (which : CmpId) (output : Bool) (hs : Hears p h s) :
    Hears p h (dryComparator ch which output s) :=
  trainComparator_hears 1 ch which output (trainComparator_hears 0 ch which output hs)

theorem dryDeparted_hears (e : Nat) (hs : Hears p h s) : Hears p h (dryDeparted e s) := by
  unfold dryDeparted
  split
  · exact hs
  · exact evalTrain_hears _ (occurIf_hears _ _ _ hs)

theorem dryerCommand_hears (e : Nat) (payload : List Octet) (hs : Hears p h s) : Hears p h (dryerCommand e payload s).1 := by
  unfold dryerCommand
  dsimp only
  repeat' split
  · exact hs
  all_goals exact useTrain_hears _ hs

/-! ### Timers and a DRYERS image (R135, R139, R146, R147) -/

theorem adsorbLimit_hears (i : Nat) (hs : Hears p h s) : Hears p h (adsorbLimit i s) := by
  unfold adsorbLimit
  split
  · exact hs
  · exact evalTrain_hears i (bedTrigger_hears i hs)

theorem heatReached_hears (i : Nat) (x : BedId) (hs : Hears p h s) : Hears p h (heatReached i x s) :=
  evalTrain_hears i (testHeating_hears i x hs)

theorem heatShort_hears (i : Nat) (x : BedId) (hs : Hears p h s) : Hears p h (heatShort i x s) :=
  evalTrain_hears i (occur_hears Src.heatShort i hs)

theorem cooled_hears (i : Nat) (x : BedId) (hs : Hears p h s) : Hears p h (cooled i x s) :=
  evalTrain_hears i (startTest_hears i hs)

theorem passedExpiries_hears (i : Nat) (hs : Hears p h s) : Hears p h (passedExpiries i s) := by
  unfold passedExpiries
  refine .foldl (fun x ht => .ite (cooled_hears i x ht) ht) _ ?_
  refine .foldl (fun x ht => .ite (heatShort_hears i x ht) ht) _ ?_
  refine .foldl (fun x ht => .ite (heatReached_hears i x ht) ht) _ ?_
  exact .ite (adsorbLimit_hears i hs) hs

theorem dryersTakeEffect_hears (old : List DryerCfg) (wasMarked : Nat → Bool) (hs : Hears p h s) :
    Hears p h (dryersTakeEffect old wasMarked s) := by
  unfold dryersTakeEffect
  refine evalTrain_hears 1 (evalTrain_hears 0 (passedExpiries_hears 1 (passedExpiries_hears 0 ?_)))
  exact Hears.foldl (f := fun s i => if (old.getD i .blank).inUse && !keepsTrain (old.getD i .blank) (s.dryerCfg i) then
    withdrawAll (old.getD i .blank).unit s else s) (fun _ ht => .ite ht ht) _ (occur_hears _ _ hs)

end

end Sys2Proof.Machine

/-!
SUPPORT. The mode machine and its notices (R90 to R99): each timer runs in the phase it belongs to, and after every change of
mode, ESD state or flag each block holds the one then in force.
-/

namespace Sys2Proof.Machine

/-! ### What is in force -/

/-- ESD active means SHUT_IN, and each timer runs only in the phase it belongs to (R90 to R96). -/
def ModeState.Sound (m : ModeState) : Prop :=
  (m.esd = true → m.mode = .shutIn) ∧ (m.tLineup.isSome = true → m.mode.inPhase .lineup = true) ∧
    (m.tRundown.isSome = true → m.mode.inPhase .rundown = true) ∧ (m.tQuiet.isSome = true → m.mode.inPhase .rundown = true)

/-- Every block holds the mode, the ESD state and the flag in force. -/
def Heard.Told (h : Heard) : Prop :=
  h.dutyMode = h.mode.mode ∧ h.dutyEsd = h.mode.esd ∧ h.dutyFlag = h.mode.flag ∧ h.dryMode = h.mode.mode ∧
    h.acctFlag = h.mode.flag

/-- The mode machine is sound, and what the blocks were told is in force. -/
def InForce (s : State) : Prop := ∃ h : Heard, h.mode.Sound ∧ h.Told ∧ Hears True h s

theorem inForce_iff (s : State) : InForce s ↔ s.ModeOk ∧ s.ToldOk := by
  constructor
  · rintro ⟨h, sound, ⟨dutyMode, dutyEsd, dutyFlag, dryMode, acctFlag⟩, rfl, comp, dry, inj, wd⟩
    exact ⟨sound, dutyMode, dutyEsd, dutyFlag, dryMode, acctFlag, comp, dry trivial, inj, wd⟩
  · rintro ⟨sound, dutyMode, dutyEsd, dutyFlag, dryMode, acctFlag, comp, dry, inj, wd⟩
    exact ⟨s.heard, sound, ⟨dutyMode, dutyEsd, dutyFlag, dryMode, acctFlag⟩, rfl, comp, fun _ => dry, inj, wd⟩

section
variable {p : Prop} {h : Heard} {s : State}

theorem Hears.inForce (hs : Hears True h s) (sound : h.mode.Sound) (told : h.Told) : InForce s := ⟨h, sound, told, hs⟩

/-- An operation that changes nothing of what the blocks hold leaves it in force. -/
theorem InForce.mono {t : State} (force : InForce s) (keeps : ∀ {h}, Hears True h s → Hears True h t) : InForce t :=
  have ⟨h, sound, told, hears⟩ := force
  ⟨h, sound, told, keeps hears⟩

theorem InForce.foldl {α : Type} {f : State → α → State} (step : ∀ {t} a, InForce t → InForce (f t a)) (l : List α)
    (force : InForce s) : InForce (l.foldl f s) :=
  List.foldlRecOn l f force fun _ ht a _ => step a ht

theorem InForce.ite {c : Prop} [Decidable c] {t : State} (hs : InForce s) (ht : InForce t) : InForce (if c then s else t) := by
  split
  · exact hs
  · exact ht

/-- ESD is not active in a mode other than SHUT_IN. -/
theorem InForce.calm (force : InForce s) (other : s.mode.mode ≠ .shutIn) : s.mode.esd = false :=
  Bool.eq_false_iff.mpr fun active => other (((inForce_iff s).mp force).1.1 active)

/-! ### Notices of the mode machine (R90, R96, R99, R115, R120, R139) -/

/-- An update of the mode machine's own record. -/
theorem onMode_hears (f : ModeState → ModeState) (hs : Hears p h s) :
    Hears p { h with mode := f h.mode } { s with mode := f s.mode } := by
  obtain ⟨rfl, rest⟩ := hs
  exact ⟨rfl, rest⟩

theorem dutyMode_hears (m : Mode) (hs : Hears p h s) : Hears p { h with dutyMode := m } (dutyMode m s) := by
  have told : Hears p { h with dutyMode := m } { s with comp := { s.comp with heldMode := m } } := by
    obtain ⟨rfl, rest⟩ := hs
    exact ⟨rfl, rest⟩
  exact dutyEvaluation_hears (.ite (immediateStops_hears (s := resort _) told) told)

theorem dutyEsd_hears (active : Bool) (hs : Hears p h s) : Hears p { h with dutyEsd := active } (dutyEsd active s) := by
  have told : Hears p { h with dutyEsd := active } { s with comp := { s.comp with heldEsd := active } } := by
    obtain ⟨rfl, rest⟩ := hs
    exact ⟨rfl, rest⟩
  exact dutyEvaluation_hears (.ite (cancelUnsentStarts_hears told) told)

theorem dutyFlag_hears (flag : Bool) (hs : Hears p h s) : Hears p { h with dutyFlag := flag } (dutyFlag flag s) := by
  obtain ⟨rfl, rest⟩ := hs
  exact dutyEvaluation_hears ⟨rfl, rest⟩

theorem acctFlag_hears (flag : Bool) (hs : Hears p h s) : Hears p { h with acctFlag := flag } (acctFlag flag s) := by
  obtain ⟨rfl, rest⟩ := hs
  exact curtail_hears none ⟨rfl, rest⟩

theorem dryMode_hears (m : Mode) (hs : Hears p h s) : Hears p { h with dryMode := m } (dryMode m s) := by
  have told : Hears p { h with dryMode := m } { s with dry := { s.dry with heldMode := m } } := by
    obtain ⟨rfl, rest⟩ := hs
    exact ⟨rfl, rest⟩
  unfold dryMode
  dsimp only
  split
  · exact Hears.foldl (fun i ht => .ite (evalTrain_hears i (entryTriggers_hears i ht)) ht) _ told
  · exact told

theorem tellMode_hears (m : Mode) (hs : Hears p h s) :
    Hears p { h with mode := { h.mode with mode := m }, dutyMode := m, dryMode := m } (tellMode m s) :=
  dryMode_hears m (dutyMode_hears m (onMode_hears (fun x => { x with mode := m }) hs))

theorem changeFlag_hears (flag : Bool) (hs : Hears p h s) :
    Hears p { h with mode := { h.mode with flag := flag }, dutyFlag := flag, acctFlag := flag } (changeFlag flag s) := by
  have changed := onMode_hears (fun x => { x with flag := flag }) hs
  unfold changeFlag
  dsimp only
  exact acctFlag_hears flag (dutyFlag_hears flag (occur_hears _ _ changed))

theorem tellMode_mode (m : Mode) (s : State) : (tellMode m s).mode = { s.mode with mode := m } :=
  (dryMode_frame m _).mode.trans (dutyMode_frame m _).mode

theorem inRundown_tellMode (d : Dir) (s : State) : (tellMode (.transition d .rundown) s).inRundown = true := by
  unfold State.inRundown
  rw [tellMode_mode]

/-! ### The station valve set and its mode (R92 to R97) -/

theorem checkStation_hears (hs : Hears p h s) : Hears p h (checkStation s) := .ite (markEntry_hears .station 0 0 hs) hs

theorem offerLineup_hears (l : LineupArg) (hs : Hears p h s) : Hears p h (offerLineup l s) := by
  unfold offerLineup
  split
  · exact offerOwn_hears _ _ hs
  · exact hs

theorem withdrawLineup_hears (hs : Hears p h s) : Hears p h (withdrawLineup s) := by
  unfold withdrawLineup
  split <;> exact hs

/-- The mode machine with its timers stopped. -/
def ModeState.still (m : ModeState) : ModeState := { m with tLineup := none, tRundown := none, tQuiet := none }

theorem stopModeTimers_hears (hs : Hears p h s) : Hears p { h with mode := h.mode.still } (stopModeTimers s) :=
  onMode_hears ModeState.still hs

/-- Told of a mode that the timers fit, the blocks hold what is in force. -/
theorem tellMode_inForce (m : Mode) (told : h.Told) (hs : Hears True h s) (sound : { h.mode with mode := m }.Sound) :
    InForce (tellMode m s) :=
  have ⟨_, esd, flag, _, acct⟩ := told
  (tellMode_hears m hs).inForce sound ⟨rfl, esd, flag, rfl, acct⟩

theorem ModeState.still_sound {m : ModeState} (esd : m.esd = true → m.mode = .shutIn) : m.still.Sound :=
  ⟨esd, nofun, nofun, nofun⟩

theorem enterShutIn_inForce (n : Nat) (force : InForce s) : InForce (enterShutIn n s) := by
  obtain ⟨h, -, told, hs⟩ := force
  refine InForce.mono (s := tellMode .shutIn _) ?_ (occur_hears n _)
  exact tellMode_inForce .shutIn (h := { h with mode := h.mode.still }) told
    (offerLineup_hears .shut (stopModeTimers_hears hs)) (ModeState.still_sound (m := { h.mode with mode := .shutIn }) fun _ => rfl)

theorem failTransition_inForce (force : InForce s) : InForce (failTransition s) := enterShutIn_inForce _ force

/-- The ESD state that the mode machine holds, from what the blocks hold. -/
theorem Hears.esd (hs : Hears p h s) : h.mode.esd = s.mode.esd := by rw [← hs.1]; rfl

theorem enterFlow_inForce (d : Dir) (calm : s.mode.esd = false) (force : InForce s) : InForce (enterFlow d s) := by
  obtain ⟨h, -, told, hs⟩ := force
  refine InForce.mono (s := tellMode _ _) ?_ (occur_hears _ _)
  refine tellMode_inForce _ (h := { h with mode := h.mode.still }) told (stopModeTimers_hears hs) ?_
  exact ModeState.still_sound (m := { h.mode with mode := _ }) fun active => by simp [hs.esd, calm] at active

theorem enterLineup_inForce (d : Dir) (calm : s.mode.esd = false) (force : InForce s) : InForce (enterLineup d s) := by
  obtain ⟨h, sound, told, hs⟩ := force
  have quiet : h.mode.esd = false := hs.esd.trans calm
  have checked := checkStation_hears (stopModeTimers_hears hs)
  have timed (t : Option Nat) := onMode_hears (fun x => { x with tLineup := t }) checked
  unfold enterLineup
  dsimp only
  split
  · refine tellMode_inForce (h := { h with mode := { h.mode.still with tLineup := _ } }) _ told
      (offerLineup_hears d.lineup (timed _)) ⟨?_, fun _ => rfl, nofun, nofun⟩
    exact fun active => by simp [ModeState.still, quiet] at active
  · exact failTransition_inForce (checked.inForce (ModeState.still_sound sound.1) told)

/-- An evaluation of the station flow changes the quiet dwell timer alone. -/
theorem evalStationFlow_hears (hs : Hears p h s) :
    ∃ t, Hears p { h with mode := { h.mode with tQuiet := t } } (evalStationFlow s) := by
  have checked := checkStation_hears hs
  have timed (t : Option Nat) := onMode_hears (fun x => { x with tQuiet := t }) checked
  unfold evalStationFlow
  dsimp only
  repeat' split
  · exact ⟨_, checked⟩
  · exact ⟨_, timed _⟩
  · exact ⟨_, timed _⟩

theorem evalStationFlow_inForce (phase : s.inRundown = true) (force : InForce s) : InForce (evalStationFlow s) := by
  obtain ⟨h, ⟨esd, lineup, rundown, -⟩, told, hs⟩ := force
  have ⟨t, evaluated⟩ := evalStationFlow_hears hs
  refine evaluated.inForce ⟨esd, lineup, rundown, fun _ => ?_⟩ told
  have mode : h.mode = s.mode := by rw [← hs.1]; rfl
  unfold State.inRundown at phase
  rw [mode]
  split at phase
  next d eq => simp [eq, Mode.inPhase]
  · contradiction

theorem flowNotice_inForce (force : InForce s) : InForce (flowNotice s) := by
  unfold flowNotice
  split
  next phase => exact evalStationFlow_inForce phase force
  · exact force

theorem enterRundown_inForce (d : Dir) (calm : s.mode.esd = false) (force : InForce s) : InForce (enterRundown d s) := by
  obtain ⟨h, sound, told, hs⟩ := force
  have quiet : h.mode.esd = false := hs.esd.trans calm
  have timed (t : Option Nat) := onMode_hears (fun x => { x with tRundown := t }) (checkStation_hears (stopModeTimers_hears hs))
  unfold enterRundown
  dsimp only
  refine evalStationFlow_inForce (inRundown_tellMode d _) (tellMode_inForce (h := { h with mode := { h.mode.still with tRundown := _ } }) _ told
    (timed _) ⟨?_, nofun, fun _ => rfl, nofun⟩)
  exact fun active => by simp [ModeState.still, quiet] at active

theorem quietReached_inForce (d : Dir) (calm : s.mode.esd = false) (force : InForce s) : InForce (quietReached d s) :=
  .ite (failTransition_inForce force) (enterLineup_inForce d calm force)

theorem setFlow_inForce (d : Dir) (calm : s.mode.esd = false) (force : InForce s) : InForce (setFlow d s).2 := by
  unfold setFlow
  split
  any_goals dsimp only
  · exact enterLineup_inForce _ calm force
  · exact force
  · exact enterRundown_inForce _ calm force
  · exact enterRundown_inForce _ calm force
  · exact force
  · split <;> exact force

theorem requestFlow_inForce (d : Dir) (force : InForce s) : InForce (requestFlow d s).state := by
  unfold requestFlow
  split
  · exact force
  next allowed =>
    simp only [Bool.or_eq_true, not_or, Bool.not_eq_true] at allowed
    have taken := setFlow_inForce d allowed.1.1 force
    split <;> simpa [*, refuse] using taken

theorem setMode_inForce (args : List Octet) (force : InForce s) : InForce (setMode args s).state := by
  unfold setMode
  dsimp only
  split
  · dsimp only
    exact enterShutIn_inForce _ force
  · split
    · exact requestFlow_inForce _ force
    · split
      · exact requestFlow_inForce _ force
      · exact force

/-! ### Reports and departure of the station valve set, and the pressure channels (R95 to R99) -/

theorem recordLineup_inForce (l : Lineup) (force : InForce s) : InForce (recordLineup l s) :=
  have ⟨_, sound, told, hs⟩ := force
  (onMode_hears (fun x => { x with lineup := some l }) hs).inForce sound told

/-- ESD becomes active together with SHUT_IN. -/
theorem esdActivated_inForce (force : InForce s) : InForce (esdActivated s) := by
  obtain ⟨h, -, ⟨dutyMode, -, flag, dryMode, acct⟩, hs⟩ := force
  have active := dutyEsd_hears true (onMode_hears (fun x => { x with esd := true }) hs)
  have shut := tellMode_hears .shutIn (withdrawLineup_hears (stopModeTimers_hears active))
  exact (occur_hears _ _ shut).inForce (ModeState.still_sound (m := { h.mode with esd := true, mode := .shutIn }) fun _ => rfl)
    ⟨rfl, rfl, flag, rfl, acct⟩

theorem esdCleared_inForce (force : InForce s) : InForce (esdCleared s) := by
  obtain ⟨h, ⟨-, timers⟩, ⟨dutyMode, -, flag, dryMode, acct⟩, hs⟩ := force
  exact (dutyEsd_hears false (onMode_hears (fun x => { x with esd := false }) hs)).inForce ⟨nofun, timers⟩
    ⟨dutyMode, rfl, flag, dryMode, acct⟩

theorem actLineup_inForce (l : Lineup) (force : InForce s) : InForce (actLineup l s) := by
  unfold actLineup
  split
  next mode => exact enterFlow_inForce .inject (force.calm (by simp [mode])) force
  next mode => exact enterFlow_inForce .withdraw (force.calm (by simp [mode])) force
  all_goals first | exact enterShutIn_inForce _ force | exact force

theorem stationReport_inForce (payload : List Octet) (force : InForce s) : InForce (stationReport payload s) := by
  unfold stationReport
  split
  next l e _ =>
    have recorded := recordLineup_inForce (lineupOf l) force
    split
    · exact actLineup_inForce _ (recordLineup_inForce _ (.ite (esdCleared_inForce force) force))
    · exact .ite recorded (esdActivated_inForce recorded)
  · exact force

theorem stationDeparted_inForce (force : InForce s) : InForce (stationDeparted s) := by
  unfold stationDeparted
  split
  · exact failTransition_inForce force
  · exact force

theorem changeFlag_inForce (flag : Bool) (force : InForce s) : InForce (changeFlag flag s) :=
  have ⟨_, sound, ⟨dutyMode, esd, _, dryMode, _⟩, hs⟩ := force
  (changeFlag_hears flag hs).inForce sound ⟨dutyMode, esd, rfl, dryMode, rfl⟩

theorem pressureNotice_inForce (ch : Nat) (force : InForce s) : InForce (pressureNotice ch s) := by
  have used : InForce (usePressures (checkStation s)) := force.mono fun hs => useChannels_hears _ (checkStation_hears hs)
  unfold pressureNotice
  dsimp only
  repeat' split
  · exact used
  · exact used
  · exact changeFlag_inForce _ used
  · exact force

end
end Sys2Proof.Machine

/-!
SUPPORT. What is in force stays so through the meter runs, the sample channels, the Unit Directory, the answers, the arbiters
and the frames of both ports: they reach the mode machine and the blocks through their notices alone.
-/

namespace Sys2Proof.Machine

section
variable {s : State}

theorem occur_inForce (n b : Nat) (force : InForce s) : InForce (occur n b s) := force.mono (occur_hears n b)

theorem occurIf_inForce (c : Bool) (n b : Nat) (force : InForce s) : InForce (occurIf c n b s) :=
  force.mono (occurIf_hears c n b)

theorem markEntry_inForce (t : TableId) (i b : Nat) (force : InForce s) : InForce (markEntry t i b s) :=
  force.mono (markEntry_hears t i b)

theorem useChannel_inForce (ch : Nat) (force : InForce s) : InForce (useChannel ch s) := force.mono (useChannel_hears ch)

theorem useChannels_inForce (chs : List Nat) (force : InForce s) : InForce (useChannels chs s) :=
  force.mono (useChannels_hears chs)

theorem evalTrain_inForce (i : Nat) (force : InForce s) : InForce (evalTrain i s) := force.mono (evalTrain_hears i)

theorem dutyEvaluation_inForce (force : InForce s) : InForce (dutyEvaluation s) := force.mono dutyEvaluation_hears

theorem curtail_inForce (just : Option Nat) (force : InForce s) : InForce (curtail just s) := force.mono (curtail_hears just)

theorem reclampAll_inForce (force : InForce s) : InForce (reclampAll s) := force.mono reclampAll_hears

theorem checkShipper_inForce (i : Nat) (force : InForce s) : InForce (checkShipper i s) := force.mono (checkShipper_hears i)

theorem checkStation_inForce (force : InForce s) : InForce (checkStation s) := force.mono checkStation_hears

/-! ### The Meter Run Computer (R66 to R79) -/

theorem onRun_inForce (r : Nat) (f : RunState → RunState) (force : InForce s) : InForce (s.onRun r f) := force

theorem checkRun_inForce (r : Nat) (force : InForce s) : InForce (checkRun r s) := .ite (markEntry_inForce .runs r r force) force

theorem stageEvents_inForce (r : Nat) (k : Computed) (force : InForce s) : InForce (stageEvents r k s) :=
  occurIf_inForce _ _ _ (occurIf_inForce _ _ _ (occurIf_inForce _ _ _ (occurIf_inForce _ _ _ force)))

theorem tellVolume_inForce (r : Nat) (k : TriggerRecord) (force : InForce s) : InForce (tellVolume r k s) :=
  .ite (force.mono (dryVolume_hears r k.vb)) force

theorem tellFlow_inForce (r : Nat) (force : InForce s) : InForce (tellFlow r s) := .ite (flowNotice_inForce force) force

theorem computeTrigger_inForce (r mark : Nat) (force : InForce s) : InForce (computeTrigger r mark s) := by
  rw [computeTrigger_eq]
  exact tellFlow_inForce r (tellVolume_inForce r _ (stageEvents_inForce r _ (onRun_inForce r _ (useChannels_inForce _ force))))

theorem trigger_inForce (r : Nat) (force : InForce s) : InForce (trigger r s) := by
  have checked := checkRun_inForce r force
  unfold trigger
  dsimp only
  repeat' split
  · exact onRun_inForce r _ checked
  · exact onRun_inForce r _ checked
  · exact computeTrigger_inForce r _ checked

theorem flowCompletion_inForce (ch : Nat) (force : InForce s) : InForce (flowCompletion ch s) :=
  .foldl (fun r ht => .ite (trigger_inForce r ht) ht) _ force

theorem refFault_inForce (r : Nat) (force : InForce s) : InForce (refFault r s) :=
  .ite force (occur_inForce _ _ (onRun_inForce r _ force))

theorem refStale_inForce (r : Nat) (force : InForce s) : InForce (refStale r s) :=
  .ite (occur_inForce _ _ (onRun_inForce r _ force)) force

theorem calorificCompletion_inForce (ch : Nat) (force : InForce s) : InForce (calorificCompletion ch s) := by
  refine InForce.foldl (fun r ht => .ite ?_ ht) _ force
  split
  · exact onRun_inForce r _ ht
  · exact refFault_inForce r ht
  · exact ht

theorem calorificAged_inForce (ch : Nat) (force : InForce s) : InForce (calorificAged ch s) :=
  .foldl (fun r ht => .ite (refStale_inForce r ht) ht) _ force

/-! ### Sample channels (R32 to R57) -/

theorem onChan_inForce (ch : Nat) (f : ChannelState → ChannelState) (force : InForce s) : InForce (s.onChan ch f) := force

theorem completionNotices_inForce (ch : Nat) (force : InForce s) : InForce (completionNotices ch s) :=
  pressureNotice_inForce ch (calorificCompletion_inForce ch (flowCompletion_inForce ch force))

theorem comparatorNotices_inForce (ch : Nat) (before : ChannelState) (force : InForce s) :
    InForce (comparatorNotices ch before s) := by
  have told {c : Prop} [Decidable c] (which : CmpId) (output : Bool) {t : State} (ht : InForce t) :
      InForce (if c then t else dryComparator ch which output t) := .ite ht (ht.mono (dryComparator_hears ch which output))
  exact told .b _ (told .a _ force)

theorem finishConditioning_inForce (ch : Nat) (k : Conditioning) (force : InForce s) : InForce (finishConditioning ch k s) := by
  unfold finishConditioning
  dsimp only
  refine comparatorNotices_inForce ch _ (completionNotices_inForce ch (occurIf_inForce _ _ _ (occurIf_inForce _ _ _ ?_)))
  exact occurIf_inForce _ _ _ (occurIf_inForce _ _ _ (onChan_inForce ch _ force))

theorem useFilter_inForce (n : Nat) (force : InForce s) : InForce (useFilter n s) :=
  .ite force (.ite (markEntry_inForce .filters _ _ force) force)

theorem beginCustody_inForce (ch : Nat) (force : InForce s) : InForce (beginCustody ch s) := by
  have used := useChannel_inForce ch force
  unfold beginCustody
  dsimp only
  split
  · exact completionNotices_inForce ch (onChan_inForce ch _ used)
  · exact onChan_inForce ch _ (useFilter_inForce _ used)

theorem accept_inForce (ch : Nat) (item : Item) (force : InForce s) : InForce (accept ch item s) := by
  have taken := onChan_inForce ch (s.taken ch item) force
  rw [accept_eq]
  unfold proceed
  split
  · exact beginCustody_inForce ch taken
  · exact onChan_inForce ch _ taken
  · exact onChan_inForce ch _ taken

theorem examinePending_inForce (ch : Nat) (force : InForce s) : InForce (examinePending ch s) := by
  rcases examinePending_cases ch s with same | ⟨item, -, accepted⟩
  · rwa [same]
  · rw [accepted]
    exact accept_inForce ch item force

theorem arrive_inForce (ch : Nat) (item : Item) (force : InForce s) : InForce (arrive ch item s) := by
  have used := useChannel_inForce ch force
  have bad := onChan_inForce ch (fun c => { c with quality := .bad }) used
  unfold arrive arriveMarked
  dsimp only
  repeat' split
  · exact flowCompletion_inForce ch bad
  · exact bad
  · exact accept_inForce ch item used
  · exact onChan_inForce ch _ used

theorem takeItem_inForce (e : Nat) (x : Nat × Item) (force : InForce s) : InForce (takeItem e s x) := by
  unfold takeItem
  dsimp only
  repeat' split
  · exact force
  · exact force
  · exact arrive_inForce _ _ force
  · exact force
  · exact force
  · exact arrive_inForce _ _ force

theorem sampleFrame_inForce (e : Nat) (payload : List Octet) (force : InForce s) : InForce (sampleFrame e payload s) :=
  .foldl (takeItem_inForce e) _ force

theorem sweepCounts_inForce (ch : Nat) (force : InForce s) : InForce (sweepCounts ch s) := force.mono (sweepCounts_hears ch)

theorem withdrawRequest_inForce (ch : Nat) (force : InForce s) : InForce (withdrawRequest ch s) :=
  force.mono (withdrawRequest_hears ch)

theorem custodyDone_inForce (ch : Nat) (k : Conditioning) (force : InForce s) : InForce (custodyDone ch k s) := by
  have ended := onChan_inForce ch (fun c => { c with custody := none }) force
  exact examinePending_inForce ch (.ite ended (finishConditioning_inForce ch k ended))

theorem beginService_inForce (ch : Nat) (force : InForce s) : InForce (beginService ch s) := by
  have used := useChannel_inForce ch force
  have filtered := useFilter_inForce ((useChannel ch s).chCfg ch).profile used
  unfold beginService serviceFails
  dsimp only
  split
  · exact sweepCounts_inForce ch (s := setBad ch (dropPending ch _)) used
  · exact filtered

theorem engineDone_inForce (ch : Nat) (k : Conditioning) (force : InForce s) : InForce (engineDone ch k s) := by
  have counted {t : State} (ht : InForce t) := examinePending_inForce ch (sweepCounts_inForce ch ht)
  unfold engineDone
  dsimp only
  split
  · exact counted force
  · exact counted (finishConditioning_inForce ch k force)

theorem channelAged_inForce (ch : Nat) (force : InForce s) : InForce (channelAged ch s) := by
  unfold channelAged
  dsimp only
  exact pressureNotice_inForce ch (calorificAged_inForce ch (occur_inForce _ _ (onChan_inForce ch _ force)))

theorem listChannel_inForce (ch : Nat) (force : InForce s) : InForce (listChannel s ch) := by
  have used := useChannel_inForce ch force
  unfold listChannel
  dsimp only
  repeat' split
  · exact used
  · exact onChan_inForce ch _ used
  · exact used

theorem beginSweep_inForce (force : InForce s) : InForce (beginSweep s) :=
  occurIf_inForce _ _ _ (.foldl listChannel_inForce _ force)

theorem startSweepTimer_hears {p : Prop} {h : Heard} (hs : Hears p h s) : Hears p h (startSweepTimer s) := hs

theorem startSweepTimer_inForce (force : InForce s) : InForce (startSweepTimer s) := force

theorem sweepPeriod_inForce (force : InForce s) : InForce (sweepPeriod s) := by
  have checked := checkStation_inForce force
  have started := startSweepTimer_inForce checked
  exact .ite checked (.ite (beginSweep_inForce started) started)

theorem channelsDeparted_inForce (e : Nat) (force : InForce s) : InForce (channelsDeparted e s) :=
  .foldl (fun {t} ch ht => .ite (withdrawRequest_inForce ch (s := dropPending ch t) ht) ht) _ force

theorem resetChannel_inForce (ch : Nat) (force : InForce s) : InForce (resetChannel ch s) := by
  refine onChan_inForce ch _ ?_
  have withdrawn := withdrawRequest_inForce ch force
  unfold voidService
  repeat' split
  · exact withdrawn
  · exact withdrawn
  · exact withdrawn

theorem channelsTakeEffect_inForce (old : List ChannelCfg) (force : InForce s) : InForce (channelsTakeEffect old s) :=
  .foldl (fun ch ht => .ite ht (resetChannel_inForce ch ht)) _ (occur_inForce _ _ force)

/-! ### The Unit Directory (R19 to R28) -/

theorem onUnit_inForce (i : Nat) (f : UnitLive → UnitLive) (force : InForce s) : InForce (s.onUnit i f) := force

theorem withdrawAll_inForce (e : Nat) (force : InForce s) : InForce (withdrawAll e s) := force

theorem leavePresent_inForce (i : Nat) (cls : UnitClass) (force : InForce s) : InForce (leavePresent i cls s) := by
  have departed := channelsDeparted_inForce i (withdrawAll_inForce i force)
  unfold leavePresent
  dsimp only
  split
  · exact departed.mono (compDeparted_hears i)
  · exact departed.mono (dryDeparted_hears i)
  · exact stationDeparted_inForce departed
  all_goals exact departed

theorem entryGone_inForce (i : Nat) (was : Attach) (cls : UnitClass) (force : InForce s) : InForce (entryGone i was cls s) :=
  .ite (leavePresent_inForce i cls (occur_inForce _ _ force)) (occur_inForce _ _ force)

theorem unitFoundBad_inForce (i : Nat) (force : InForce s) : InForce (unitFoundBad i s) := by
  have gone := onUnit_inForce i (fun u => { u with attach := .absent, departed := false, silence := none })
    (markEntry_inForce .units i i force)
  exact .ite (entryGone_inForce i _ _ gone) gone

theorem departEntry_inForce (i : Nat) (force : InForce s) : InForce (departEntry i s) :=
  .ite force (entryGone_inForce i _ _ (onUnit_inForce i _ force))

theorem announce_inForce (i : Nat) (payload : List Octet) (force : InForce s) : InForce (announce i payload s) := by
  unfold announce
  split
  · exact occur_inForce _ _ (onUnit_inForce i _ force)
  · exact force

theorem releaseEntry_inForce (i : Nat) (force : InForce s) : InForce (releaseEntry i s) := by
  unfold releaseEntry
  split
  all_goals exact force

theorem resetUnitEntry_inForce (i : Nat) (cls : UnitClass) (force : InForce s) : InForce (resetUnitEntry i cls s) := by
  have reset := onUnit_inForce i (fun _ => .initial) force
  exact .ite (entryGone_inForce i _ cls reset) reset

theorem lookupCheck_inForce (a : Addr) (force : InForce s) : InForce (lookupCheck a s) := by
  unfold lookupCheck
  split
  · exact .ite (unitFoundBad_inForce _ force) force
  · exact force

theorem unitsTakeEffect_inForce (old : List UnitCfg) (wasMarked : Nat → Bool) (force : InForce s) :
    InForce (unitsTakeEffect old wasMarked s) :=
  .foldl (fun i ht => .ite ht (resetUnitEntry_inForce i _ ht)) _ (occur_inForce _ _ force)

/-! ### Answers and arbiters (R15 to R17, R196, R197) -/

theorem leaveService_inForce (force : InForce s) : InForce (leaveService s) := by
  rw [leaveService_eq]
  exact force

theorem offerResponse_inForce (r : Response) (force : InForce s) : InForce (offerResponse r s) := by
  rcases offerResponse_cases r s with ⟨-, offered⟩ | ⟨-, held⟩
  · rw [offered]
    exact leaveService_inForce (s := { s with resp := s.resp ++ [r] }) force
  · rw [held]
    exact force

theorem answerRequest_inForce (q : Request) (status : Status) (result : List Octet) (force : InForce s) :
    InForce (answerRequest q status result s) := .ite (leaveService_inForce force) (offerResponse_inForce _ force)

theorem reoffer_inForce (force : InForce s) : InForce (reoffer s) := by
  rcases reoffer_cases s with ⟨-, same⟩ | ⟨r, -, offered⟩
  · rwa [same]
  · rw [offered]
    exact offerResponse_inForce r force

theorem sendUpstream_inForce (force : InForce s) : InForce (sendUpstream s) := by
  unfold sendUpstream
  split
  all_goals exact force

theorem sendResponse_inForce (r : Response) (rest : List Response) (force : InForce s) : InForce (sendResponse r rest s) := by
  unfold sendResponse
  dsimp only
  split
  · exact reoffer_inForce force
  · exact force

theorem selectPortS_inForce (force : InForce s) : InForce (selectPortS s) := by
  unfold selectPortS
  repeat' split
  · exact sendUpstream_inForce force
  · exact sendResponse_inForce _ _ force
  · exact force
  · exact sendUpstream_inForce force

theorem selectPortF_inForce (force : InForce s) : InForce (selectPortF s) := by
  have downstream : InForce (sendDownstream s) := by
    unfold sendDownstream
    split
    all_goals exact force
  unfold selectPortF
  repeat' split
  · exact downstream
  · exact force
  · exact downstream

/-! ### The arrival of frames (R3, R5 to R11) -/

theorem checkOwnTable_inForce (force : InForce s) : InForce (checkOwnTable s) := by
  rw [checkOwnTable_only]
  exact force

theorem offerUpstream_inForce (f : Frame) (b : Nat) (force : InForce s) : InForce (offerUpstream f b s) :=
  .ite force (occur_inForce _ _ force)

theorem examineState_inForce (i : Nat) (payload : List Octet) (force : InForce s) : InForce (examineState i payload s) := by
  unfold examineState
  split
  · exact force.mono (compressorReport_hears i payload)
  · exact force.mono (dryerReport_hears i payload)
  · exact stationReport_inForce payload force
  all_goals exact force

theorem examine_inForce (i : Nat) (f : Frame) (force : InForce s) : InForce (examine i f s) := by
  refine .ite (announce_inForce i _ force) (.ite (departEntry_inForce i force) (.ite ?_ (.ite ?_ force)))
  · exact .ite (sampleFrame_inForce i _ force) force
  · exact .ite (examineState_inForce i _ force) force

theorem arriveF_inForce (f : Frame) (force : InForce s) : InForce (arriveF f s) := by
  have looked := lookupCheck_inForce f.src (checkOwnTable_inForce force)
  unfold arriveF
  dsimp only
  split
  next i _ =>
    have heard : InForce (hear i (lookupCheck f.src (checkOwnTable s))) := onUnit_inForce i _ looked
    exact .ite (occur_inForce _ _ heard) (examine_inForce i f (offerUpstream_inForce _ _ heard))
  · exact .ite (occur_inForce _ _ looked) (offerUpstream_inForce _ _ looked)

theorem judge_inForce (i : Nat) (payload : List Octet) (force : InForce s) : InForce (judge i payload s).1 := by
  unfold judge
  split
  · exact force.mono (compressorCommand_hears i payload)
  · exact force.mono (dryerCommand_hears i payload)
  · rw [stationCommand_frame]
    exact force
  all_goals exact force

theorem carryVerdict_inForce (i : Nat) (f : Frame) {r : State × Verdict} (force : InForce r.1) :
    InForce (carryVerdict i f r) := by
  unfold carryVerdict
  split
  · exact force
  · exact force
  · exact occur_inForce _ _ force

theorem forwardDown_inForce (f : Frame) (force : InForce s) : InForce (forwardDown f s) := by
  have looked := lookupCheck_inForce f.dst force
  unfold forwardDown
  dsimp only
  repeat' split
  · exact occur_inForce _ _ looked
  · exact carryVerdict_inForce _ f (judge_inForce _ _ looked)
  · exact looked
  · exact force

theorem offerRequest_inForce (q : Request) (force : InForce s) : InForce (offerRequest q s) := by
  have busy : InForce (answerBusy q s) := .ite force force
  unfold offerRequest
  split
  · rcases enterService_cases { s with mgmt := { s.mgmt with waiting := s.mgmt.waiting ++ [q] } } with
      ⟨-, entered⟩ | ⟨_, _, -, -, entered⟩ <;> rw [entered]
    · exact force
    · exact force
  · exact occur_inForce _ _ busy

theorem arriveS_inForce (f : Frame) (force : InForce s) : InForce (arriveS f s) := by
  have checked := checkOwnTable_inForce force
  unfold arriveS addressedS broadcastS
  dsimp only
  repeat' split
  · exact offerRequest_inForce _ checked
  · exact occur_inForce _ _ checked
  · exact occur_inForce _ _ checked
  · exact forwardDown_inForce f (offerRequest_inForce _ checked)
  · exact forwardDown_inForce f checked
  · exact forwardDown_inForce f checked

theorem takeFrameF_inForce (rx : Option (List Octet)) (force : InForce s) : InForce (takeFrameF rx s) := by
  unfold takeFrameF
  repeat' split
  · exact force
  · exact occur_inForce _ _ force
  · exact arriveF_inForce _ force

theorem takeFrameS_inForce (rx : Option (List Octet)) (force : InForce s) : InForce (takeFrameS rx s) := by
  unfold takeFrameS
  repeat' split
  · exact force
  · exact occur_inForce _ _ force
  · exact arriveS_inForce _ force

end

end Sys2Proof.Machine

/-!
SUPPORT. What is in force stays so through closes, boundaries, requests, table images and resets; then through every command,
then through the step.
-/

namespace Sys2Proof.Machine

section
variable {s : State}

theorem checkEventEntry_inForce (n : Nat) (force : InForce s) : InForce (checkEventEntry n s) := by
  unfold checkEventEntry occurParity
  repeat' split
  all_goals exact force

theorem checkEvents_inForce (force : InForce s) : InForce (checkEvents s) := .foldl checkEventEntry_inForce _ force

/-! ### Closes (R166 to R180) -/

theorem onSlot_inForce (i : Nat) (f : AccSlot → AccSlot) (force : InForce s) : InForce (s.onSlot i f) := force

theorem openGroup_inForce (num : Nat) (force : InForce s) : InForce (openGroup num s) := .ite force force

theorem onGroup_inForce (num : Nat) (f : Group → Group) (force : InForce s) : InForce (onGroup num f s) := force

theorem tryAllocate_inForce (force : InForce s) : InForce (tryAllocate s) := by
  unfold tryAllocate
  repeat' split
  all_goals exact force

theorem completeGroup_inForce (num : Nat) (force : InForce s) : InForce (completeGroup num s) :=
  tryAllocate_inForce (onGroup_inForce num _ (openGroup_inForce num force))

theorem handover_inForce (num r : Nat) (force : InForce s) : InForce (handover num r s) :=
  .ite force (onRun_inForce r _ (onGroup_inForce num _ (openGroup_inForce num force)))

theorem rollSlots_inForce (force : InForce s) : InForce (rollSlots s) := force

theorem beginClose_inForce (n : Notice) (force : InForce s) : InForce (beginClose n s) := by
  have checked : InForce (checkShippers s) := .foldl checkShipper_inForce _ force
  unfold beginClose
  dsimp only
  generalize checkShippers s = t at checked ⊢
  have snapped := reclampAll_inForce (rollSlots_inForce (s := { t with acct := { t.acct with closing := some (t.snapshot n) } })
    checked)
  generalize reclampAll _ = u at snapped ⊢
  exact tryAllocate_inForce (curtail_inForce none snapped)

theorem acctBoundary_inForce (n : Notice) (force : InForce s) : InForce (acctBoundary n s) := by
  have opened := openGroup_inForce n.num force
  unfold acctBoundary
  dsimp only
  split
  · exact beginClose_inForce n opened
  · exact opened

theorem writeClose_inForce (op : CloseOp) (r : AllocResult) (force : InForce s) : InForce (writeClose op r s) := by
  unfold writeClose joinHistory
  dsimp only
  repeat' split
  · exact force
  · exact force
  · exact occurIf_inForce _ _ _ (s := { s with ret := _, free := _ }) force

theorem shippersTakeEffect_inForce (img : StoredImage) (force : InForce s) : InForce (shippersTakeEffect img s) := by
  unfold shippersTakeEffect
  dsimp only
  exact occur_inForce _ _ force

theorem applyShippers_inForce (force : InForce s) : InForce (applyShippers s) := by
  unfold applyShippers
  split
  · exact force
  · exact .ite force (shippersTakeEffect_inForce _ force)

theorem nextClose_inForce (force : InForce s) : InForce (nextClose s) := by
  unfold nextClose
  split
  · exact force
  · exact beginClose_inForce _ force

theorem completeClose_inForce (op : CloseOp) (r : AllocResult) (force : InForce s) : InForce (completeClose op r s) := by
  have written : InForce (writeClose op r { s with acct := { s.acct with closing := none } }) := writeClose_inForce op r force
  have confirmed := curtail_inForce none (reclampAll_inForce (applyShippers_inForce written))
  unfold completeClose
  dsimp only
  refine nextClose_inForce ?_
  generalize curtail none _ = t at confirmed ⊢
  have closed := occur_inForce Src.intervalClosed noSubject (s := { t with acct := { t.acct with provisional := false } })
    confirmed
  split
  · exact occur_inForce _ _ closed
  · exact closed

/-! ### Boundaries and station time (R84 to R89) -/

theorem withTime_inForce (t : TimeState) (force : InForce s) : InForce { s with time := t } := force

theorem runsTakeEffect_inForce (img : StoredImage) (force : InForce s) : InForce (runsTakeEffect img s) := by
  unfold runsTakeEffect
  dsimp only
  exact occur_inForce _ _ force

theorem handoverAll_inForce (num : Nat) (force : InForce s) : InForce (handoverAll num s) := by
  have handed : InForce ((List.range 8).foldl (fun s r => handover num r s) s) := .foldl (handover_inForce num) _ force
  unfold handoverAll
  dsimp only
  split
  · exact completeGroup_inForce num (runsTakeEffect_inForce _ handed)
  · exact completeGroup_inForce num handed

theorem sweepAfter_inForce (before : Nat) (force : InForce s) : InForce (sweepAfter before s) :=
  .ite force (startSweepTimer_inForce force)

theorem stationTakesEffect_inForce (img : StoredImage) (force : InForce s) : InForce (stationTakesEffect img s) := by
  have installed := occur_inForce Src.tableCommitted noSubject
    (s := { (s.putCommitted .station img).clearMarks .station with
      tables := ((s.putCommitted .station img).clearMarks .station).tables.load .station img.octets
      ret := { ((s.putCommitted .station img).clearMarks .station).ret with pendStation := none } }) force
  have timed := sweepAfter_inForce s.stationRead.sweep installed
  unfold stationTakesEffect
  dsimp only
  split
  · exact timed
  · exact dutyEvaluation_inForce (curtail_inForce none (reclampAll_inForce timed))

theorem applyStation_inForce (force : InForce s) : InForce (applyStation s) := by
  unfold applyStation
  split
  · exact stationTakesEffect_inForce _ force
  · exact force

theorem writeRunSeconds_inForce (force : InForce s) : InForce (writeRunSeconds s) := force

theorem giveNotices_inForce (n : Notice) (force : InForce s) : InForce (giveNotices n s) :=
  writeRunSeconds_inForce <| acctBoundary_inForce n (handoverAll_inForce n.num force)

theorem raiseBoundary_inForce (force : InForce s) : InForce (raiseBoundary s) := by
  have checked := checkStation_inForce force
  unfold raiseBoundary
  dsimp only
  exact withTime_inForce _ (applyStation_inForce (withTime_inForce _ (giveNotices_inForce _ (withTime_inForce _ checked))))

theorem timeStep_inForce (count : Nat) (force : InForce s) : InForce (timeStep count s) :=
  occur_inForce _ _ (withTime_inForce _ force)

theorem backwardStep_inForce (count : Nat) (force : InForce s) : InForce (backwardStep count s) :=
  withTime_inForce _ (timeStep_inForce count force)

theorem wrapTime_inForce (force : InForce s) : InForce (wrapTime s) := by
  unfold wrapTime
  dsimp only
  exact .ite (withTime_inForce _ force) (backwardStep_inForce _ force)

theorem stepTime_inForce (count : Nat) (force : InForce s) : InForce (stepTime count s).2 := by
  have stepped := timeStep_inForce count force
  have forward (crosses : Bool) : InForce (if crosses then
      if s.acct.closing.isSome then (Status.closing, s) else (.ok, raiseBoundary (timeStep count s))
      else (.ok, timeStep count s)).2 := by
    repeat' split
    · exact force
    · exact raiseBoundary_inForce stepped
    · exact stepped
  unfold stepTime
  split
  · exact force
  · split
    · exact backwardStep_inForce count force
    · exact forward _

theorem setTime_inForce (args : List Octet) (force : InForce s) : InForce (setTime args s).state := by
  have stepped := stepTime_inForce (fieldAt args 0 6) force
  unfold setTime
  dsimp only
  split
  · exact raiseBoundary_inForce (withTime_inForce _ force)
  · split
    next outcome => rwa [outcome] at stepped
    next outcome => rwa [outcome] at stepped

/-! ### Requests -/

theorem nominate_inForce (args : List Octet) (force : InForce s) : InForce (nominate args s).state := by
  have current (i : Nat) (d : Dir) (n : Nat) {t : State} (ht : InForce t) : InForce (nominateCurrent i d n t).state := by
    have used := checkStation_inForce ht
    unfold nominateCurrent
    dsimp only
    split
    · exact used
    · exact curtail_inForce _ (onSlot_inForce _ _ used)
  unfold nominate
  dsimp only
  repeat' split
  · exact force
  · exact force
  · exact force
  · exact force
  · exact checkShipper_inForce _ force
  · exact current _ _ _ (checkShipper_inForce _ force)
  · exact onSlot_inForce _ _ (checkShipper_inForce _ force)

theorem carryTransfer_inForce (i j n : Nat) (force : InForce s) : InForce (carryTransfer i j n s) :=
  .ite force (curtail_inForce none (s := reclamp j (reclamp i (moveInventory i j n s))) force)

theorem transfer_inForce (args : List Octet) (force : InForce s) : InForce (transfer args s).state := by
  have checked (i j : Nat) : InForce (checkShipper j (checkShipper i s)) := checkShipper_inForce j (checkShipper_inForce i force)
  unfold transfer
  dsimp only
  repeat' split
  · exact force
  · exact force
  · exact checked _ _
  · exact checked _ _
  · exact checked _ _
  · exact carryTransfer_inForce _ _ _ (checked _ _)
  · exact force

theorem readClose_inForce (args : List Octet) (force : InForce s) : InForce (readClose args s).state := by
  unfold readClose
  dsimp only
  repeat' split
  all_goals exact force

theorem loadBegin_inForce (args : List Octet) (force : InForce s) : InForce (loadBegin args s).state := by
  unfold loadBegin beginLoad
  repeat' split
  · exact force
  · exact force
  · exact force
  · exact occur_inForce Src.tableProtected noSubject force
  · exact force

theorem loadData_inForce (args : List Octet) (force : InForce s) : InForce (loadData args s).state := by
  unfold loadData
  dsimp only
  repeat' split
  all_goals exact force

theorem loadAbort_inForce (args : List Octet) (force : InForce s) : InForce (loadAbort args s).state := by
  unfold loadAbort
  split
  all_goals exact force

theorem releaseUnit_inForce (args : List Octet) (force : InForce s) : InForce (releaseUnit args s).state := by
  unfold releaseUnit
  dsimp only
  repeat' split
  · exact force
  · exact force
  · exact force
  · exact releaseEntry_inForce _ force

theorem sweepRequest_inForce (args : List Octet) (force : InForce s) : InForce (sweepRequest args s).state := by
  unfold sweepRequest
  split
  · exact beginSweep_inForce force
  · exact force

theorem readChannelRequest_inForce (args : List Octet) (force : InForce s) : InForce (readChannelRequest args s).state := by
  unfold readChannelRequest
  dsimp only
  split
  · exact force
  · exact useChannel_inForce _ force

theorem readPeaks_inForce (args : List Octet) (force : InForce s) : InForce (readPeaks args s).state := by
  unfold readPeaks
  dsimp only
  split
  · exact force
  · exact onChan_inForce _ _ (useChannel_inForce _ force)

theorem readRun_inForce (args : List Octet) (force : InForce s) : InForce (readRun args s).state := by
  unfold readRun
  dsimp only
  split
  · exact force
  · exact checkRun_inForce _ force

theorem withComp_inForce (args : List Octet) {f : Nat → Reply} (force : InForce s) (serves : ∀ k, InForce (f k).state) :
    InForce (withComp args s f).state := by
  unfold withComp
  dsimp only
  repeat' split
  · exact force
  · exact force
  · exact serves _

theorem resetUnit_inForce (args : List Octet) (force : InForce s) : InForce (resetUnit args s).state := by
  refine withComp_inForce args force fun k => ?_
  split
  · exact force
  · exact dutyEvaluation_inForce (s := s.onComp k _) force

theorem setUnitMode_inForce (m : UnitMode) (args : List Octet) (force : InForce s) :
    InForce (setUnitMode m args s).state := by
  refine withComp_inForce args force fun k => ?_
  split
  · exact force
  · split
    · exact force
    · dsimp only
      refine dutyEvaluation_inForce ?_
      cases m with
      | auto => exact force.mono (becomeAuto_hears k)
      | manual => exact force.mono (becomeManual_hears k)

theorem rotate_inForce (args : List Octet) (force : InForce s) : InForce (rotate args s).state := by
  unfold rotate
  dsimp only
  exact dutyEvaluation_inForce (s := resort s) force

theorem readCompressor_inForce (args : List Octet) (force : InForce s) : InForce (readCompressor args s).state := by
  unfold readCompressor
  dsimp only
  split
  · exact force
  · exact force.mono (useComp_hears _)

theorem withTrain_inForce (i : Nat) {f : State → Reply} (force : InForce s)
    (serves : ∀ {t}, InForce t → InForce (f t).state) : InForce (withTrain i s f).state := by
  have used := force.mono (useTrain_hears i)
  unfold withTrain
  dsimp only
  repeat' split
  · exact force
  · exact used
  · exact used
  · exact serves used

theorem onTrain_inForce (i : Nat) (f : Train → Train) (force : InForce s) : InForce (s.onTrain i f) := force

theorem holdTrain_inForce (args : List Octet) (force : InForce s) : InForce (holdTrain args s).state :=
  withTrain_inForce _ force fun ht => ht

theorem resumeTrain_inForce (args : List Octet) (force : InForce s) : InForce (resumeTrain args s).state := by
  unfold resumeTrain
  refine withTrain_inForce _ force fun ht => ?_
  dsimp only
  have released := onTrain_inForce (fieldAt args 0 1) (fun t => { t with held := false }) ht
  exact released.mono fun hs => evalTrain_hears _ (startTest_hears _ (testAllHeating_hears _ hs))

theorem forceSwitch_inForce (args : List Octet) (force : InForce s) : InForce (forceSwitch args s).state :=
  withTrain_inForce _ force fun ht => by
    split
    · exact ht
    · dsimp only
      exact ht.mono fun hs => evalTrain_hears _ (raiseRequest_hears _ hs)

theorem returnBed_inForce (args : List Octet) (force : InForce s) : InForce (returnBed args s).state := by
  unfold returnBed
  dsimp only
  split
  · exact force
  · refine withTrain_inForce _ force fun ht => ?_
    split
    · exact ht
    · exact evalTrain_inForce _ (onTrain_inForce _ _ ht)

theorem readDryer_inForce (args : List Octet) (force : InForce s) : InForce (readDryer args s).state := by
  unfold readDryer
  dsimp only
  split
  · exact force
  · exact force.mono (useTrain_hears _)

theorem readShipper_inForce (args : List Octet) (force : InForce s) : InForce (readShipper args s).state := by
  unfold readShipper
  dsimp only
  split
  · exact force
  · exact checkShipper_inForce _ force

theorem forceEvent_inForce (args : List Octet) (force : InForce s) : InForce (forceEvent args s).state := by
  unfold forceEvent
  dsimp only
  split
  · exact force
  · exact occur_inForce _ _ force

theorem readEvents_inForce (args : List Octet) (force : InForce s) : InForce (readEvents args s).state := by
  unfold readEvents
  dsimp only
  exact checkEvents_inForce force

/-! ### Table images (R203 to R207) -/

theorem withdrawFormer_inForce (old : List CompCfg) (force : InForce s) : InForce (withdrawFormer old s) :=
  .foldl (fun _ ht => .ite (withdrawAll_inForce _ ht) ht) _ force

theorem compressorsTakeEffect_inForce (old : List CompCfg) (force : InForce s) : InForce (compressorsTakeEffect old s) := by
  have withdrawn := withdrawFormer_inForce old force
  unfold compressorsTakeEffect
  dsimp only
  generalize withdrawFormer old s = t at withdrawn ⊢
  exact dutyEvaluation_inForce (occur_inForce _ _ (s := { t with comp := { t.comp with recs := _, order := _ } }) withdrawn)

theorem ownerActs_inForce (t : TableId) (before : State) (force : InForce s) : InForce (ownerActs t before s) := by
  cases t with
  | units => exact unitsTakeEffect_inForce _ _ force
  | channels => exact channelsTakeEffect_inForce _ force
  | compressors => exact compressorsTakeEffect_inForce _ force
  | dryers => exact force.mono (dryersTakeEffect_hears _ _)
  | link => exact occur_inForce _ _ force
  | filters => exact occur_inForce _ _ force
  | events => exact occur_inForce _ _ force
  | runs => exact force
  | station => exact force
  | shippers => exact force

theorem installImage_inForce (t : TableId) (img : StoredImage) (force : InForce s) : InForce (installImage t img s) := force

theorem takeImage_inForce (t : TableId) (img : StoredImage) (force : InForce s) : InForce (takeImage t img s) := by
  refine .ite (ownerActs_inForce t s (installImage_inForce t img force)) ?_
  unfold makePending
  split
  all_goals exact force

theorem useNamed_inForce (l : Load) (force : InForce s) : InForce (l.useNamed s) := .ite (useChannels_inForce _ force) force

theorem refuseCommit_inForce (q : Request) (l : Load) (f : Finding) (force : InForce s) : InForce (refuseCommit q l f s) := by
  have used := useNamed_inForce l force
  unfold refuseCommit
  split
  · exact answerRequest_inForce q _ _ force
  · exact answerRequest_inForce q _ _ force
  · exact answerRequest_inForce q _ _ used
  · exact answerRequest_inForce q _ _ (occur_inForce _ _ used)
  · exact force

/-! ### Resets and the clock (R101, R131, R155, R183, R201, R212) -/

/-- The mode machine after a reset, with a flag that every block holds. -/
def Heard.afterReset (flag : Bool) : Heard := ⟨⟨.shutIn, false, none, none, none, none, flag⟩, .shutIn, false, flag, .shutIn, flag⟩

theorem afterReset_sound (flag : Bool) : (Heard.afterReset flag).mode.Sound := ⟨nofun, nofun, nofun, nofun⟩

theorem afterReset_told (flag : Bool) : (Heard.afterReset flag).Told := ⟨rfl, rfl, rfl, rfl, rfl⟩

theorem samplingReset_hears {p : Prop} {h : Heard} (hs : Hears p h s) : Hears p h (samplingReset s) :=
  startSweepTimer_hears (checkStation_hears (s := { s with chans := _, engine := _ }) hs)

/-- The blocks after a field restart, told of the compressor capacity 0 but not yet of the drying capacity 0. -/
theorem restartBlocks_hears {h : Heard} (told : h.Told) (hs : Hears True h s) :
    Hears False (.afterReset s.mode.flag)
      { restartBlocks s with acct := { (restartBlocks s).acct with compCap := 0 } } := by
  have sampled : Hears True h (samplingReset (directoryReset (linkRestart (eventsReset s)))) :=
    samplingReset_hears (s := directoryReset _) hs
  obtain ⟨heard, -, -, inj, wd⟩ := sampled
  refine ⟨?_, rfl, False.elim, inj, wd⟩
  have flag : (samplingReset (directoryReset (linkRestart (eventsReset s)))).acct.flag = s.mode.flag :=
    calc
      _ = h.acctFlag := congrArg Heard.acctFlag heard
      _ = h.mode.flag := told.2.2.2.2
      _ = s.mode.flag := by rw [← hs.1]; rfl
  exact congrArg (Heard.mk _ _ _ _ _) flag

theorem fieldRestart_inForce (force : InForce s) : InForce (fieldRestart s) := by
  obtain ⟨h, -, told, hs⟩ := force
  have compressors := curtail_hears none (restartBlocks_hears told hs)
  exact (acctDrying_hears (congrArg (·.total) (curtail_frame none _).dry) compressors).inForce (afterReset_sound _) (afterReset_told _)

theorem restart_inForce (args : List Octet) (force : InForce s) : InForce (restart args s).state := by
  unfold restart
  dsimp only
  exact fieldRestart_inForce force

theorem samplingReset_others (s : State) : (samplingReset s).mode = s.mode ∧ (samplingReset s).dry = s.dry ∧
    (samplingReset s).acct = s.acct := by
  unfold samplingReset startSweepTimer
  rw [checkStation_only]
  exact ⟨rfl, rfl, rfl⟩

theorem compPowerOn_hears (mode : s.mode = State.reset.mode) (dry : s.dry = State.reset.dry)
    (acct : s.acct = State.reset.acct) : Hears True (.afterReset false) (compPowerOn s) := by
  unfold Hears compPowerOn buildOrder State.heard
  dsimp only
  rw [mode, dry, acct]
  exact ⟨rfl, rfl, fun _ => rfl, rfl, rfl⟩

theorem powerOnBlocks_inForce : InForce (powerOnBlocks s) := by
  unfold powerOnBlocks
  dsimp only
  obtain ⟨mode, dry, acct⟩ := samplingReset_others (runsPowerOn { State.reset with
    pending := s.pending
    custody := s.custody
    free := s.free
    ret := s.ret.checked
    tables := s.ret.checked.committed.tables
    mgmt := { State.reset.mgmt with bootBad := decide (0 < s.ret.failures) } })
  exact (compPowerOn_hears mode dry acct).inForce (afterReset_sound _) (afterReset_told _)

theorem repeat_inForce {f : State → State} (step : ∀ {t}, InForce t → InForce (f t)) (n : Nat) (force : InForce s) :
    InForce (Nat.repeat f n s) := by
  induction n with
  | zero => exact force
  | succ n ih => exact step ih

theorem tick_inForce (force : InForce s) : InForce (tick s) := force

end

/-! ### Every command -/

/-- An answer that goes on leaves a state in which what was told is in force. -/
def Answer.ToldInForce : Answer → Prop
  | .next t => InForce t
  | .fault _ => True
  | .refused _ => True

section
variable {s : State}

theorem serve_inForce {code : Octet} {f : List Octet → State → Reply} (force : InForce s)
    (serves : ∀ args, InForce (f args s).state) : (serve code f s).ToldInForce := by
  unfold serve
  split
  · exact force
  · split
    · exact answerRequest_inForce _ _ _ (serves _)
    · exact answerRequest_inForce _ _ _ force

theorem guarded_inForce {c d : Prop} [Decidable c] [Decidable d] {r : Refusal} {t : State} (force : InForce s)
    (ht : InForce t) : Answer.ToldInForce (if c then .refused r else .next (if d then t else s)) := by
  split
  · trivial
  · exact InForce.ite ht force

theorem execLineupTimerExpiry_inForce (force : InForce s) : (execLineupTimerExpiry s).ToldInForce := by
  unfold execLineupTimerExpiry Answer.ToldInForce
  dsimp only
  split
  · exact .ite (failTransition_inForce force) force
  · exact force

theorem execRundownTimerExpiry_inForce (force : InForce s) : (execRundownTimerExpiry s).ToldInForce := by
  unfold execRundownTimerExpiry Answer.ToldInForce
  dsimp only
  split
  · exact .ite (failTransition_inForce force) force
  · exact force

theorem execQuietDwellExpiry_inForce (force : InForce s) : (execQuietDwellExpiry s).ToldInForce := by
  unfold execQuietDwellExpiry Answer.ToldInForce
  dsimp only
  split
  next mode => exact .ite (quietReached_inForce _ (force.calm (by simp [mode])) force) force
  · exact force

theorem execEngineSelect_inForce (force : InForce s) : (execEngineSelect s).ToldInForce := by
  unfold execEngineSelect Answer.ToldInForce
  dsimp only
  split
  · exact beginService_inForce _ force
  · exact force

theorem execEngineConditioningDone_inForce (force : InForce s) : (execEngineConditioningDone s).ToldInForce := by
  unfold execEngineConditioningDone
  split
  · exact force
  · exact engineDone_inForce _ _ force

theorem execCustodyConditioningDone_inForce (ch : Nat) (force : InForce s) :
    (execCustodyConditioningDone ch s).ToldInForce := by
  unfold execCustodyConditioningDone
  repeat' split
  · trivial
  · exact force
  · exact custodyDone_inForce _ _ force

theorem execOpeningValveTimeout_inForce (i : Nat) (force : InForce s) : (execOpeningValveTimeout i s).ToldInForce := by
  unfold execOpeningValveTimeout
  repeat' split
  · trivial
  · exact force
  · exact force.mono fun hs => evalTrain_hears _ (failOpening_hears true _ _ hs)

theorem execReleasingValveTimeout_inForce (i : Nat) (force : InForce s) : (execReleasingValveTimeout i s).ToldInForce := by
  unfold execReleasingValveTimeout
  repeat' split
  · trivial
  · exact force
  · exact force.mono fun hs => evalTrain_hears _ (failRelease_hears true _ _ hs)

theorem execCloseComplete_inForce (force : InForce s) : (execCloseComplete s).ToldInForce := by
  unfold execCloseComplete Answer.ToldInForce
  dsimp only
  repeat' split
  · exact force
  · exact force
  · exact completeClose_inForce _ _ force

theorem execUnknownRequest_inForce (force : InForce s) : (execUnknownRequest s).ToldInForce := by
  unfold execUnknownRequest
  split
  · exact force
  · exact InForce.ite (answerRequest_inForce _ _ _ force) force

theorem execLoadCommit_inForce (force : InForce s) : (execLoadCommit s).ToldInForce := by
  unfold execLoadCommit
  repeat' split
  · exact force
  · exact answerRequest_inForce _ _ _ force
  · exact answerRequest_inForce _ _ _ force
  · exact force

theorem setLoad_inForce (l : Option Load) (force : InForce s) : InForce (setLoad l s) := force

theorem execCommitComplete_inForce (force : InForce s) : (execCommitComplete s).ToldInForce := by
  unfold execCommitComplete Answer.ToldInForce
  dsimp only
  split
  next q l _ =>
    exact .ite (answerRequest_inForce q _ _ (takeImage_inForce _ _ (setLoad_inForce none (useNamed_inForce l force)))) force
  · exact force

theorem execCommitRefused_inForce (force : InForce s) : (execCommitRefused s).ToldInForce := by
  unfold execCommitRefused Answer.ToldInForce
  dsimp only
  split
  · exact refuseCommit_inForce _ _ _ force
  · exact force

theorem execAbortDelimiter_inForce (a : LineAbort) (force : InForce s) : (execAbortDelimiter a s).ToldInForce := by
  unfold execAbortDelimiter Answer.ToldInForce dropCollected
  dsimp only
  split
  all_goals exact force

/-- An update of a duty record that is followed by a duty evaluation. -/
theorem evaluated_inForce (k : Nat) (f : CompRec → CompRec) (force : InForce s) : InForce (dutyEvaluation (s.onComp k f)) :=
  dutyEvaluation_inForce (s := s.onComp k f) force

/-- Every command keeps what is in force. -/
theorem exec_inForce (c : Instr) (force : InForce s) : Answer.ToldInForce (exec c s) := by
  cases c with
  | powerOnReset => exact repeat_inForce (occur_inForce _ _) _ powerOnBlocks_inForce
  | custodyLineChange => exact force
  | frameArrivalPortF run =>
    exact takeFrameF_inForce _ (s := { s with link := { s.link with rxF := collect none run.behind } }) force
  | frameArrivalPortS run =>
    exact takeFrameS_inForce _ (s := { s with link := { s.link with rxS := collect none run.behind } }) force
  | portSSelect => exact InForce.ite (selectPortS_inForce force) force
  | portSTransmitEnd => exact force
  | portFSelect => exact InForce.ite (selectPortF_inForce force) force
  | portFTransmitEnd => exact force
  | silenceTimeout i => exact guarded_inForce force (departEntry_inForce i force)
  | releaseUnit => exact serve_inForce force fun a => releaseUnit_inForce a force
  | readUnit => exact serve_inForce force fun a => (readUnit_state a s).symm ▸ force
  | intervalTimerExpiry ch => exact guarded_inForce force (examinePending_inForce ch (onChan_inForce ch _ force))
  | custodyConditioningDone ch => exact execCustodyConditioningDone_inForce ch force
  | engineSelect => exact execEngineSelect_inForce force
  | engineConditioningDone => exact execEngineConditioningDone_inForce force
  | ageTimerExpiry ch => exact guarded_inForce force (channelAged_inForce ch force)
  | sweepPeriodExpiry => exact InForce.ite (sweepPeriod_inForce force) force
  | sweep => exact serve_inForce force fun a => sweepRequest_inForce a force
  | readChannel => exact serve_inForce force fun a => readChannelRequest_inForce a force
  | readPeaks => exact serve_inForce force fun a => readPeaks_inForce a force
  | refStaleTimerExpiry r => exact guarded_inForce force (refStale_inForce r force)
  | readRun => exact serve_inForce force fun a => readRun_inForce a force
  | boundary => exact InForce.ite (raiseBoundary_inForce force) force
  | timeWrap => exact InForce.ite (wrapTime_inForce force) force
  | setTime => exact serve_inForce force fun a => setTime_inForce a force
  | setMode => exact serve_inForce force fun a => setMode_inForce a force
  | lineupTimerExpiry => exact execLineupTimerExpiry_inForce force
  | rundownTimerExpiry => exact execRundownTimerExpiry_inForce force
  | quietDwellExpiry => exact execQuietDwellExpiry_inForce force
  | readStatus => exact serve_inForce (f := readStatus) force fun _ => force
  | startConfirmExpiry k => exact guarded_inForce force (force.mono (failStart_hears k))
  | minimumRunExpiry k => exact guarded_inForce force (force.mono (minimumRunOver_hears k))
  | stopConfirmExpiry k =>
    exact guarded_inForce force (force.mono fun hs => dutyEvaluation_hears (occur_hears _ _ (onComp_hears k _ hs)))
  | cooldownExpiry k => exact guarded_inForce force (evaluated_inForce k _ force)
  | startMarkAgeout k => exact guarded_inForce force (evaluated_inForce k _ force)
  | resetUnit => exact serve_inForce force fun a => resetUnit_inForce a force
  | setUnitAuto => exact serve_inForce force fun a => setUnitMode_inForce .auto a force
  | setUnitManual => exact serve_inForce force fun a => setUnitMode_inForce .manual a force
  | rotate => exact serve_inForce force fun a => rotate_inForce a force
  | readCompressor => exact serve_inForce force fun a => readCompressor_inForce a force
  | adsorbLimitExpiry i => exact guarded_inForce force (force.mono (adsorbLimit_hears i))
  | openingValveTimeout i => exact execOpeningValveTimeout_inForce i force
  | releasingValveTimeout i => exact execReleasingValveTimeout_inForce i force
  | heatTimeReached i x => exact guarded_inForce force (force.mono (heatReached_hears i x))
  | heatShort i x => exact guarded_inForce force (force.mono (heatShort_hears i x))
  | coolTimerExpiry i x => exact guarded_inForce force (force.mono (cooled_hears i x))
  | holdTrain => exact serve_inForce force fun a => holdTrain_inForce a force
  | resumeTrain => exact serve_inForce force fun a => resumeTrain_inForce a force
  | forceSwitch => exact serve_inForce force fun a => forceSwitch_inForce a force
  | returnBed => exact serve_inForce force fun a => returnBed_inForce a force
  | readDryer => exact serve_inForce force fun a => readDryer_inForce a force
  | nominate => exact serve_inForce force fun a => nominate_inForce a force
  | closeComplete => exact execCloseComplete_inForce force
  | transfer => exact serve_inForce force fun a => transfer_inForce a force
  | readShipper => exact serve_inForce force fun a => readShipper_inForce a force
  | readClose => exact serve_inForce force fun a => readClose_inForce a force
  | clearEvents => exact serve_inForce (f := clearEvents) force fun _ => force
  | forceEvent => exact serve_inForce force fun a => forceEvent_inForce a force
  | readEvents => exact serve_inForce force fun a => readEvents_inForce a force
  | readTable => exact serve_inForce force fun a => (readTable_state a s).symm ▸ force
  | restart => exact serve_inForce force fun a => restart_inForce a force
  | unknownRequest => exact execUnknownRequest_inForce force
  | loadBegin => exact serve_inForce force fun a => loadBegin_inForce a force
  | loadData => exact serve_inForce force fun a => loadData_inForce a force
  | loadAbort => exact serve_inForce force fun a => loadAbort_inForce a force
  | loadCommit => exact execLoadCommit_inForce force
  | commitComplete => exact execCommitComplete_inForce force
  | abortDelimiter a => exact execAbortDelimiter_inForce a force
  | commitRefused => exact execCommitRefused_inForce force

end

theorem step_inForce {s : State} (force : InForce s) : Answer.ToldInForce (step s) := by
  unfold step
  split
  · exact tick_inForce force
  next c rest _ => exact exec_inForce c (s := { s with pending := rest }) force

/-- Settles O58: what the blocks hold of the mode machine changes only where the mode machine tells them, each change of a
capacity or of a sum is made on both of its sides, and an entry to a mode stops the timers of the phase it leaves. -/
theorem stepKeepsModeAndNotices : Obligations.StepKeepsModeAndNotices := by
  intro s t mode told h
  have force := step_inForce ((inForce_iff s).mpr ⟨mode, told⟩)
  rw [h] at force
  exact (inForce_iff t).mp force

end Sys2Proof.Machine

/-!
SUPPORT. The mode machine by its cases (R90 to R97): the entries to its phases, the evaluation of the station flow, and the
precondition of a withdrawal, on the STATION record as its check leaves it.
-/

namespace Sys2Proof.Machine

section
variable {s : State}

/-! ### The STATION record and the valve set (R86, R92, R209) -/

/-- A STATION record found bad gets its mark, and the sweep period timer stops (R209). -/
theorem checkStation_eq (s : State) : checkStation s =
    if s.foundBad .station 0 then
      { occur Src.tableParity 0 (s.setMark .station 0) with engine := { s.engine with sweepDue := none } }
    else s := by
  unfold checkStation
  dsimp only
  rw [markEntry_eq_occur, (occur_frame Src.tableParity 0 (s.setMark .station 0)).engine]
  rfl

theorem checkStation_mode (s : State) : (checkStation s).mode = s.mode := by rw [checkStation_only]

theorem checkStation_runs (s : State) : (checkStation s).runs = s.runs := by rw [checkStation_only]

theorem stationPresent_congr {t : State} (tables : t.tables = s.tables) (units : t.units = s.units)
    (parity : t.parity.units = s.parity.units) : t.stationPresent = s.stationPresent := by
  have marked (i : Nat) : t.marked .units i = s.marked .units i := by
    unfold State.marked Parity.get
    dsimp only
    rw [parity]
  unfold State.stationPresent State.stationEntry State.unitInUse State.unitCfg State.present State.unit
  simp only [marked, tables, units]

theorem stationPresent_checkStation (s : State) : (checkStation s).stationPresent = s.stationPresent :=
  stationPresent_congr (checkStation_frame s).tables (checkStation_frame s).units (checkStation_frame s).unitsParity

/-- The station valve set is the lowest directory entry in use of its class. -/
theorem stationEntry_eq_some {e : Nat} (place : e < 48)
    (valveSet : s.unitInUse e = true ∧ (s.unitCfg e).cls = .stationValves)
    (first : ∀ j < e, ¬(s.unitInUse j = true ∧ (s.unitCfg j).cls = .stationValves)) : s.stationEntry = some e := by
  rw [State.stationEntry, List.find?_range_eq_some]
  refine ⟨by simpa using valveSet, List.mem_range.mpr place, fun j below => ?_⟩
  simpa [Bool.and_eq_false_iff, or_iff_not_imp_left] using first j below

theorem stationEntry_eq_none (free : ∀ e < 48, ¬(s.unitInUse e = true ∧ (s.unitCfg e).cls = .stationValves)) :
    s.stationEntry = none := by
  rw [State.stationEntry, List.find?_range_eq_none]
  intro e place
  simpa [or_iff_not_imp_left] using free e place

/-! ### The precondition of a withdrawal (R91) -/

theorem isSome_find_allBeds (p : BedId → Bool) : (allBeds.find? p).isSome = true ↔ ∃ x, p x = true := by
  rw [List.find?_isSome]
  exact ⟨fun ⟨x, _, holds⟩ => ⟨x, holds⟩, fun ⟨x, holds⟩ => ⟨x, by cases x <;> decide, holds⟩⟩

theorem withdrawalPrecondition_iff (s : State) : s.withdrawalPrecondition = true ↔
    ∀ i < 2, (s.train i).state = .outOfService ∨
      ∃ x, ((s.train i).bed x).state = .adsorbing ∨ ((s.train i).bed x).state = .standby := by
  unfold State.withdrawalPrecondition Train.adsorbing Train.standby
  simp only [List.all_eq_true, List.mem_range, Bool.or_eq_true, decide_eq_true_eq, isSome_find_allBeds, exists_or, or_assoc]

/-! ### Entries to SHUT_IN and to the phases of a transition (R92 to R94) -/

theorem enterShutIn_mode (n : Nat) (s : State) : (enterShutIn n s).mode =
    { s.mode with mode := .shutIn, tLineup := none, tRundown := none, tQuiet := none } := by
  unfold enterShutIn
  rw [(occur_frame _ _ _).mode, tellMode_mode, (offerLineup_frame _ _).mode]
  rfl

theorem enterLineup_of_present (d : Dir) (present : s.stationPresent = true) : enterLineup d s =
    tellMode (.transition d .lineup) (offerLineup d.lineup { checkStation s with
      mode := { s.mode with
        tLineup := startTimer s.now ((checkStation s).stationRead.lineup * 1000)
        tRundown := none
        tQuiet := none } }) := by
  have there : (checkStation (stopModeTimers s)).stationPresent = true := (stationPresent_checkStation _).trans present
  have now : (checkStation s).now = s.now := (checkStation_frame s).now
  unfold enterLineup
  dsimp only
  rw [if_pos there, stopModeTimers, checkStation_withMode]
  rw [now]
  rfl

theorem enterLineup_of_absent (d : Dir) (absent : s.stationPresent = false) :
    enterLineup d s = failTransition (stopModeTimers (checkStation s)) := by
  have gone : (checkStation (stopModeTimers s)).stationPresent = false := (stationPresent_checkStation _).trans absent
  have stopped : checkStation (stopModeTimers s) = stopModeTimers (checkStation s) := by
    rw [stopModeTimers, checkStation_withMode, stopModeTimers, checkStation_mode]
  unfold enterLineup
  dsimp only
  rw [gone, stopped]
  exact if_neg Bool.false_ne_true

theorem stopModeTimers_stopModeTimers (s : State) : stopModeTimers (stopModeTimers s) = stopModeTimers s := rfl

theorem failTransition_stopModeTimers (s : State) : failTransition (stopModeTimers s) = failTransition s := by
  rw [failTransition, enterShutIn, stopModeTimers_stopModeTimers, failTransition, enterShutIn]

theorem enterRundown_eq (d : Dir) (s : State) : enterRundown d s =
    flowNotice (tellMode (.transition d .rundown) { checkStation s with
      mode := { s.mode with
        tLineup := none
        tRundown := startTimer s.now ((checkStation s).stationRead.rundown * 1000)
        tQuiet := none } }) := by
  have now : (checkStation s).now = s.now := (checkStation_frame s).now
  unfold flowNotice enterRundown
  dsimp only
  rw [inRundown_tellMode, if_pos rfl, stopModeTimers, checkStation_withMode]
  rw [now]
  rfl

/-! ### SET_MODE (R91) -/

/-- The mode in which gas flows in a direction. -/
def Dir.flow : Dir → Mode
  | .inject => .inject
  | .withdraw => .withdraw

/-- What a SET_MODE towards a flow asks for before it looks at the mode (R91). -/
def State.allowsFlow (s : State) (d : Dir) : Prop :=
  s.mode.esd = false ∧ s.stationPresent = true ∧ (d = .withdraw → s.withdrawalPrecondition = true)

theorem requestFlow_of_refused {d : Dir} (refused : ¬s.allowsFlow d) : requestFlow d s = ⟨.wrongState, [], s⟩ := by
  refine if_pos ?_
  unfold State.allowsFlow at refused
  cases esd : s.mode.esd <;> cases present : s.stationPresent <;> cases ready : s.withdrawalPrecondition <;> simp_all

theorem requestFlow_of_allowed {d : Dir} (allowed : s.allowsFlow d) : requestFlow d s =
    match setFlow d s with
    | (.ok, t) => ⟨.ok, t.mode.mode.result, t⟩
    | (status, t) => refuse status t := by
  refine if_neg ?_
  obtain ⟨esd, present, ready⟩ := allowed
  simp only [esd, present, Bool.not_true, Bool.or_self, Bool.false_or, Bool.and_eq_true, decide_eq_true_eq, not_and,
    Bool.not_eq_true']
  exact fun withdraw => by simp [ready withdraw]

theorem requestFlow_of_ok {d : Dir} {t : State} (allowed : s.allowsFlow d) (taken : setFlow d s = (.ok, t)) :
    requestFlow d s = ⟨.ok, t.mode.mode.result, t⟩ := by
  rw [requestFlow_of_allowed allowed, taken]

theorem setFlow_of_shutIn (d : Dir) (mode : s.mode.mode = .shutIn) : setFlow d s = (.ok, enterLineup d s) := by
  unfold setFlow
  rw [mode]

theorem setFlow_of_same {d : Dir} (mode : s.mode.mode = d.flow) : setFlow d s = (.ok, s) := by
  unfold setFlow
  rw [mode]
  cases d <;> rfl

theorem setFlow_of_opposite {d : Dir} (flows : s.mode.mode = .inject ∨ s.mode.mode = .withdraw)
    (other : s.mode.mode ≠ d.flow) : setFlow d s = (.ok, enterRundown d s) := by
  unfold setFlow
  rcases flows with mode | mode <;> cases d
  · exact absurd mode other
  · rw [mode]
  · rw [mode]
  · exact absurd mode other

theorem setFlow_of_transition {d target : Dir} {p : Phase} (mode : s.mode.mode = .transition target p) :
    setFlow d s = if target = d then (.ok, s) else (.transitionBusy, s) := by
  unfold setFlow
  rw [mode]

theorem setMode_of_target {b : Octet} {d : Dir} (target : b.toNat = d.code + 1) : setMode [b] s = requestFlow d s := by
  cases d <;> simp [setMode, fieldAt_single, target, Dir.code]

theorem setMode_of_shutIn {b : Octet} (target : b.toNat = 0) :
    setMode [b] s = ⟨.ok, [0, 0, 0, 0, 0], enterShutIn Src.modeChanged s⟩ := by
  have mode : (enterShutIn Src.modeChanged s).mode.mode = .shutIn := by rw [enterShutIn_mode]
  simp only [setMode, fieldAt_single, target, if_true, mode]
  rfl

theorem setMode_of_none {b : Octet} (target : 2 < b.toNat) : setMode [b] s = ⟨.badArgument, [], s⟩ := by
  have zero : b.toNat ≠ 0 := by omega
  have one : b.toNat ≠ 1 := by omega
  have two : b.toNat ≠ 2 := by omega
  simp [setMode, fieldAt_single, zero, one, two, refuse]

end

theorem exec_setMode (s : State) : exec .setMode s = serve 0x11 setMode s := rfl

/-- Settles O24: each target by the mode in force; the entries to the phases read the STATION record once it is checked. -/
theorem setModeByCase : Obligations.SetModeByCase := by
  refine ⟨?request, fun s => ⟨withdrawalPrecondition_iff s, ?present, ?absent⟩, ?entries⟩
  case request =>
    intro s q b asks
    rw [exec_setMode]
    have served := serve_of_asks (f := setMode) asks (by decide) rfl
    have same {status : Status} {result : List Octet} := serve_of_asks_same (f := setMode) (status := status)
      (result := result) asks (by decide) rfl
    refine ⟨fun target => ?shut, fun target => same (setMode_of_none target), fun d target => ?flow⟩
    case shut =>
      intro t
      have entered : enterShutIn Src.modeChanged s = t := rfl
      rw [served, setMode_of_shutIn target, ← entered]
      simp only [enterShutIn_mode, and_self]
    case flow =>
      rw [setMode_of_target target] at served
      have kept {status : Status} {result : List Octet} (h : requestFlow d s = ⟨status, result, s⟩) :=
        same ((setMode_of_target target).trans h)
      refine ⟨fun refused => kept (requestFlow_of_refused refused), fun allowed mode => ?_, fun allowed mode => ?_,
        fun allowed flows other => ?_, fun there p allowed mode => ⟨fun way => ?_, fun elsewhere => ?_⟩⟩
      · rw [served, requestFlow_of_ok allowed (setFlow_of_shutIn d mode)]
      · exact kept (requestFlow_of_ok allowed (setFlow_of_same (by cases d <;> exact mode)))
      · rw [served, requestFlow_of_ok allowed (setFlow_of_opposite flows (by cases d <;> exact other))]
      · exact kept (requestFlow_of_ok allowed ((setFlow_of_transition mode).trans (if_pos way)))
      · refine kept ?_
        rw [requestFlow_of_allowed allowed, setFlow_of_transition mode, if_neg elsewhere]
        rfl
  case present =>
    intro e place valveSet first
    have entry := stationEntry_eq_some place valveSet first
    refine ⟨?_, fun l => ?_⟩
    · rw [State.stationPresent, entry]
      exact decide_eq_true_iff
    · rw [offerLineup, entry]
  case absent =>
    intro free
    have entry := stationEntry_eq_none free
    refine ⟨?_, fun l => ?_⟩
    · rw [State.stationPresent, entry]
    · rw [offerLineup, entry]
  case entries =>
    intro s d x w
    have checked : checkStation s = w := checkStation_eq s
    rw [← checked]
    exact ⟨enterLineup_of_present d, fun absent => enterLineup_of_absent d absent, enterRundown_eq d s⟩

section
variable {s : State}

/-! ### The timers of a transition (R92 to R94) -/

theorem exec_lineupTimerExpiry_of_lineup {d : Dir} (mode : s.mode.mode = .transition d .lineup) :
    exec .lineupTimerExpiry s = .next (if fires s.now s.mode.tLineup then failTransition s else s) := by
  have arm : exec .lineupTimerExpiry s = execLineupTimerExpiry s := rfl
  rw [arm, execLineupTimerExpiry, mode]

theorem exec_lineupTimerExpiry_of_other (other : ∀ d, s.mode.mode ≠ .transition d .lineup) :
    exec .lineupTimerExpiry s = .next s := by
  have arm : exec .lineupTimerExpiry s = execLineupTimerExpiry s := rfl
  rw [arm, execLineupTimerExpiry]
  split
  next d mode => exact absurd mode (other d)
  next => rfl

theorem exec_rundownTimerExpiry_of_rundown {d : Dir} (mode : s.mode.mode = .transition d .rundown) :
    exec .rundownTimerExpiry s = .next (if fires s.now s.mode.tRundown then failTransition s else s) := by
  have arm : exec .rundownTimerExpiry s = execRundownTimerExpiry s := rfl
  rw [arm, execRundownTimerExpiry, mode]

theorem exec_rundownTimerExpiry_of_other (other : ∀ d, s.mode.mode ≠ .transition d .rundown) :
    exec .rundownTimerExpiry s = .next s := by
  have arm : exec .rundownTimerExpiry s = execRundownTimerExpiry s := rfl
  rw [arm, execRundownTimerExpiry]
  split
  next d mode => exact absurd mode (other d)
  next => rfl

theorem exec_quietDwellExpiry_of_rundown {d : Dir} (mode : s.mode.mode = .transition d .rundown) :
    exec .quietDwellExpiry s = .next (if fires s.now s.mode.tQuiet then quietReached d s else s) := by
  have arm : exec .quietDwellExpiry s = execQuietDwellExpiry s := rfl
  rw [arm, execQuietDwellExpiry, mode]

theorem exec_quietDwellExpiry_of_other (other : ∀ d, s.mode.mode ≠ .transition d .rundown) :
    exec .quietDwellExpiry s = .next s := by
  have arm : exec .quietDwellExpiry s = execQuietDwellExpiry s := rfl
  rw [arm, execQuietDwellExpiry]
  split
  next d mode => exact absurd mode (other d)
  next => rfl

theorem exec_quietDwellExpiry_of_fires {d : Dir} (mode : s.mode.mode = .transition d .rundown)
    (expired : fires s.now s.mode.tQuiet = true) : exec .quietDwellExpiry s = .next (quietReached d s) := by
  rw [exec_quietDwellExpiry_of_rundown mode, if_pos expired]

theorem quietReached_of_lost {d : Dir} (withdraw : d = .withdraw) (lost : s.withdrawalPrecondition = false) :
    quietReached d s = failTransition s := if_pos ⟨withdraw, lost⟩

theorem quietReached_of_ready {d : Dir} (ready : d = .withdraw → s.withdrawalPrecondition = true) :
    quietReached d s = enterLineup d s :=
  if_neg fun ⟨withdraw, lost⟩ => by simp [ready withdraw] at lost

/-! ### The station flow (R93) -/

/-- The runs' last triggers show a station flow at or below the quiet threshold. -/
theorem quiet_iff (s : State) : s.quiet = true ↔ (¬∃ x ∈ s.runs, x.role = .station ∧ x.last = none) ∧
    (s.runs.map fun x => if x.role = .station then (x.last.map fun r => r.q.natAbs).getD 0 else 0).sum ≤
      s.stationRead.quietThreshold := by
  have ⟨missing, sum⟩ := stationFlow_spec s.runs
  unfold State.quiet
  by_cases unknown : ∃ x ∈ s.runs, x.role = .station ∧ x.last = none
  · rw [missing unknown]
    exact ⟨nofun, fun quiet => absurd unknown quiet.1⟩
  · rw [sum unknown]
    exact decide_eq_true_iff.trans ⟨fun below => ⟨unknown, below⟩, fun quiet => quiet.2⟩

theorem flowNotice_of_other (other : ∀ d, s.mode.mode ≠ .transition d .rundown) : flowNotice s = s := by
  refine if_neg ?_
  unfold State.inRundown
  split
  next d mode => exact absurd mode (other d)
  next => exact Bool.false_ne_true

theorem flowNotice_of_rundown {d : Dir} (mode : s.mode.mode = .transition d .rundown) : flowNotice s = evalStationFlow s := by
  refine if_pos ?_
  unfold State.inRundown
  rw [mode]

theorem evalStationFlow_of_quiet (quiet : (checkStation s).quiet = true) (stopped : s.mode.tQuiet = none) :
    evalStationFlow s = { checkStation s with
      mode := { s.mode with tQuiet := startTimer s.now ((checkStation s).stationRead.quietDwell * 1000) } } := by
  have now : (checkStation s).now = s.now := (checkStation_frame s).now
  have mode := checkStation_mode s
  unfold evalStationFlow
  dsimp only
  rw [quiet, mode, now, stopped]
  rfl

theorem evalStationFlow_of_running (quiet : (checkStation s).quiet = true) (running : s.mode.tQuiet ≠ none) :
    evalStationFlow s = checkStation s := by
  unfold evalStationFlow
  dsimp only
  rw [if_pos quiet, checkStation_mode, if_pos (Option.isSome_iff_ne_none.mpr running)]

theorem evalStationFlow_of_flowing (flowing : ¬(checkStation s).quiet = true) :
    evalStationFlow s = { checkStation s with mode := { s.mode with tQuiet := none } } := by
  unfold evalStationFlow
  dsimp only
  rw [if_neg flowing, checkStation_mode]

end

/-- Settles O25: each timer by the phase in force, the quiet dwell and the station flow on the checked STATION record. -/
theorem transitionTimersExpire : Obligations.TransitionTimersExpire := by
  refine ⟨?timers, fun s => ⟨stationRead_unmarked, fun marked => stationRead_marked marked⟩, ?flow⟩
  case timers =>
    intro s failed
    rw [← show failTransition s = failed from rfl]
    refine ⟨enterShutIn_mode _ s, fun d mode => ?lineup, fun d mode => ?rundown, fun other => ?other⟩
    case lineup =>
      exact ⟨exec_lineupTimerExpiry_of_lineup mode, exec_rundownTimerExpiry_of_other (by simp [mode]),
        exec_quietDwellExpiry_of_other (by simp [mode])⟩
    case rundown =>
      refine ⟨exec_lineupTimerExpiry_of_other (by simp [mode]), exec_rundownTimerExpiry_of_rundown mode, fun running => ?_,
        fun expired sound => ?_, fun expired _ => ?_⟩
      · rw [exec_quietDwellExpiry_of_rundown mode, running, if_neg Bool.false_ne_true]
      · rw [exec_quietDwellExpiry_of_fires mode expired]
        refine ⟨fun withdraw lost => congrArg _ (quietReached_of_lost withdraw lost), fun ready present => ?_,
          fun ready absent => ?_⟩
        · rw [quietReached_of_ready ready, enterLineup_of_present d present, checkStation_of_sound sound]
        · rw [quietReached_of_ready ready, enterLineup_of_absent d absent, checkStation_of_sound sound,
            failTransition_stopModeTimers]
      · rw [exec_quietDwellExpiry_of_fires mode expired]
        exact ⟨fun withdraw lost => congrArg _ (quietReached_of_lost withdraw lost),
          fun ready => congrArg _ (quietReached_of_ready ready)⟩
    case other =>
      exact ⟨exec_lineupTimerExpiry_of_other fun d => other d _, exec_rundownTimerExpiry_of_other fun d => other d _,
        exec_quietDwellExpiry_of_other fun d => other d _⟩
  case flow =>
    intro s unknown flow x w quiet
    have checked : checkStation s = w := checkStation_eq s
    have shows : (checkStation s).quiet = true ↔ quiet := by
      rw [quiet_iff, checkStation_runs, checked]
    rw [← checked]
    refine ⟨flowNotice_of_other, fun d mode => ?_⟩
    rw [flowNotice_of_rundown mode]
    exact ⟨fun holds => evalStationFlow_of_quiet (shows.mpr holds), fun holds => evalStationFlow_of_running (shows.mpr holds),
      fun fails => evalStationFlow_of_flowing fun holds => fails (shows.mp holds)⟩

end Sys2Proof.Machine

/-!
SUPPORT. What the report of the station valve set does by the mode in force, and what the notices of mode and ESD do to the
compressors and the trains (R90, R94 to R96, R114, R115, R139).
-/

namespace Sys2Proof.Machine

/-! ### Reports of the station valve set (R95, R96, R214) -/

theorem lineupOf_iff (b : Octet) : (lineupOf b = .shut ↔ b = 0) ∧ (lineupOf b = .inject ↔ b = 1) ∧
    (lineupOf b = .withdraw ↔ b = 2) := by
  by_cases zero : b = 0
  · subst zero
    decide
  by_cases one : b = 1
  · subst one
    decide
  by_cases two : b = 2
  · subst two
    decide
  · rw [lineupOf, if_neg zero, if_neg one, if_neg two]
    exact ⟨⟨nofun, (absurd · zero)⟩, ⟨nofun, (absurd · one)⟩, ⟨nofun, (absurd · two)⟩⟩

section
variable {s : State} {l : Octet} {e : Octet} {more : List Octet}

theorem examine_of_stationState {i : Nat} {f : Frame} (kind : f.kind = kindState) (present : s.present i = true)
    (cls : (s.unitCfg i).cls = .stationValves) : examine i f s = stationReport f.payload s := by
  rw [examine_of_state kind present, examineState, cls]

theorem stationReport_of_short {payload : List Octet} (short : payload.length < 2) : stationReport payload s = s := by
  unfold stationReport
  split
  next l e more => exact absurd short (by simp)
  next => rfl

theorem stationReport_of_known (esd : e ≠ 0) (active : s.mode.esd = true) :
    stationReport (l :: e :: more) s = recordLineup (lineupOf l) s := by
  unfold stationReport
  exact (if_neg esd).trans (if_pos active)

theorem stationReport_of_esd (esd : e ≠ 0) (calm : s.mode.esd = false) :
    stationReport (l :: e :: more) s = esdActivated (recordLineup (lineupOf l) s) := by
  unfold stationReport
  exact (if_neg esd).trans (if_neg fun active => by simp [recordLineup, calm] at active)

/-- The state once an ESD that was active has ended. -/
def State.calmed (s : State) : State := if s.mode.esd then esdCleared s else s

theorem stationReport_of_noEsd : stationReport (l :: 0 :: more) s = actLineup (lineupOf l) (recordLineup (lineupOf l) s.calmed) := by
  unfold stationReport State.calmed
  exact if_pos rfl

theorem calmed_mode (s : State) : s.calmed.mode.mode = s.mode.mode := by
  unfold State.calmed esdCleared dutyEsd
  split
  · dsimp only
    rw [(dutyEvaluation_frame _).mode]
    split
    · rw [(cancelUnsentStarts_frame _).mode]
    · rfl
  · rfl

/-- A lineup that ends the flow mode in force. -/
def losesLineup (m : Mode) (l : Lineup) : Prop :=
  m = .inject ∧ (l = .shut ∨ l = .withdraw) ∨ m = .withdraw ∧ (l = .shut ∨ l = .inject)

theorem actLineup_of_lost {l : Lineup} (lost : losesLineup s.mode.mode l) : actLineup l s = enterShutIn Src.modeChanged s := by
  unfold actLineup
  rcases lost with ⟨mode, rfl | rfl⟩ | ⟨mode, rfl | rfl⟩ <;> rw [mode]

theorem actLineup_of_inject (mode : s.mode.mode = .transition .inject .lineup) : actLineup .inject s = enterFlow .inject s := by
  unfold actLineup
  rw [mode]

theorem actLineup_of_withdraw (mode : s.mode.mode = .transition .withdraw .lineup) :
    actLineup .withdraw s = enterFlow .withdraw s := by
  unfold actLineup
  rw [mode]

theorem actLineup_of_other {l : Lineup} (kept : ¬losesLineup s.mode.mode l)
    (inject : s.mode.mode = .transition .inject .lineup → l ≠ .inject)
    (withdraw : s.mode.mode = .transition .withdraw .lineup → l ≠ .withdraw) : actLineup l s = s := by
  unfold actLineup
  unfold losesLineup at kept
  split
  next mode => exact absurd rfl (inject mode)
  next mode => exact absurd rfl (withdraw mode)
  next mode => exact absurd (.inl ⟨mode, .inl rfl⟩) kept
  next mode => exact absurd (.inl ⟨mode, .inr rfl⟩) kept
  next mode => exact absurd (.inr ⟨mode, .inl rfl⟩) kept
  next mode => exact absurd (.inr ⟨mode, .inr rfl⟩) kept
  next => rfl

end

/-! ### Notices (R90, R114, R115, R139) -/

section
variable {s : State} {m : Mode}

theorem dutyMode_of_other (other : m ≠ .shutIn) :
    dutyMode m s = dutyEvaluation { s with comp := { s.comp with heldMode := m } } := by
  unfold dutyMode
  dsimp only
  rw [if_neg other]

theorem dutyMode_of_shutIn (shut : m = .shutIn) :
    dutyMode m s = dutyEvaluation (immediateStops (resort { s with comp := { s.comp with heldMode := m } })) := by
  unfold dutyMode
  dsimp only
  rw [if_pos shut]

theorem dryMode_of_other (other : m ≠ .withdraw ∨ s.dry.heldMode = .withdraw) :
    dryMode m s = { s with dry := { s.dry with heldMode := m } } := by
  refine if_neg ?_
  simp only [Bool.and_eq_true, decide_eq_true_eq, not_and_or, not_not]
  exact other

/-- What the entry to WITHDRAW does to one train (R139). -/
def entersWithdraw (i : Nat) (s : State) : State :=
  if s.trainInUse i && (s.train i).synced && !s.marked .dryers i then evalTrain i (entryTriggers i s) else s

theorem dryMode_of_entry (withdraw : m = .withdraw) (before : s.dry.heldMode ≠ .withdraw) :
    dryMode m s = entersWithdraw 1 (entersWithdraw 0 { s with dry := { s.dry with heldMode := m } }) := by
  have entering : (decide (m = .withdraw) && decide (s.dry.heldMode ≠ .withdraw)) = true := by simp [withdraw, before]
  exact if_pos entering

theorem entersWithdraw_eq (i : Nat) (s : State) : entersWithdraw i s =
    if (s.dryerCfg i).inUse = true ∧ (s.train i).synced = true ∧ s.marked .dryers i = false then
      evalTrain i (noBedTrigger i (loadingTrigger i s))
    else s := by
  unfold entersWithdraw State.trainInUse entryTriggers
  simp only [Bool.and_eq_true, Bool.not_eq_true', and_assoc]

/-! ### Immediate stops (R114) -/

variable {k : Nat}

theorem immediateStop_of_unsent (starting : (s.compRec k).state = .starting) (unsent : s.startUnsent k = true) :
    immediateStop k s = cancelStart k s := by
  rw [immediateStop, starting]
  exact if_pos unsent

theorem immediateStop_of_sent (starting : (s.compRec k).state = .starting) (sent : s.startUnsent k = false) :
    immediateStop k s = (offerOwn (s.compEntry k) .stop s).onComp k fun r =>
      { CompRec.unload s.now (s.compCfg k).stopConfirm r with tStart := none } := by
  rw [immediateStop, starting]
  exact if_neg fun unsent => by simp [sent] at unsent

theorem immediateStop_of_running (running : (s.compRec k).state = .running) (present : s.present (s.compEntry k) = true) :
    immediateStop k s = (withdrawOwn (s.compEntry k) isSpeed (offerOwn (s.compEntry k) .stop s)).onComp k
      fun r => { CompRec.unload s.now (s.compCfg k).stopConfirm r with tMinRun := none } := by
  have accepted : s.accepts (s.compEntry k) = true := present
  rw [immediateStop, running]
  dsimp only
  rw [takeStop, if_pos accepted, onComp_onComp]
  rfl

theorem immediateStop_of_gone (running : (s.compRec k).state = .running) (gone : s.present (s.compEntry k) = false) :
    immediateStop k s = s.onComp k fun r => { r with tMinRun := none } := by
  have dropped : ¬s.accepts (s.compEntry k) = true := by simp [State.accepts, gone]
  rw [immediateStop, running]
  dsimp only
  rw [takeStop, if_neg dropped]

theorem immediateStop_of_idle (starting : (s.compRec k).state ≠ .starting) (running : (s.compRec k).state ≠ .running) :
    immediateStop k s = s := by
  unfold immediateStop
  split
  next state => exact absurd state starting
  next state => exact absurd state running
  next => rfl

/-- A start is cancelled on ESD as an immediate stop cancels it. -/
theorem cancelUnsentStarts_eq (s : State) : cancelUnsentStarts s =
    (List.range 6).foldl (fun t k => if (t.compRec k).state = .starting ∧ t.unsent (t.compEntry k) isStart = true then
      immediateStop k t else t) s := by
  unfold cancelUnsentStarts State.startUnsent
  congr 1
  funext t k
  simp only [Bool.and_eq_true, decide_eq_true_eq]
  by_cases unsent : (t.compRec k).state = .starting ∧ t.unsent (t.compEntry k) isStart = true
  · rw [if_pos unsent, if_pos unsent, immediateStop_of_unsent unsent.1 unsent.2]
  · rw [if_neg unsent, if_neg unsent]

end

/-- Settles O26: a report by its ESD indication and the mode in force; each notice by the operations it is made of. -/
theorem lineupAndEsdReports : Obligations.LineupAndEsdReports := by
  refine ⟨?reports, ?notices, ?stops⟩
  case reports =>
    intro s f i kind present cls
    rw [examine_of_stationState kind present cls]
    refine ⟨stationReport_of_short, fun l e more payload => ?_⟩
    intro lineup recorded calm v
    obtain ⟨shut, inject, withdraw⟩ := lineupOf_iff l
    rw [payload]
    refine ⟨shut, inject, withdraw, stationReport_of_known, stationReport_of_esd, ?_⟩
    rintro rfl
    have calmed : v = recordLineup lineup s.calmed := rfl
    have mode : v.mode.mode = s.mode.mode := calmed_mode s
    rw [stationReport_of_noEsd, ← calmed, ← mode]
    refine ⟨fun phase way => ?_, fun phase way => ?_, fun lost => actLineup_of_lost lost, actLineup_of_other⟩
    · rw [show lineupOf l = .inject from way, actLineup_of_inject phase]
      rfl
    · rw [show lineupOf l = .withdraw from way, actLineup_of_withdraw phase]
      rfl
  case notices =>
    intro s m active
    refine ⟨rfl, ⟨dutyMode_of_other, dutyMode_of_shutIn⟩, ⟨dryMode_of_other, fun withdraw before => ?_⟩, rfl, ?_⟩
    · rw [dryMode_of_entry withdraw before, entersWithdraw_eq, entersWithdraw_eq]
    · unfold dutyEsd
      dsimp only
      rw [cancelUnsentStarts_eq]
  case stops =>
    intro s k r unload
    refine ⟨immediateStop_of_unsent, fun starting sent => ?_, fun running present => ?_, immediateStop_of_gone,
      immediateStop_of_idle⟩
    · rw [immediateStop_of_sent starting sent]
      have same : unload = fun x => { CompRec.unload s.now (s.compCfg k).stopConfirm x with tStart := none } := by
        funext x
        simp [unload, r, starting, CompRec.unload, Config.second]
      rw [same]
      rfl
    · rw [immediateStop_of_running running present]
      have same : unload = fun x => { CompRec.unload s.now (s.compCfg k).stopConfirm x with tMinRun := none } := by
        funext x
        simp [unload, r, running, CompRec.unload, Config.second]
      rw [same]
      rfl

end Sys2Proof.Machine

/-!
SUPPORT. What the notices of a boundary leave (R79, R85, R87, R166 to R168): the accounts and the duty controller reach no
time, mode, unit, channel or train, and no meter run but through the handover and a RUNS image.
-/

namespace Sys2Proof.Machine

/-- Station time, the mode machine, units, channels, trains and the pending STATION image are as they were. -/
structure KeepsStation (s t : State) : Prop where
  now : t.now = s.now
  resp : t.resp = s.resp
  time : t.time = s.time
  mode : t.mode = s.mode
  units : t.units = s.units
  chans : t.chans = s.chans
  dry : t.dry = s.dry
  image : t.ret.pendStation = s.ret.pendStation

/-- The meter runs, their marks, the tables and the retained store are as they were, too. -/
structure KeepsMeters (s t : State) : Prop extends KeepsStation s t where
  tables : t.tables = s.tables
  ret : t.ret = s.ret
  runs : t.runs = s.runs
  marks : t.parity.runs = s.parity.runs

section
variable {s t u : State}

theorem KeepsStation.refl (s : State) : KeepsStation s s := ⟨rfl, rfl, rfl, rfl, rfl, rfl, rfl, rfl⟩

theorem KeepsStation.trans (h : KeepsStation s t) (k : KeepsStation t u) : KeepsStation s u :=
  ⟨k.now.trans h.now, k.resp.trans h.resp, k.time.trans h.time, k.mode.trans h.mode, k.units.trans h.units,
    k.chans.trans h.chans, k.dry.trans h.dry, k.image.trans h.image⟩

theorem KeepsStation.foldl {α : Type} {f : State → α → State} (h : ∀ s a, KeepsStation s (f s a)) (l : List α) (s : State) :
    KeepsStation s (l.foldl f s) := by
  induction l generalizing s with
  | nil => exact .refl s
  | cons a l ih => exact (h s a).trans (ih _)

theorem KeepsMeters.refl (s : State) : KeepsMeters s s := ⟨.refl s, rfl, rfl, rfl, rfl⟩

theorem KeepsMeters.trans (h : KeepsMeters s t) (k : KeepsMeters t u) : KeepsMeters s u :=
  ⟨h.toKeepsStation.trans k.toKeepsStation, k.tables.trans h.tables, k.ret.trans h.ret, k.runs.trans h.runs,
    k.marks.trans h.marks⟩

theorem KeepsMeters.ite {c : Prop} [Decidable c] (h : KeepsMeters s t) (k : KeepsMeters s u) :
    KeepsMeters s (if c then t else u) := by
  split
  · exact h
  · exact k

theorem KeepsMeters.foldl {α : Type} {f : State → α → State} (h : ∀ s a, KeepsMeters s (f s a)) (l : List α) (s : State) :
    KeepsMeters s (l.foldl f s) := by
  induction l generalizing s with
  | nil => exact .refl s
  | cons a l ih => exact (h s a).trans (ih _)

/-- An operation of the duty controller or the accounts reaches no run but through a mark. -/
theorem KeepsMeters.of_frame (frame : ByDuty s t) (marks : t.parity.runs = s.parity.runs) : KeepsMeters s t :=
  ⟨⟨frame.now, frame.resp, frame.time, frame.mode, frame.units, frame.chans, frame.dry, congrArg _ frame.ret⟩,
    frame.tables, frame.ret, frame.runs, marks⟩

theorem KeepsMeters.run (h : KeepsMeters s t) (r : Nat) : t.run r = s.run r := by rw [State.run, h.runs, State.run]

end

/-! ### Events, duty and accounts -/

section
variable (s : State)

theorem occur_keepsMeters (n b : Nat) : KeepsMeters s (occur n b s) :=
  .of_frame (occur_frame n b s) (occur_parity n b s (t := .runs) (by decide))

theorem occurIf_keepsMeters (c : Bool) (n b : Nat) : KeepsMeters s (occurIf c n b s) :=
  .ite (occur_keepsMeters s n b) (.refl s)

theorem setMark_keepsMeters {t : TableId} (i : Nat) (other : t ≠ .runs) : KeepsMeters s (s.setMark t i) :=
  ⟨⟨rfl, rfl, rfl, rfl, rfl, rfl, rfl, rfl⟩, rfl, rfl, rfl, (Parity.get_put s.parity t .runs _).trans (if_neg other)⟩

theorem markEntry_keepsMeters {t : TableId} (i b : Nat) (other : t ≠ .runs) : KeepsMeters s (markEntry t i b s) := by
  rw [markEntry_eq_occur]
  exact (setMark_keepsMeters s i other).trans (occur_keepsMeters _ _ _)

theorem checkStation_keepsMeters : KeepsMeters s (checkStation s) := by
  have marked := markEntry_keepsMeters s (t := .station) 0 0 (by decide)
  refine .ite (marked.trans ?_) (.refl s)
  exact ⟨⟨rfl, rfl, rfl, rfl, rfl, rfl, rfl, rfl⟩, rfl, rfl, rfl, rfl⟩

theorem withAcct_keepsMeters (a : AcctState) : KeepsMeters s { s with acct := a } := .of_frame rfl rfl

theorem evalCore_keepsMeters : KeepsMeters s (evalCore s) :=
  .of_frame (evalCore_frame s) (congrArg Parity.runs (evalCore_parity s))

theorem checkComp_keepsMeters (k : Nat) : KeepsMeters s (checkComp k s) := by
  have mark := markEntry_keepsMeters s (t := .compressors) k k (by decide)
  refine .ite (.ite (mark.trans ?_) mark) (.refl s)
  exact .of_frame rfl rfl

theorem curtailCore_keepsMeters (just : Option Nat) : KeepsMeters s (curtailCore just s) := by
  unfold curtailCore
  dsimp only
  split
  · exact .of_frame rfl rfl
  · refine .trans ?_ (occurIf_keepsMeters _ _ _ _)
    exact .of_frame rfl rfl

theorem tellSums_keepsMeters : KeepsMeters s (tellSums s) := .of_frame rfl rfl

theorem publish_keepsMeters : KeepsMeters s (publish s) := by
  have computed : KeepsMeters s (curtailCore none { s with
      comp := { s.comp with published := s.compCapacity }
      acct := { s.acct with compCap := s.compCapacity } }) := by
    refine .trans ?_ (curtailCore_keepsMeters _ none)
    exact .of_frame rfl rfl
  exact .ite (.refl s) (.ite ((computed.trans (tellSums_keepsMeters _)).trans (evalCore_keepsMeters _)) computed)

theorem dutyEvaluation_keepsMeters : KeepsMeters s (dutyEvaluation s) := by
  have checked : KeepsMeters s (checkOrder s) := .foldl (fun t k => checkComp_keepsMeters t k) _ _
  exact (checked.trans (evalCore_keepsMeters _)).trans (publish_keepsMeters _)

theorem curtail_keepsMeters (just : Option Nat) : KeepsMeters s (curtail just s) := by
  have computed := curtailCore_keepsMeters s just
  exact .ite ((computed.trans (tellSums_keepsMeters _)).trans (dutyEvaluation_keepsMeters _)) computed

theorem reclampAll_keepsMeters : KeepsMeters s (reclampAll s) := .foldl (fun t i => .of_frame (reclamp_frame i t) rfl) _ _

theorem checkShipper_keepsMeters (i : Nat) : KeepsMeters s (checkShipper i s) := by
  have mark := markEntry_keepsMeters s (t := .shippers) i i (by decide)
  refine .ite ((mark.trans ?_).trans (curtail_keepsMeters _ none)) (.refl s)
  exact .of_frame rfl rfl

/-! ### Closes (R166 to R168) -/

theorem openGroup_keepsMeters (num : Nat) : KeepsMeters s (openGroup num s) := .ite (.refl s) (.of_frame rfl rfl)

theorem onGroup_keepsMeters (num : Nat) (f : Group → Group) : KeepsMeters s (onGroup num f s) := .of_frame rfl rfl

theorem tryAllocate_keepsMeters : KeepsMeters s (tryAllocate s) := by
  unfold tryAllocate
  repeat' split
  all_goals exact ⟨⟨rfl, rfl, rfl, rfl, rfl, rfl, rfl, rfl⟩, rfl, rfl, rfl, rfl⟩

theorem completeGroup_keepsMeters (num : Nat) : KeepsMeters s (completeGroup num s) :=
  ((openGroup_keepsMeters s num).trans (onGroup_keepsMeters _ num _)).trans (tryAllocate_keepsMeters _)

theorem beginClose_keepsMeters (n : Notice) : KeepsMeters s (beginClose n s) := by
  have checked : KeepsMeters s (checkShippers s) := .foldl (fun t i => checkShipper_keepsMeters t i) _ _
  have rolled (t : State) : KeepsMeters t (rollSlots t) := .of_frame rfl rfl
  unfold beginClose
  dsimp only
  refine ((KeepsMeters.trans ?_ (withAcct_keepsMeters _ _)).trans (curtail_keepsMeters _ none)).trans
    (tryAllocate_keepsMeters _)
  exact ((checked.trans (withAcct_keepsMeters _ _)).trans (rolled _)).trans (reclampAll_keepsMeters _)

theorem acctBoundary_keepsMeters (n : Notice) : KeepsMeters s (acctBoundary n s) := by
  have opened := openGroup_keepsMeters s n.num
  unfold acctBoundary
  dsimp only
  split
  · exact opened.trans (beginClose_keepsMeters _ n)
  · exact opened.trans (withAcct_keepsMeters _ _)

end

/-! ### The handover of every run (R65, R79) -/

section
variable (s : State)

theorem handover_keepsStation (num r : Nat) : KeepsStation s (handover num r s) := by
  have joined := (openGroup_keepsMeters s num).trans (onGroup_keepsMeters _ num (Group.take (s.run r)))
  unfold handover
  dsimp only
  split
  · exact .refl s
  · exact joined.toKeepsStation.trans ⟨rfl, rfl, rfl, rfl, rfl, rfl, rfl, rfl⟩

theorem handover_keepsBesideRuns (num r : Nat) : KeepsBesideRuns s (handover num r s) := by
  have joined := (openGroup_keepsMeters s num).trans (onGroup_keepsMeters _ num (Group.take (s.run r)))
  have events : (onGroup num (Group.take (s.run r)) (openGroup num s)).ev = s.ev := by
    unfold openGroup
    split
    · rfl
    · rfl
  unfold handover
  dsimp only
  split
  · exact .refl s
  · refine .trans ⟨?_, ?_, fun n => ?_, joined.now, joined.tables, joined.chans, joined.marks⟩ (onRun_keepsBesideRuns r _ _)
    · rw [joined.runs]
    · rw [events]
    · unfold State.source
      rw [events]
      exact id

theorem handover_run (num r : Nat) : (handover num r s).run r = (s.run r).handedOver := by
  by_cases place : r < s.runs.length
  · exact handover_run_same place
  · have unused : (s.run r).role = .unused := by
      rw [State.run, List.getD_eq_default _ _ (Nat.le_of_not_lt place)]
      rfl
    rw [handover_of_unused unused, handedOver_of_unused unused]

/-- Every run has handed over (R79). -/
def handAllOver (num : Nat) (s : State) : State := (List.range 8).foldl (fun s r => handover num r s) s

theorem handAllOver_keepsStation (num : Nat) : KeepsStation s (handAllOver num s) :=
  .foldl (fun t r => handover_keepsStation t num r) _ _

theorem handAllOver_frame (num : Nat) : ByMetering s (handAllOver num s) := .foldl (fun t r => handover_frame num r t) _ _

theorem handAllOver_run {r : Nat} (member : r < 8) (num : Nat) : (handAllOver num s).run r = (s.run r).handedOver := by
  obtain ⟨v, -, same, -, turn⟩ := foldl_range_run (f := handover num) (r := r)
    (fun i t => handover_keepsBesideRuns t num i) (fun i t other => handover_run_ne (Ne.symm other)) member s
  exact turn.trans ((handover_run v num r).trans (congrArg RunState.handedOver same))

theorem handoverAll_of_none (num : Nat) (none : s.ret.pendRuns = none) :
    handoverAll num s = completeGroup num (handAllOver num s) := by
  have still : (handAllOver num s).ret.pendRuns = .none := by rw [(handAllOver_frame s num).ret, none]
  unfold handoverAll
  dsimp only
  rw [← handAllOver, still]

theorem handoverAll_of_some (num : Nat) {img : StoredImage} (pending : s.ret.pendRuns = some img) :
    handoverAll num s = completeGroup num (runsTakeEffect img (handAllOver num s)) := by
  have still : (handAllOver num s).ret.pendRuns = some img := by rw [(handAllOver_frame s num).ret, pending]
  unfold handoverAll
  dsimp only
  rw [← handAllOver, still]

end

/-! ### A RUNS image (R65, R81, R205) -/

section
variable (img : StoredImage) (s : State)

/-- The state with the image in the place of the RUNS table. -/
def installRuns (img : StoredImage) (s : State) : State :=
  let t := (s.putCommitted .runs img).clearMarks .runs
  let t := { t with tables := t.tables.load .runs img.octets, ret := { t.ret with pendRuns := none } }
  { t with runs := t.runs.mapIdx fun r x => x.takes (s.runCfg r) (t.runCfg r) }

theorem runsTakeEffect_eq : runsTakeEffect img s = occur Src.tableCommitted noSubject (installRuns img s) := rfl

theorem runsTakeEffect_keepsMeters : KeepsMeters (installRuns img s) (runsTakeEffect img s) := by
  rw [runsTakeEffect_eq]
  exact occur_keepsMeters _ _ _

theorem installRuns_keepsStation : KeepsStation s (installRuns img s) := ⟨rfl, rfl, rfl, rfl, rfl, rfl, rfl, rfl⟩

theorem installRuns_marked (r : Nat) : (installRuns img s).marked .runs r = false := by
  have cleared := (clearMarks_spec (s.putCommitted .runs img) .runs .runs r).1
  rw [decide_eq_true rfl, Bool.not_true, Bool.and_false] at cleared
  exact cleared

variable {s} in
theorem installRuns_run {r : Nat} (place : r < s.runs.length) :
    (installRuns img s).run r = (s.run r).takes (s.runCfg r) ((installRuns img s).runCfg r) := by
  have inside : r < (installRuns img s).runs.length := by simpa [installRuns] using place
  rw [State.run, List.getD_eq_getElem _ _ inside, State.run, List.getD_eq_getElem _ _ place]
  exact List.getElem_mapIdx ..

end

theorem usedChanges_iff (old new : RunCfg) :
    old.usedChanges new = true ↔ ¬(old.role = .unused ↔ new.role = .unused) := by
  unfold RunCfg.usedChanges
  by_cases before : old.role = .unused <;> by_cases after : new.role = .unused <;> simp [before, after]

/-- What R65 says of each parameter that changes. -/
theorem takes_eq (old new : RunCfg) (x : RunState) : x.takes old new =
    let started := old.flow ≠ new.flow ∨ ¬(old.role = .unused ↔ new.role = .unused)
    { x with
      role := new.role
      mark := if started then none else x.mark
      last := if started then none else x.last
      lastP := if old.press ≠ new.press then none else x.lastP
      lastT := if old.temp ≠ new.temp then none else x.lastT
      lastH := if old.cal ≠ new.cal then none else x.lastH
      refTimer := if old.cal ≠ new.cal then none else x.refTimer
      ref := if old.cal ≠ new.cal then if new.cal = none then .ready else .none else x.ref } := by
  have start : new.refAtStart = if new.cal = none then .ready else .none := by
    unfold RunCfg.refAtStart
    cases new.cal <;> rfl
  unfold RunState.takes
  simp only [usedChanges_iff, start]
  by_cases started : old.flow ≠ new.flow ∨ ¬(old.role = .unused ↔ new.role = .unused) <;>
    by_cases press : old.press = new.press <;> by_cases temp : old.temp = new.temp <;>
    by_cases cal : old.cal = new.cal <;> simp [started, press, temp, cal]

/-! ### The notices (R85) -/

section
variable (s : State)

theorem handoverAll_keepsStation (num : Nat) : KeepsStation s (handoverAll num s) := by
  have handed := handAllOver_keepsStation s num
  cases pending : s.ret.pendRuns with
  | none =>
    rw [handoverAll_of_none s num pending]
    exact handed.trans (completeGroup_keepsMeters _ num).toKeepsStation
  | some img =>
    rw [handoverAll_of_some s num pending]
    exact (handed.trans (installRuns_keepsStation img _)).trans
      ((runsTakeEffect_keepsMeters img _).trans (completeGroup_keepsMeters _ num)).toKeepsStation

/-- The state in which the notices of a boundary are given (R85). -/
def noticing (s : State) : State := { checkStation s with time := { s.time with boundaries := s.notice.num } }

/-- The interval that begins at a boundary (R85). -/
def openInterval (start : Nat) (s : State) : State :=
  { s with time := { s.time with stepFlag := false, firstFlag := false, start := start } }

/-- The next boundary is computed afresh from a reference time (R85). -/
def withNext (t : Nat) (s : State) : State := { s with time := { s.time with next := some (s.nextFrom t) } }

/-- The notices have been given, and the next interval starts (R85). -/
def notified (s : State) : State := openInterval s.time.count (giveNotices s.notice (noticing s))

theorem raiseBoundary_eq : raiseBoundary s = withNext s.time.count (applyStation (notified s)) := by
  have time : (checkStation s).time = s.time := (checkStation_keepsMeters s).time
  have notice : (checkStation s).notice = s.notice := by
    unfold State.notice
    rw [time]
  unfold raiseBoundary
  extract_lets u n before told interval applied after
  have stop : n = s.notice := notice
  have begun : told = giveNotices s.notice (noticing s) := by
    unfold told before u
    rw [stop, time]
    rfl
  have given : applied = applyStation (openInterval n.stop told) := rfl
  have raised : withNext n.stop applied = withNext s.time.count (applyStation (notified s)) := by
    rw [given, begun, stop]
    rfl
  exact raised

/-! ### The blocks after the notices -/

theorem noticing_keepsStation : KeepsStation { s with time := { s.time with boundaries := s.notice.num } } (noticing s) :=
  have ⟨⟨now, resp, _, mode, units, chans, dry, image⟩, _, _, _, _⟩ := checkStation_keepsMeters s
  ⟨now, resp, rfl, mode, units, chans, dry, image⟩

theorem writeRunSeconds_keepsStation : KeepsStation s (writeRunSeconds s) := ⟨rfl, rfl, rfl, rfl, rfl, rfl, rfl, rfl⟩

theorem giveNotices_keepsStation (n : Notice) : KeepsStation s (giveNotices n s) :=
  ((handoverAll_keepsStation s n.num).trans (acctBoundary_keepsMeters _ n).toKeepsStation).trans
    (writeRunSeconds_keepsStation _)

/-- What a boundary leaves of the station, its own record of time apart (R85). -/
theorem notified_keepsStation : KeepsStation { s with time :=
    { s.time with boundaries := s.notice.num, stepFlag := false, firstFlag := false, start := s.time.count } }
    (notified s) := by
  have kept := (noticing_keepsStation s).trans (giveNotices_keepsStation (noticing s) s.notice)
  unfold notified
  generalize giveNotices s.notice (noticing s) = t at kept ⊢
  obtain ⟨now, resp, time, mode, units, chans, dry, image⟩ := kept
  refine ⟨now, resp, ?_, mode, units, chans, dry, image⟩
  unfold openInterval
  dsimp only
  rw [time]

/-! ### A STATION image (R87) -/

/-- The state with the image in the place of the STATION table. -/
def installStation (img : StoredImage) (s : State) : State :=
  let t := (s.putCommitted .station img).clearMarks .station
  { t with tables := t.tables.load .station img.octets, ret := { t.ret with pendStation := none } }

theorem startSweepTimer_keepsMeters : KeepsMeters s (startSweepTimer s) :=
  ⟨⟨rfl, rfl, rfl, rfl, rfl, rfl, rfl, rfl⟩, rfl, rfl, rfl, rfl⟩

theorem stationTakesEffect_eq (img : StoredImage) : stationTakesEffect img s =
    let t := sweepAfter s.stationRead.sweep (occur Src.tableCommitted noSubject (installStation img s))
    if t.tables.station.lMin = s.tables.station.lMin then t else dutyEvaluation (curtail none (reclampAll t)) := rfl

theorem stationTakesEffect_keepsMeters (img : StoredImage) :
    KeepsMeters (installStation img s) (stationTakesEffect img s) := by
  have latched := occur_keepsMeters (installStation img s) Src.tableCommitted noSubject
  have swept : KeepsMeters (installStation img s)
      (sweepAfter s.stationRead.sweep (occur Src.tableCommitted noSubject (installStation img s))) :=
    latched.trans (.ite (.refl _) (startSweepTimer_keepsMeters _))
  rw [stationTakesEffect_eq]
  refine .ite swept (((swept.trans (reclampAll_keepsMeters _)).trans (curtail_keepsMeters _ none)).trans
    (dutyEvaluation_keepsMeters _))

/-- What is left once a pending STATION image has been applied. -/
structure StationApplied (s t : State) : Prop where
  now : t.now = s.now
  resp : t.resp = s.resp
  time : t.time = s.time
  mode : t.mode = s.mode
  units : t.units = s.units
  chans : t.chans = s.chans
  dry : t.dry = s.dry
  runs : t.runs = s.runs
  marks : t.parity.runs = s.parity.runs
  runsTable : t.tables.runs = s.tables.runs
  runsImage : t.ret.pendRuns = s.ret.pendRuns
  image : t.ret.pendStation = none
  tables : s.ret.pendStation = none → t.tables = s.tables

theorem applyStation_of_some {img : StoredImage} (pending : s.ret.pendStation = some img) :
    applyStation s = stationTakesEffect img s := by
  rw [applyStation, pending]

theorem applyStation_of_none (none : s.ret.pendStation = none) : applyStation s = s := by
  rw [applyStation, none]

theorem applyStation_applied : StationApplied s (applyStation s) := by
  cases pending : s.ret.pendStation with
  | none =>
    rw [applyStation_of_none s pending]
    exact ⟨rfl, rfl, rfl, rfl, rfl, rfl, rfl, rfl, rfl, rfl, rfl, pending, fun _ => rfl⟩
  | some img =>
    rw [applyStation_of_some s pending]
    obtain ⟨⟨now, resp, time, mode, units, chans, dry, image⟩, tables, ret, runs, marks⟩ := stationTakesEffect_keepsMeters s img
    have runsTable : (stationTakesEffect img s).tables.runs = s.tables.runs := by rw [tables]; rfl
    have runsImage : (stationTakesEffect img s).ret.pendRuns = s.ret.pendRuns := by rw [ret]; rfl
    exact ⟨now, resp, time, mode, units, chans, dry, runs, marks, runsTable, runsImage, image, fun none => by rw [pending] at none; contradiction⟩

end

section
variable {s : State}

/-! ### The meter runs after a boundary (R65, R79) -/

theorem noticing_runs (s : State) : (noticing s).runs = s.runs := (checkStation_keepsMeters s).runs

theorem noticing_ret (s : State) : (noticing s).ret = s.ret := (checkStation_keepsMeters s).ret

theorem noticing_tables (s : State) : (noticing s).tables = s.tables := (checkStation_keepsMeters s).tables

theorem handAllOver_length (num : Nat) (s : State) : (handAllOver num s).runs.length = s.runs.length :=
  List.foldlRecOn _ _ (motive := fun t => t.runs.length = s.runs.length) rfl fun t same r _ =>
    (handover_keepsBesideRuns t num r).runs.trans same

theorem giveNotices_of_none {n : Notice} (none : s.ret.pendRuns = none) : ∃ u, KeepsMeters (handAllOver n.num s) u ∧
    giveNotices n s = writeRunSeconds u := by
  unfold giveNotices
  rw [handoverAll_of_none s n.num none]
  exact ⟨_, (completeGroup_keepsMeters _ _).trans (acctBoundary_keepsMeters _ _), rfl⟩

theorem giveNotices_of_some {n : Notice} {img : StoredImage} (pending : s.ret.pendRuns = some img) :
    ∃ u, KeepsMeters (installRuns img (handAllOver n.num s)) u ∧ giveNotices n s = writeRunSeconds u := by
  unfold giveNotices
  rw [handoverAll_of_some s n.num pending]
  exact ⟨_, ((runsTakeEffect_keepsMeters img _).trans (completeGroup_keepsMeters _ _)).trans (acctBoundary_keepsMeters _ _), rfl⟩

/-- With no RUNS image pending every run hands over, and the tables stay (R79). -/
theorem notified_of_none (none : s.ret.pendRuns = none) :
    (notified s).tables = s.tables ∧ ∀ r < 8, (notified s).run r = (s.run r).handedOver := by
  have free : (noticing s).ret.pendRuns = .none := by rw [noticing_ret, none]
  obtain ⟨u, kept, given⟩ := giveNotices_of_none (n := s.notice) free
  have tables : u.tables = s.tables := by rw [kept.tables, (handAllOver_frame _ _).tables, noticing_tables]
  have run {r : Nat} (member : r < 8) : u.run r = (s.run r).handedOver := by
    rw [kept.run, handAllOver_run _ member, State.run, noticing_runs, State.run]
  rw [notified, given]
  exact ⟨tables, fun r member => run member⟩

/-- A pending RUNS image takes effect for every run after its handover (R65, R81). -/
theorem notified_of_some {img : StoredImage} (pending : s.ret.pendRuns = some img) :
    (notified s).ret.pendRuns = none ∧ (notified s).tables.runs = decodeEntries .runs decodeRun img.octets ∧
      ∀ r < 8, (notified s).marked .runs r = false ∧
        (s.runs.length = 8 → (notified s).run r =
          (s.run r).handedOver.takes (s.runCfg r) ((notified s).runCfg r)) := by
  have waits : (noticing s).ret.pendRuns = some img := by rw [noticing_ret, pending]
  obtain ⟨u, kept, given⟩ := giveNotices_of_some (n := s.notice) waits
  have handed {r : Nat} (member : r < 8) : (handAllOver s.notice.num (noticing s)).run r = (s.run r).handedOver := by
    rw [handAllOver_run _ member, State.run, noticing_runs, State.run]
  have length : (handAllOver s.notice.num (noticing s)).runs.length = s.runs.length := by
    rw [handAllOver_length, noticing_runs]
  have cfg (r : Nat) : (handAllOver s.notice.num (noticing s)).runCfg r = s.runCfg r := by
    rw [State.runCfg, (handAllOver_frame _ _).tables, noticing_tables, State.runCfg]
  rw [notified, given]
  generalize handAllOver s.notice.num (noticing s) = v at kept handed length cfg
  have image : u.ret.pendRuns = none := by rw [kept.ret]; rfl
  have table : u.tables.runs = decodeEntries .runs decodeRun img.octets := by rw [kept.tables]; rfl
  have marked (r : Nat) : u.marked .runs r = false := by
    rw [marked_congr (tb := .runs) kept.marks, installRuns_marked]
  have run {r : Nat} (member : r < 8) (full : s.runs.length = 8) :
      u.run r = (s.run r).handedOver.takes (s.runCfg r) (u.runCfg r) := by
    have place : r < v.runs.length := by rw [length, full]; exact member
    have new : u.runCfg r = (installRuns img v).runCfg r := by rw [State.runCfg, kept.tables, State.runCfg]
    rw [kept.run, installRuns_run img place, handed member, cfg, new]
  exact ⟨image, table, fun r member => ⟨marked r, run member⟩⟩

/-! ### A boundary (R85, R87) -/

/-- What a boundary leaves: its own record of time, and beside it what the notices and a STATION image leave. -/
theorem raiseBoundary_applied (s : State) : ∃ w, StationApplied (notified s) w ∧
    raiseBoundary s = { w with time := { w.time with
      next := some (leastMultipleAbove s.time.count (w.tables.station.lMin * 60000)) } } :=
  ⟨_, applyStation_applied _, raiseBoundary_eq s⟩

theorem raiseBoundary_time (s : State) : (raiseBoundary s).time = { s.time with
    boundaries := s.time.boundaries + 1
    start := s.time.count
    stepFlag := false
    firstFlag := false
    next := some (leastMultipleAbove s.time.count ((raiseBoundary s).tables.station.lMin * 60000)) } := by
  obtain ⟨w, applied, raised⟩ := raiseBoundary_applied s
  have time := applied.time.trans (notified_keepsStation s).time
  rw [raised]
  dsimp only
  rw [time]
  rfl

theorem raiseBoundary_resp (s : State) : (raiseBoundary s).resp = s.resp := by
  obtain ⟨w, applied, raised⟩ := raiseBoundary_applied s
  have resp := applied.resp.trans (notified_keepsStation s).resp
  rw [raised]
  exact resp

end

end Sys2Proof.Machine

/-!
SUPPORT. SET_TIME as a request that is answered and as a broadcast that is not (R6, R88, R89), the step of station time, and
its wrap (R84).
-/

namespace Sys2Proof.Machine

section
variable {s : State} {q : Request}

/-! ### A request that may be a broadcast (R6, R196) -/

theorem requestFor_of_taken {code : Octet} {args : List Octet} (service : s.mgmt.service = some (.taken q))
    (payload : q.payload = code :: args) (known : knownRequests.contains code = true) : s.requestFor code = some q := by
  simp only [State.requestFor, State.inService, service, Option.filter_some, Request.unknown, Request.code, payload,
    List.isEmpty_cons, List.getD_cons_zero, known, Bool.not_true, Bool.or_self, Bool.not_false, decide_true, Bool.and_self,
    if_true]

theorem serve_of_taken {code : Octet} {args : List Octet} {f : List Octet → State → Reply}
    (service : s.mgmt.service = some (.taken q)) (payload : q.payload = code :: args)
    (known : knownRequests.contains code = true) (sized : args.length = requestLength code args) :
    serve code f s = .next (answerRequest q (f args s).status (f args s).result (f args s).state) := by
  unfold serve
  rw [requestFor_of_taken service payload known]
  simp [Request.wellSized, Request.args, Request.code, payload, sized]

/-- The state with its request answered, or done with and not answered when it came as a broadcast (R6). -/
def State.settled (s : State) (q : Request) (status : Status) (result : List Octet) : State :=
  if q.noResponse = true then
    { s with mgmt := { s.mgmt with waiting := s.mgmt.waiting.tail, service := s.mgmt.waiting.head?.map .taken } }
  else s.answered q status result

theorem answerRequest_of_room (room : q.noResponse = true ∨ s.resp.length < 2) (status : Status) (result : List Octet) :
    answerRequest q status result s = s.settled q status result := by
  unfold answerRequest State.settled
  split
  · exact leaveService_eq s
  next answered =>
    have free : s.resp.length < 2 := room.resolve_left answered
    simp [offerResponse, State.respRoom, free, State.answered, leaveService_eq]

/-! ### Steps of station time (R84, R89) -/

theorem timeStep_time (count : Nat) (s : State) : (timeStep count s).time = { s.time with count := count, stepFlag := true } :=
  (occur_frame _ _ _).time

theorem timeStep_tables (count : Nat) (s : State) : (timeStep count s).tables = s.tables := (occur_frame _ _ _).tables

theorem timeStep_resp (count : Nat) (s : State) : (timeStep count s).resp = s.resp := (occur_frame _ _ _).resp

theorem backwardStep_eq (count : Nat) (s : State) : backwardStep count s = { timeStep count s with
    time := { (timeStep count s).time with next := some (leastMultipleAbove count (s.tables.station.lMin * 60000)) } } := by
  have interval : (timeStep count s).nextFrom count = leastMultipleAbove count (s.tables.station.lMin * 60000) := by
    rw [State.nextFrom, State.intervalMs, State.lMin, timeStep_tables]
  unfold backwardStep
  dsimp only
  rw [interval]

theorem backwardStep_time (count : Nat) (s : State) : (backwardStep count s).time.count = count := by
  rw [backwardStep_eq]
  exact congrArg TimeState.count (timeStep_time count s)

variable {count : Nat}

theorem stepTime_of_equal (same : count = s.time.count) : stepTime count s = (.ok, s) := by
  rw [stepTime, if_pos same]

theorem stepTime_of_less (less : count < s.time.count) : stepTime count s = (.ok, backwardStep count s) := by
  rw [stepTime, if_neg (Nat.ne_of_lt less), if_pos less]

theorem stepTime_of_within (greater : s.time.count < count) (within : ∀ b, s.time.next = some b → count < b) :
    stepTime count s = (.ok, timeStep count s) := by
  unfold stepTime
  rw [if_neg (Nat.ne_of_gt greater), if_neg (Nat.lt_asymm greater)]
  refine if_neg ?_
  cases next : s.time.next with
  | none => exact Bool.false_ne_true
  | some b => exact fun crosses => Nat.not_le.mpr (within b next) (of_decide_eq_true crosses)

theorem stepTime_of_across {b : Nat} (greater : s.time.count < count) (next : s.time.next = some b) (across : b ≤ count) :
    stepTime count s = if s.acct.closing.isSome then (.closing, s) else (.ok, raiseBoundary (timeStep count s)) := by
  unfold stepTime
  rw [if_neg (Nat.ne_of_gt greater), if_neg (Nat.lt_asymm greater), next]
  exact if_pos (decide_eq_true across)

/-! ### SET_TIME (R88, R89) -/

variable {args : List Octet}

theorem setTime_of_unset (unset : s.time.unset = true) : setTime args s =
    ⟨.ok, be 6 (firstTime (fieldAt args 0 6) s).time.count, firstTime (fieldAt args 0 6) s⟩ := by
  unfold setTime
  exact if_pos unset

theorem setTime_of_ok {t : State} (set : s.time.unset = false) (stepped : stepTime (fieldAt args 0 6) s = (.ok, t)) :
    setTime args s = ⟨.ok, be 6 t.time.count, t⟩ := by
  unfold setTime
  dsimp only
  rw [set, stepped]
  rfl

theorem setTime_of_closing (set : s.time.unset = false) (closing : stepTime (fieldAt args 0 6) s = (.closing, s)) :
    setTime args s = ⟨.closing, [], s⟩ := by
  unfold setTime
  dsimp only
  rw [set, closing]
  rfl

end

theorem exec_setTime (s : State) : exec .setTime s = serve 0x10 setTime s := rfl

/-- Settles O23: the step of station time by its cases; each state that answers holds the time set and has room for its
answer. -/
theorem setTimeByCase : Obligations.SetTimeByCase := by
  intro s q args length service payload room new done stepped
  have sized : args.length = requestLength 0x10 args := length
  have settled {status : Status} {result : List Octet} {t : State} (reply : setTime args s = ⟨status, result, t⟩)
      (resp : t.resp = s.resp) : exec .setTime s = .next (done status result t) := by
    rw [exec_setTime, serve_of_taken service payload (by decide) sized, reply]
    exact congrArg _ (answerRequest_of_room (resp.symm ▸ room) status result)
  have ok {t : State} (set : s.time.unset = false) (moved : stepTime new s = (.ok, t)) (count : t.time.count = new)
      (resp : t.resp = s.resp) : exec .setTime s = .next (done .ok (be 6 new) t) := by
    rw [← count]
    exact settled (setTime_of_ok set moved) resp
  have step : timeStep new s = stepped := rfl
  have count : stepped.time.count = new := congrArg TimeState.count (timeStep_time new s)
  have resp : stepped.resp = s.resp := timeStep_resp new s
  have raised (t : State) : (raiseBoundary t).time.count = t.time.count := by rw [raiseBoundary_time]
  refine ⟨fun unset => ?first, fun set same => ?equal, fun set less => ?less, fun set greater within => ?within,
    fun b set greater next across => ⟨fun idle => ?across, fun closing => ?refused⟩⟩
  case first =>
    have reply := setTime_of_unset (args := args) unset
    rw [firstTime, raised] at reply
    exact settled reply (raiseBoundary_resp _)
  case equal => exact ok set (stepTime_of_equal same) same.symm rfl
  case less =>
    have back := stepTime_of_less less
    have held := backwardStep_time new s
    rw [backwardStep_eq, step] at back held
    exact ok set back held resp
  case within => exact ok set (stepTime_of_within greater within) count resp
  case across =>
    have moved := stepTime_of_across greater next across
    rw [idle, step] at moved
    exact ok set moved ((raised stepped).trans count) ((raiseBoundary_resp stepped).trans resp)
  case refused =>
    have moved := stepTime_of_across greater next across
    rw [if_pos (Option.isSome_iff_ne_none.mpr closing)] at moved
    exact settled (setTime_of_closing set moved) rfl

end Sys2Proof.Machine

/-!
SUPPORT. Boundaries and the wrap of station time as their commands take them (R84, R85, R87).
-/

namespace Sys2Proof.Machine

section
variable {s : State}

/-! ### The wrap of station time (R84) -/

theorem exec_timeWrap (s : State) :
    exec .timeWrap s = .next (if Config.timeModulus ≤ s.time.count then wrapTime s else s) := rfl

theorem exec_timeWrap_of_below (below : s.time.count < 2 ^ 48) : exec .timeWrap s = .next s := by
  rw [exec_timeWrap, if_neg (Nat.not_le.mpr below)]

theorem exec_timeWrap_of_full (full : s.time.count = 2 ^ 48) : exec .timeWrap s = .next
    (if s.time.unset then { s with time := { s.time with count := 0 } } else backwardStep 0 s) := by
  have wrapped : s.time.count - Config.timeModulus = 0 := by rw [full]; rfl
  rw [exec_timeWrap, if_pos (Nat.le_of_eq full.symm), wrapTime, wrapped]

theorem leastMultipleAbove_zero (step : Nat) : leastMultipleAbove 0 step = step := by
  rw [leastMultipleAbove, Nat.zero_div, Nat.zero_add, Nat.one_mul]

/-! ### A boundary (R85) -/

theorem exec_boundary (s : State) : exec .boundary s = .next (if s.boundaryDue then raiseBoundary s else s) := rfl

theorem boundaryDue_iff (s : State) : s.boundaryDue = true ↔
    s.time.unset = false ∧ s.time.count < 2 ^ 48 ∧ ∃ b, s.time.next = some b ∧ b ≤ s.time.count := by
  unfold State.boundaryDue
  cases s.time.next <;> simp [Config.timeModulus, and_assoc]

/-- The interval that begins, and the next boundary by the interval length then in effect. -/
theorem raiseBoundary_leaves (s : State) : (raiseBoundary s).mode = s.mode ∧ (raiseBoundary s).units = s.units ∧
    (raiseBoundary s).chans = s.chans ∧ (raiseBoundary s).dry = s.dry ∧ (raiseBoundary s).now = s.now ∧
    (raiseBoundary s).ret.pendStation = none := by
  obtain ⟨w, applied, raised⟩ := raiseBoundary_applied s
  have kept := notified_keepsStation s
  rw [raised]
  exact ⟨applied.mode.trans kept.mode, applied.units.trans kept.units, applied.chans.trans kept.chans,
    applied.dry.trans kept.dry, applied.now.trans kept.now, applied.image⟩

theorem raiseBoundary_of_noRuns (free : s.ret.pendRuns = none) :
    (∀ r < 8, (raiseBoundary s).run r = (s.run r).handedOver) ∧
      (s.ret.pendStation = none → (raiseBoundary s).tables = s.tables) := by
  obtain ⟨w, applied, raised⟩ := raiseBoundary_applied s
  obtain ⟨tables, runs⟩ := notified_of_none free
  rw [raised]
  refine ⟨fun r member => ?_, fun noStation => ?_⟩
  · have same : w.run r = (notified s).run r := by rw [State.run, applied.runs, State.run]
    exact same.trans (runs r member)
  · exact (applied.tables ((notified_keepsStation s).image.trans noStation)).trans tables

theorem raiseBoundary_of_runs {img : StoredImage} (pending : s.ret.pendRuns = some img) :
    (raiseBoundary s).ret.pendRuns = none ∧
      (raiseBoundary s).tables.runs = decodeEntries .runs decodeRun img.octets ∧
      ∀ r < 8, (raiseBoundary s).marked .runs r = false ∧ (s.runs.length = 8 → (raiseBoundary s).run r =
        (s.run r).handedOver.takes (s.runCfg r) ((raiseBoundary s).runCfg r)) := by
  obtain ⟨w, applied, raised⟩ := raiseBoundary_applied s
  obtain ⟨image, table, runs⟩ := notified_of_some pending
  have cfg (r : Nat) : w.runCfg r = (notified s).runCfg r := by rw [State.runCfg, applied.runsTable, State.runCfg]
  have run (r : Nat) : w.run r = (notified s).run r := by rw [State.run, applied.runs, State.run]
  have marked (r : Nat) : w.marked .runs r = (notified s).marked .runs r := marked_congr (tb := .runs) applied.marks r
  have leaves : w.ret.pendRuns = none ∧ w.tables.runs = decodeEntries .runs decodeRun img.octets ∧
      ∀ r < 8, w.marked .runs r = false ∧ (s.runs.length = 8 → w.run r =
        (s.run r).handedOver.takes (s.runCfg r) (w.runCfg r)) := by
    refine ⟨applied.runsImage.trans image, by rw [applied.runsTable, table], fun r member => ?_⟩
    rw [marked, run, cfg]
    exact runs r member
  rw [raised]
  exact leaves

end

/-- The duty controller writes all run seconds, and the next interval starts (R85, R130). -/
theorem notified_eq {s told : State} (h : acctBoundary s.notice (handoverAll s.notice.num (noticing s)) = told) :
    notified s = { told with
      ret := { told.ret with runSeconds := told.comp.recs.map (·.runSec) }
      time := { told.time with stepFlag := false, firstFlag := false, start := s.time.count } } := by
  unfold notified giveNotices
  rw [h]
  rfl

theorem installStation_eq (img : StoredImage) (s : State) : installStation img s = { s with
    tables := s.tables.load .station img.octets
    parity := s.parity.put .station ((s.parity.get .station).map fun _ => EntryParity.sound)
    ret := { s.ret with committed := s.ret.committed.put .station (some img), pendStation := none } } := rfl

theorem sweepAfter_eq (before : Nat) (s : State) : sweepAfter before s =
    if s.stationRead.sweep = before then s
    else { s with engine := { s.engine with sweepDue := startTimer s.now (s.stationRead.sweep * 1000) } } := rfl

/-- Settles O22: the wrap by its cases, and a boundary as the checks, the notices and a STATION image in their order. -/
theorem boundariesAndTimeWrap : Obligations.BoundariesAndTimeWrap := by
  refine ⟨?commands, ?whole⟩
  case commands =>
    intro s
    refine ⟨exec_timeWrap_of_below, fun full unset => ?wrapUnset, fun full set => ?wrapSet, fun due free => ?noRuns,
      fun img due pending length => ?runs, boundaryDue_iff s, fun due => ?due, fun not => ?notDue⟩
    case wrapUnset => rw [exec_timeWrap_of_full full, if_pos unset]
    case wrapSet =>
      have step : timeStep 0 s = occur Src.timeStep noSubject { s with time := { s.time with count := 0, stepFlag := true } } :=
        rfl
      rw [exec_timeWrap_of_full full, set, if_neg Bool.false_ne_true, backwardStep_eq, leastMultipleAbove_zero, step]
    case due => rw [exec_boundary, if_pos due]
    case notDue => rw [exec_boundary, not, if_neg Bool.false_ne_true]
    case noRuns =>
      obtain ⟨runs, tables⟩ := raiseBoundary_of_noRuns free
      obtain ⟨mode, units, chans, dry, now, image⟩ := raiseBoundary_leaves s
      exact ⟨raiseBoundary s, by rw [exec_boundary, if_pos due], raiseBoundary_time s, runs, mode, units, chans, dry, now,
        image, tables⟩
    case runs =>
      obtain ⟨image, table, runs⟩ := raiseBoundary_of_runs pending
      refine ⟨raiseBoundary s, by rw [exec_boundary, if_pos due], image, table, fun r member => ?_⟩
      obtain ⟨marked, taken⟩ := runs r member
      refine ⟨marked, (taken length).trans (takes_eq _ _ _)⟩
  case whole =>
    intro s x w n begun told given onward
    have checked : checkStation s = w := checkStation_eq s
    have begins : noticing s = begun := by
      unfold noticing
      rw [checked]
      rfl
    have tells : acctBoundary s.notice (handoverAll s.notice.num (noticing s)) = told := by
      rw [begins]
      rfl
    have gives : notified s = given := notified_eq tells
    have next (y : State) : withNext s.time.count y = onward y := rfl
    have raised : raiseBoundary s = onward (applyStation given) := by rw [raiseBoundary_eq, gives, next]
    have pendRuns : begun.ret = s.ret := begins ▸ noticing_ret s
    have pendStation : given.ret.pendStation = s.ret.pendStation := gives ▸ (notified_keepsStation s).image
    refine ⟨fun free => handoverAll_of_none _ _ (pendRuns.symm ▸ free), fun free => ?_, fun img pending => ?_⟩
    · rw [raised, applyStation_of_none given (pendStation.trans free)]
    · intro latched swept
      have installed : occur Src.tableCommitted noSubject (installStation img given) = latched := by
        rw [installStation_eq]
      have restarted : sweepAfter given.stationRead.sweep latched = swept := sweepAfter_eq _ _
      rw [raised, applyStation_of_some given (pendStation.trans pending), stationTakesEffect_eq, installed]
      dsimp only
      rw [restarted]

end Sys2Proof.Machine

/-!
SUPPORT. What READ_STATUS, READ_CHANNEL and READ_PEAKS show (R58 to R60, R100, R199).
-/

namespace Sys2Proof.Machine

/-! ### READ_STATUS (R100, R199) -/

theorem mode_result (m : Mode) : m.result =
    match m with
    | .shutIn => [0, 0, 0, 0, 0]
    | .inject => [1, 0, 0, 0, 0]
    | .withdraw => [2, 0, 0, 0, 0]
    | .transition d p => [3, 1] ++ be 1 d.code ++ [1] ++ be 1 p.code := by
  cases m with
  | shutIn | inject | withdraw => rfl
  | transition d p => cases d <;> cases p <;> rfl

theorem committing_eq (s : State) : s.committing =
    match s.mgmt.service with
    | some (.committing _) => true
    | _ => false := by
  unfold State.committing
  split <;> simp_all

theorem loadStatus_eq (l : Option Load) : loadStatus l =
    match l with
    | none => 0 :: be 7 0
    | some l => 1 :: be 1 l.table.code ++ be 2 l.length ++ be 2 (l.written.countP id) ++ be 2 l.crc.toNat := by
  cases l <;> rfl

theorem tableStatus_flatten (s : State) : (TableId.all.map s.tableStatus).flatten = [TableId.link, .units, .channels,
    .filters, .runs, .station, .compressors, .dryers, .shippers, .events].flatMap fun t =>
      beFlag (s.ret.committed.get t).isSome ++ beFlag (s.ret.pendingOf t).isSome ++
        be 1 ((s.parity.get t).countP (·.mark)) := rfl

theorem readStatus_eq (args : List Octet) (s : State) : readStatus args s = ⟨.ok, s.timeStatus ++ s.partStatus, s⟩ := rfl

theorem exec_readStatus (s : State) : exec .readStatus s = serve 0x01 readStatus s := rfl

/-! ### Span fractions (R58) -/

/-- Rounding half up: the result is the one integer within half a unit of the quotient, the upper one at a tie. -/
theorem roundHalfUp_bounds (num : Int) {den : Nat} (positive : 0 < den) :
    2 * (den : Int) * roundHalfUp num den ≤ 2 * num + den ∧ 2 * num + den < 2 * (den : Int) * (roundHalfUp num den + 1) := by
  have twice : 0 < 2 * (den : Int) := by omega
  exact ⟨Int.mul_ediv_self_le twice.ne', Int.lt_mul_ediv_self_add twice |>.trans_eq (by rw [roundHalfUp]; ring)⟩

section
variable {c : ChannelCfg} {v : Int}

theorem spanFraction_bounds (range : c.engMin < c.engMax) :
    2 * (c.engMax - c.engMin) * spanFraction c v ≤ 2 * ((v - c.engMin) * 32767) + (c.engMax - c.engMin) ∧
      2 * ((v - c.engMin) * 32767) + (c.engMax - c.engMin) < 2 * (c.engMax - c.engMin) * (spanFraction c v + 1) := by
  have width : ((c.engMax - c.engMin).toNat : Int) = c.engMax - c.engMin := Int.toNat_of_nonneg (by omega)
  have bounds := roundHalfUp_bounds ((v - c.engMin) * 32767) (den := (c.engMax - c.engMin).toNat) (by omega)
  rwa [width] at bounds

/-- A value within the engineering range has a fraction within the span. -/
theorem spanFraction_mem (range : c.engMin < c.engMax) (low : c.engMin ≤ v) (high : v ≤ c.engMax) :
    0 ≤ spanFraction c v ∧ spanFraction c v ≤ 32767 := by
  obtain ⟨below, above⟩ := spanFraction_bounds (v := v) range
  have within : v - c.engMin ≤ c.engMax - c.engMin := by omega
  have inside : 0 ≤ v - c.engMin := by omega
  have width : 0 < c.engMax - c.engMin := by omega
  generalize c.engMax - c.engMin = w at *
  refine ⟨?_, ?_⟩
  · have positive : 0 < 2 * w * (spanFraction c v + 1) := by omega
    have : 0 < spanFraction c v + 1 := pos_of_mul_pos_right positive (by omega)
    omega
  · have most : 2 * w * spanFraction c v < 2 * w * 32768 := by omega
    have : spanFraction c v < 32768 := lt_of_mul_lt_mul_left most (by omega)
    omega

end

/-! ### READ_CHANNEL and READ_PEAKS (R37, R58 to R60) -/

section
variable {s : State} {ch : Nat}

theorem reported_of_engineering (plain : s.reportsSpan ch = false) (v : Option Int) : s.reported ch v = beOptInt 4 v :=
  if_neg (by simp [plain])

theorem reported_of_span (span : s.reportsSpan ch = true) (v : Option Int) :
    s.reported ch v = beOptInt 2 (v.map (spanFraction (s.chCfg ch))) := if_pos span

theorem reportsSpan_of_marked (mark : s.marked .channels ch = true) : s.reportsSpan ch = false := by
  simp [State.reportsSpan, mark]

variable {b : Octet}

theorem readChannelRequest_of_channel (valid : b.toNat ≤ 63) : readChannelRequest [b] s =
    ⟨.ok, (useChannel b.toNat s).channelResult b.toNat, useChannel b.toNat s⟩ := by
  rw [readChannelRequest, fieldAt_single, if_neg (by omega)]

theorem readChannelRequest_of_none (invalid : 63 < b.toNat) : readChannelRequest [b] s = ⟨.badArgument, [], s⟩ := by
  rw [readChannelRequest, fieldAt_single, if_pos invalid, refuse]

theorem readPeaks_of_channel (valid : b.toNat ≤ 63) : readPeaks [b] s =
    let u := useChannel b.toNat s
    ⟨.ok, u.reported b.toNat (u.peakShown b.toNat (u.chan b.toNat).peakMax) ++
      u.reported b.toNat (u.peakShown b.toNat (u.chan b.toNat).peakMin), clearPeaks b.toNat u⟩ := by
  rw [readPeaks, fieldAt_single, if_neg (by omega)]

theorem readPeaks_of_none (invalid : 63 < b.toNat) : readPeaks [b] s = ⟨.badArgument, [], s⟩ := by
  rw [readPeaks, fieldAt_single, if_pos invalid, refuse]

theorem useChannel_peaks (ch : Nat) (s : State) : ((useChannel ch s).chan ch).peakMax = (s.chan ch).peakMax ∧
    ((useChannel ch s).chan ch).peakMin = (s.chan ch).peakMin := by
  rw [useChannel_chan]
  split <;> exact ⟨rfl, rfl⟩

/-- A use that finds the entry bad reports in engineering units at once (R58). -/
theorem useChannel_reported_of_bad (bad : s.foundBad .channels ch = true) (v : Option Int) :
    (useChannel ch s).reported ch ((useChannel ch s).peakShown ch v) =
      beOptInt 4 (if (s.chCfg ch).inUse then v else none) := by
  rw [reported_of_engineering (reportsSpan_of_marked (useChannel_marked (.inl bad))), State.peakShown, useChannel_chCfg]

end

theorem exec_readChannel (s : State) : exec .readChannel s = serve 0x02 readChannelRequest s := rfl

theorem exec_readPeaks (s : State) : exec .readPeaks s = serve 0x03 readPeaks s := rfl

/-- Settles O17: what each read shows, over the state its check of the entry leaves. -/
theorem statusAndChannelReads : Obligations.StatusAndChannelReads := by
  refine ⟨fun _ _ _ _ => ⟨rfl, rfl, rfl, rfl, rfl⟩, fun s => ?shown, fun s ch => ⟨rfl, fun v =>
    ⟨(reported_of_engineering · v), (reported_of_span · v)⟩⟩, fun c v range => ?fraction, fun s q b => ⟨fun asks => ?status,
      fun asks => ?channel, fun asks => ?peaks⟩⟩
  case shown =>
    intro left mode load committing
    have modeShown : s.mode.mode.result = mode := mode_result s.mode.mode
    have loadShown : loadStatus s.mgmt.load = load := loadStatus_eq s.mgmt.load
    have commitShown : s.committing = committing := committing_eq s
    constructor
    · rw [State.timeStatus, modeShown]
      rfl
    · unfold State.partStatus
      rw [loadShown, commitShown, tableStatus_flatten]
      rfl
  case fraction =>
    obtain ⟨below, above⟩ := spanFraction_bounds (v := v) range
    exact ⟨below, above, spanFraction_mem range⟩
  case status =>
    rw [exec_readStatus, serve_of_asks_same asks (by decide) rfl (readStatus_eq _ _)]
  case channel =>
    rw [exec_readChannel]
    have served := serve_of_asks (f := readChannelRequest) asks (by decide) rfl
    refine ⟨fun valid sound => ?sound, fun valid bad => ⟨?bad, fun place => ?found⟩, fun invalid => ?refused⟩
    case sound =>
      rw [served, readChannelRequest_of_channel valid, useChannel_of_sound sound]
      exact congrArg _ (answerRequest_of_asks asks _ _)
    case bad => rw [served, readChannelRequest_of_channel valid]
    case found =>
      rw [useChannel_chan, if_pos ⟨bad, rfl, place⟩]
      rfl
    case refused => exact serve_of_asks_same asks (by decide) rfl (readChannelRequest_of_none invalid)
  case peaks =>
    rw [exec_readPeaks]
    have served := serve_of_asks (f := readPeaks) asks (by decide) rfl
    refine ⟨fun valid sound => ?_, fun valid bad => ?_, fun invalid => ?_⟩
    · rw [served, readPeaks_of_channel valid, useChannel_of_sound sound]
      have cleared : (clearPeaks b.toNat s).Asks q 0x03 [b] := asks
      exact congrArg _ (answerRequest_of_asks cleared _ _)
    · obtain ⟨most, least⟩ := useChannel_peaks b.toNat s
      rw [served, readPeaks_of_channel valid]
      dsimp only
      rw [useChannel_reported_of_bad bad, useChannel_reported_of_bad bad, most, least, clearPeaks]
    · exact serve_of_asks_same asks (by decide) rfl (readPeaks_of_none invalid)

end Sys2Proof.Machine

/-!
SUPPORT. One millisecond on an empty queue: the record each clock leaves, and the list of the events then due, each well
formed (log entries 2 and 3).
-/

namespace Sys2Proof.Machine

/-! ### What a millisecond advances (R74, R84, R130, R139, R146, R147) -/

theorem getD_mapIdx_of_lt {α β : Type} (f : Nat → α → β) {l : List α} {i : Nat} (place : i < l.length) (d : α) (e : β) :
    (l.mapIdx f).getD i e = f i (l.getD i d) := by
  simp [List.getD_eq_getElem?_getD, List.getElem?_mapIdx, List.getElem?_eq_getElem place]

section
variable (s : State)

theorem tick_compRec {k : Nat} (place : k < s.comp.recs.length) :
    (tick s).compRec k = if s.accrues k (s.compRec k) then (s.compRec k).accrue else s.compRec k :=
  getD_mapIdx_of_lt _ place _ _

theorem tick_train {i : Nat} (place : i < s.dry.trains.length) :
    (tick s).train i = (s.train i).advance s.withdrawing (s.dryerCfg i).adsorbMax := getD_mapIdx_of_lt _ place _ _

theorem tick_run {r : Nat} (place : r < s.runs.length) : (tick s).run r = (s.run r).holdTimer (s.marked .runs r) :=
  getD_mapIdx_of_lt _ place _ _

theorem accrues_iff (k : Nat) : s.accrues k (s.compRec k) = true ↔
    (s.compCfg k).inUse = true ∧ (s.unit (s.compRec k).entry).attach = .present ∧
      (s.compRec k).lastReport = some .running := by
  simp [State.accrues, State.compInUse, State.present, and_assoc]

end

theorem leaving_eq (t : Train) (bd : BedId) : t.leaving bd = t.switch.any fun op => decide (op.outgoing = some bd) := by
  unfold Train.leaving
  cases t.switch <;> rfl

theorem advance_bed (withdrawing leaving : Bool) (most : Nat) (x : Bed) : x.advance (withdrawing && !leaving) most =
    { x with
      adsorbMs := if decide (x.state = .adsorbing) && withdrawing && !leaving && !x.adsorbDone &&
        decide (x.adsorbMs < most * 1000) then x.adsorbMs + 1 else x.adsorbMs
      heatMs := if x.state = .heating then x.heatMs + 1 else x.heatMs
      coolMs := if x.state = .cooling then x.coolMs + 1 else x.coolMs } := by
  obtain ⟨state, loading, report, adsorbMs, heatMs, coolMs, adsorbDone, heatDone⟩ := x
  cases state
  case adsorbing =>
    simp only [Bed.advance, decide_true, Bool.true_and, reduceCtorEq, if_false]
    split <;> rfl
  all_goals rfl

/-! ### What is then due -/

theorem fires_eq_any (now : Nat) (timer : Option Nat) : fires now timer = timer.any fun e => decide (e ≤ now) := by
  cases timer <;> rfl

theorem tick_pending (s : State) : (tick s).pending = (tick s).due := rfl

section
variable (s : State)

theorem boundaryDue_eq_any : s.boundaryDue = (!s.time.unset && decide (s.time.count < 2 ^ 48) &&
    s.time.next.any fun e => decide (e ≤ s.time.count)) := by
  unfold State.boundaryDue
  cases s.time.next <;> rfl

theorem ageDue_eq_any (ch : Nat) : s.ageDue ch =
    (s.chan ch).ageStart.any fun a => decide (a + (s.chCfg ch).maxAge * 1000 ≤ s.now) := by
  unfold State.ageDue
  cases (s.chan ch).ageStart <;> rfl

theorem waitingSet_nonempty : (!s.waitingSet.isEmpty) =
    (List.range 64).any fun ch => decide ((s.chan ch).request = .waiting) := by
  rw [Bool.eq_iff_iff]
  simp [State.waitingSet, List.filter_eq_nil_iff]

theorem adsorbDue_eq_any (i : Nat) : s.adsorbDue i =
    (allBeds.find? fun bd => decide (((s.train i).bed bd).state = .adsorbing)).any fun bd =>
      !(s.train i).held && !((s.train i).bed bd).adsorbDone &&
        decide ((s.dryerCfg i).adsorbMax * 1000 ≤ ((s.train i).bed bd).adsorbMs) := by
  unfold State.adsorbDue Train.adsorbing
  cases allBeds.find? _ <;> rfl

theorem valveDue_isSome (i : Nat) (phase : SwitchPhase) : (s.valveDue i phase).isSome =
    (s.train i).switch.any fun op => decide (op.phase = phase) && decide (op.valve ≤ s.now) := by
  rw [State.valveDue]
  cases (s.train i).switch with
  | none => rfl
  | some op => rw [Option.isSome_filter]

section
variable (i : Nat) (bd : BedId)

theorem heatDue_eq : s.heatDue i bd = (!(s.train i).held &&
    (decide (((s.train i).bed bd).state = .heating) && !((s.train i).bed bd).heatDone &&
      decide ((s.dryerCfg i).heat * 1000 ≤ ((s.train i).bed bd).heatMs))) := by
  rw [State.heatDue, Bool.and_assoc, Bool.and_assoc, Bool.and_assoc]

theorem heatMaxReached_eq : s.heatMaxReached i bd = (!(s.train i).held &&
    (decide (((s.train i).bed bd).state = .heating) &&
      decide ((s.dryerCfg i).heatMax * 1000 ≤ ((s.train i).bed bd).heatMs))) := Bool.and_assoc _ _ _

theorem coolDue_eq : s.coolDue i bd = (!(s.train i).held &&
    (decide (((s.train i).bed bd).state = .cooling) &&
      decide ((s.dryerCfg i).cool * 1000 ≤ ((s.train i).bed bd).coolMs))) := Bool.and_assoc _ _ _

end

end

/-! ### The row of a request (R196, R215) -/

/-- The requests by their codes. -/
def requestRows : List (Nat × Instr) := [(0x01, .readStatus), (0x02, .readChannel), (0x03, .readPeaks), (0x04, .readRun),
  (0x05, .readUnit), (0x06, .readCompressor), (0x07, .readDryer), (0x08, .readShipper), (0x09, .readClose),
  (0x0A, .readEvents), (0x0B, .readTable), (0x10, .setTime), (0x11, .setMode), (0x18, .rotate), (0x19, .resetUnit),
  (0x1A, .setUnitManual), (0x1B, .setUnitAuto), (0x20, .releaseUnit), (0x28, .holdTrain), (0x29, .resumeTrain),
  (0x2A, .forceSwitch), (0x2B, .returnBed), (0x30, .sweep), (0x38, .nominate), (0x39, .transfer),
  (0x40, .clearEvents), (0x41, .forceEvent), (0x48, .restart), (0x50, .loadBegin), (0x51, .loadData),
  (0x52, .loadCommit), (0x53, .loadAbort)]

/-- The row of a code; UNKNOWN_REQUEST where there is none. -/
def rowOfCode (n : Nat) : Instr := ((requestRows.find? fun p => decide (p.1 = n)).map Prod.snd).getD .unknownRequest

/-- A request with this code alone. -/
def Request.bare (code : Octet) : Request := ⟨⟨0, 0⟩, ⟨0, 0⟩, 0, [code], false⟩

theorem requestRow_bare : ∀ code ∈ knownRequests, requestRow (.bare code) = rowOfCode code.toNat := by decide

theorem rowOfCode_of_unknown {code : Octet} (unknown : code ∉ knownRequests) : rowOfCode code.toNat = .unknownRequest := by
  have codes : requestRows.map Prod.fst = knownRequests.map (·.toNat) := by decide
  have absent : requestRows.find? (fun p => decide (p.1 = code.toNat)) = none := by
    rw [List.find?_eq_none]
    intro p row same
    have listed : code.toNat ∈ knownRequests.map (·.toNat) := by
      rw [← codes, ← of_decide_eq_true same]
      exact List.mem_map_of_mem row
    obtain ⟨c, known, value⟩ := List.mem_map.mp listed
    exact unknown (BitVec.eq_of_toNat_eq value ▸ known)
  rw [rowOfCode, absent]
  rfl

theorem requestRow_eq (q : Request) : requestRow q = rowOfCode q.code.toNat := by
  by_cases known : q.code ∈ knownRequests
  · have named : q.unknown = false := by
      have payload : q.payload ≠ [] := by
        intro empty
        rw [Request.code, empty] at known
        exact absurd known (by decide)
      simp [Request.unknown, known, payload]
    have bare : (Request.bare q.code).unknown = false := by simpa [Request.unknown, Request.bare, Request.code] using known
    rw [← requestRow_bare q.code known]
    simp only [requestRow, named, bare, Bool.false_eq_true, if_false]
    rfl
  · rw [rowOfCode_of_unknown known, requestRow, if_pos (by simp [Request.unknown, known])]

theorem dueRequest_eq (s : State) : s.dueRequest =
    match s.mgmt.service with
    | some (.taken q) => [rowOfCode q.code.toNat]
    | _ => [] := by
  unfold State.dueRequest State.inService
  split <;> simp_all [requestRow_eq]

/-! ### Every event that waits names something the part has -/

/-- Every command of the list names something the part has. -/
def AllWellFormed (l : List Instr) : Prop := ∀ c ∈ l, c.wellFormed = true

theorem allWellFormed_append {l m : List Instr} (left : AllWellFormed l) (right : AllWellFormed m) : AllWellFormed (l ++ m) :=
  List.forall_mem_append.mpr ⟨left, right⟩

theorem allWellFormed_dueIf {p : Bool} {c : Instr} (named : c.wellFormed = true) : AllWellFormed (dueIf p c) := by
  unfold dueIf
  cases p
  · exact nofun
  · exact fun d only => List.mem_singleton.mp only ▸ named

theorem allWellFormed_dueOf {α : Type} {l : List α} {p : α → Bool} {f : α → Instr}
    (named : ∀ a ∈ l, (f a).wellFormed = true) : AllWellFormed (dueOf l p f) := by
  intro c waits
  obtain ⟨a, chosen, rfl⟩ := List.mem_map.mp waits
  exact named a (List.mem_of_mem_filter chosen)

theorem rowOfCode_wellFormed (n : Nat) : (rowOfCode n).wellFormed = true := by
  have rows : ∀ p ∈ requestRows, p.2.wellFormed = true := by decide
  unfold rowOfCode
  cases row : requestRows.find? fun p => decide (p.1 = n) with
  | none => rfl
  | some p => exact rows p (List.mem_of_find?_eq_some row)

section
variable (s : State)

theorem dueRequest_wellFormed : AllWellFormed s.dueRequest := by
  intro c waits
  obtain ⟨q, -, rfl⟩ := List.mem_map.mp waits
  rw [requestRow_eq]
  exact rowOfCode_wellFormed _

theorem allWellFormed_range {n : Nat} {p : Nat → Bool} {f : Nat → Instr} (named : ∀ i < n, (f i).wellFormed = true) :
    AllWellFormed (dueOf (List.range n) p f) := allWellFormed_dueOf fun i member => named i (List.mem_range.mp member)

theorem dueTime_wellFormed : AllWellFormed s.dueTime := by
  refine allWellFormed_append (allWellFormed_append (allWellFormed_append (allWellFormed_append (allWellFormed_append
    ?silence ?interval) ?age) ?sweep) ?engine) ?stale
  case silence | interval | age | stale => exact allWellFormed_range fun _ => decide_eq_true
  case sweep | engine => exact allWellFormed_dueIf rfl

theorem dueDuty_wellFormed : AllWellFormed s.dueDuty := by
  refine allWellFormed_append (allWellFormed_append (allWellFormed_append (allWellFormed_append (allWellFormed_append
    (allWellFormed_append (allWellFormed_append ?quiet ?rundown) ?lineup) ?start) ?minimumRun) ?stop) ?cooldown) ?mark
  case quiet | rundown | lineup => exact allWellFormed_dueIf rfl
  case start | minimumRun | stop | cooldown | mark => exact allWellFormed_range fun _ => decide_eq_true

theorem dueDrying_wellFormed : AllWellFormed s.dueDrying := by
  refine allWellFormed_append (allWellFormed_append (allWellFormed_append (allWellFormed_append (allWellFormed_append
    ?adsorb ?opening) ?releasing) ?heat) ?short) ?cool
  case adsorb | opening | releasing => exact allWellFormed_range fun _ => decide_eq_true
  case heat | short | cool => exact allWellFormed_dueOf (by decide)

theorem due_wellFormed : AllWellFormed s.due := by
  refine allWellFormed_append (allWellFormed_append (allWellFormed_append (allWellFormed_append (allWellFormed_append
    (allWellFormed_append ?wrap ?boundary) (dueRequest_wellFormed s)) (dueTime_wellFormed s)) (dueDuty_wellFormed s))
    (dueDrying_wellFormed s)) (allWellFormed_append ?portS ?portF)
  all_goals exact allWellFormed_dueIf rfl

end

/-- Settles O2: each record by its own clock, and the list of the events then due row by row. -/
theorem emptyQueuePassesMillisecond : Obligations.EmptyQueuePassesMillisecond := by
  intro s idle
  have passes : step s = .next (tick s) := by rw [step, idle]
  refine ⟨tick s, passes, rfl, fun k place => ?comp, fun i place => ?train, fun r place => ?run, ?due, ?wellFormed⟩
  case comp =>
    rw [tick_compRec s place]
    have condition := accrues_iff s k
    refine ⟨fun counts young => ?_, fun counts full => ?_, fun still => ?_⟩
    · rw [if_pos (condition.mpr counts), CompRec.accrue, if_pos young]
    · rw [if_pos (condition.mpr counts), CompRec.accrue, if_neg (Nat.not_lt.mpr full)]
    · rw [if_neg (still ∘ condition.mp)]
  case train =>
    rw [tick_train s place, Train.advance]
    refine ⟨fun held => if_pos held, fun free => ?_⟩
    rw [if_neg (by simp [free])]
    simp only [advance_bed, leaving_eq]
    rfl
  case run =>
    rw [tick_run s place, RunState.holdTimer]
    exact ⟨fun mark => if_pos mark, fun sound => if_neg (by simp [sound])⟩
  case wellFormed =>
    rw [tick_pending]
    exact due_wellFormed _
  case due =>
    intro one each beds by_ valve rows asked
    rw [tick_pending]
    have request : (tick s).dueRequest = asked := dueRequest_eq (tick s)
    have age := funext (ageDue_eq_any (tick s))
    have adsorb := funext (adsorbDue_eq_any (tick s))
    rw [State.due, request, State.dueBoundary, boundaryDue_eq_any]
    simp only [State.dueTime, State.dueDuty, State.dueDrying, fires_eq_any, waitingSet_nonempty, age, adsorb, valveDue_isSome]
    simp only [heatDue_eq, heatMaxReached_eq, coolDue_eq]
    rfl

end Sys2Proof.Machine

/-!
SUPPORT. Updates of one duty record, the stop that is taken (R111), and the timers of a duty record (R108, R110 to R113).
-/

namespace Sys2Proof.Machine

/-! ### Updates of one record -/

theorem modify_congr_getD {α : Type} {l : List α} {i : Nat} {f g : α → α} {d : α}
    (same : f (l.getD i d) = g (l.getD i d)) : l.modify i f = l.modify i g := by
  by_cases place : i < l.length
  · rw [List.modify_eq_set_getElem?, List.modify_eq_set_getElem?]
    rw [List.getD_eq_getElem?_getD, List.getElem?_eq_getElem place] at same
    simpa [List.getElem?_eq_getElem place] using congrArg (l.set i) same
  · rw [List.modify_eq_self (Nat.le_of_not_lt place), List.modify_eq_self (Nat.le_of_not_lt place)]

/-- An update of a duty record is judged on that record. -/
theorem onComp_congr {s : State} {k : Nat} {f g : CompRec → CompRec} (same : f (s.compRec k) = g (s.compRec k)) :
    s.onComp k f = s.onComp k g := by
  rw [State.onComp, State.onComp, modify_congr_getD same]

/-! ### The stop that is taken (R111) -/

theorem takeStop_of_gone {s : State} {k : Nat} (gone : s.present (s.compRec k).entry = false) : takeStop k s = s := by
  refine if_neg ?_
  rw [State.accepts, State.compEntry, gone]
  exact Bool.false_ne_true

theorem takeStop_of_present {s : State} {k : Nat} (present : s.present (s.compRec k).entry = true) : takeStop k s =
    (withdrawOwn (s.compRec k).entry isSpeed (offerOwn (s.compRec k).entry .stop s)).onComp k fun x => { x with
      state := .unloading
      tStop := startTimer s.now ((s.compCfg k).stopConfirm * 1000)
      stopPending := false } := if_pos present

/-! ### A start that has failed (R110) -/

section
variable {s : State} {k : Nat}

theorem startFailed_frame (k : Nat) (s : State) : ByDuty s (startFailed k s) :=
  ((offerOwn_frame _ _ _).trans (onComp_frame _ _ _)).trans (occur_frame _ _ _)

theorem failStart_eq (k : Nat) (s : State) : failStart k s =
    if 2 ≤ ((startFailed k s).compRec k).failures then
      dutyEvaluation (occur Src.unitLockedOut k ((startFailed k s).onComp k fun r => { r with state := .lockedOut }))
    else dutyEvaluation ((startFailed k s).onComp k
      (CompRec.enterCooldown (startFailed k s).now ((startFailed k s).compCfg k).cooldown)) := rfl

/-- The first failure leads to COOLDOWN. -/
theorem failStart_of_first (starting : (s.compRec k).state = .starting) (first : (s.compRec k).failures = 0) :
    failStart k s = dutyEvaluation ((startFailed k s).onComp k (CompRec.enterCooldown s.now (s.compCfg k).cooldown)) := by
  have frame := startFailed_frame k s
  have cfg : (startFailed k s).compCfg k = s.compCfg k := by rw [State.compCfg, frame.tables, State.compCfg]
  have count : ¬2 ≤ ((startFailed k s).compRec k).failures := by
    rw [startFailed_compRec k s starting]
    simp [CompRec.failed, first]
  rw [failStart_eq, if_neg count, frame.now, cfg]

/-- The second failure locks the unit out. -/
theorem failStart_of_second (starting : (s.compRec k).state = .starting) (second : 1 ≤ (s.compRec k).failures) :
    failStart k s = dutyEvaluation
      (occur Src.unitLockedOut k ((startFailed k s).onComp k fun r => { r with state := .lockedOut })) := by
  have count : 2 ≤ ((startFailed k s).compRec k).failures := by
    rw [startFailed_compRec k s starting]
    exact Nat.le_min.mpr ⟨Nat.le_refl 2, Nat.succ_le_succ second⟩
  rw [failStart_eq, if_pos count]

/-- The number of failures written out: two at most are counted. -/
theorem startFailed_eq {n : Nat} (count : min 2 ((s.compRec k).failures + 1) = n) : startFailed k s =
    occur Src.startFailed k ((offerOwn (s.compRec k).entry .stop s).onComp k fun x =>
      { x with tStart := none, failures := n }) := by
  have record : (offerOwn (s.compEntry k) .stop s).onComp k CompRec.failed =
      (offerOwn (s.compRec k).entry .stop s).onComp k fun x => { x with tStart := none, failures := n } := by
    refine onComp_congr ?_
    rw [offerOwn_compRec, CompRec.failed, count]
  rw [startFailed, record]

/-! ### The minimum run (R111) -/

theorem minimumRunOver_of_pending (pending : (s.compRec k).stopPending = true) (running : (s.compRec k).state = .running) :
    minimumRunOver k s = dutyEvaluation (takeStop k (s.onComp k fun x => { x with tMinRun := none })) := by
  refine if_pos ?_
  rw [pending, decide_eq_true running, Bool.and_self]

theorem minimumRunOver_of_other (other : (s.compRec k).stopPending = false ∨ (s.compRec k).state ≠ .running) :
    minimumRunOver k s = s.onComp k fun x => { x with tMinRun := none } := by
  refine if_neg ?_
  rw [Bool.and_eq_true, decide_eq_true_eq]
  rcases other with none | still
  · simp [none]
  · simp [still]

/-! ### Marks (R108) -/

theorem markDue_iff : s.markDue k = true ↔ ∃ m ∈ (s.compRec k).marks, m + (s.compCfg k).window * 1000 ≤ s.now := by
  simp [State.markDue, Config.second]

end

/-! ### The rows -/

section
variable {k : Nat} (place : k < 6) (s : State)
include place

theorem exec_startConfirmExpiry : exec (.startConfirmExpiry k) s = .next
    (if (s.compRec k).state = .starting ∧ fires s.now (s.compRec k).tStart = true then failStart k s else s) :=
  (if_neg (Nat.not_le.mpr place)).trans (by simp only [Bool.and_eq_true, decide_eq_true_eq])

theorem exec_minimumRunExpiry : exec (.minimumRunExpiry k) s =
    .next (if fires s.now (s.compRec k).tMinRun = true then minimumRunOver k s else s) := if_neg (Nat.not_le.mpr place)

theorem exec_stopConfirmExpiry : exec (.stopConfirmExpiry k) s = .next
    (if (s.compRec k).state = .unloading ∧ fires s.now (s.compRec k).tStop = true then stopTimedOut k s else s) :=
  (if_neg (Nat.not_le.mpr place)).trans (by simp only [Bool.and_eq_true, decide_eq_true_eq])

theorem exec_cooldownExpiry : exec (.cooldownExpiry k) s = .next
    (if (s.compRec k).state = .cooldown ∧ fires s.now (s.compRec k).tCool = true then cooledDown k s else s) :=
  (if_neg (Nat.not_le.mpr place)).trans (by simp only [Bool.and_eq_true, decide_eq_true_eq])

theorem exec_startMarkAgeout : exec (.startMarkAgeout k) s = .next
    (if s.markDue k = true then
      dutyEvaluation (s.onComp k fun r => { r with marks := youngMarks s.now (s.compCfg k).window r.marks })
    else s) := if_neg (Nat.not_le.mpr place)

end

/-! ### The obligation -/

/-- Settles O28: each timer by its guard; a failed start by the failures counted before it. -/
theorem dutyTimersExpire : Obligations.DutyTimersExpire := by
  intro s k place sized r c failed
  have inside : k < s.comp.recs.length := sized ▸ place
  have failure {n : Nat} (count : min 2 (r.failures + 1) = n) : startFailed k s = failed n := startFailed_eq count
  refine ⟨fun early => ?_, fun starting ended first => ?first, fun starting ended second => ?second, fun early => ?_,
    fun ended => ?minimumRun, fun early => ?_, fun unloading ended => ?stop, fun early => ?_, fun cooling ended => ?cool,
    fun young => ?young, fun old => ?old⟩
  case first =>
    rw [exec_startConfirmExpiry place, if_pos ⟨starting, ended⟩, failStart_of_first starting first,
      failure (by rw [first])]
    rfl
  case second =>
    rw [exec_startConfirmExpiry place, if_pos ⟨starting, ended⟩, failStart_of_second starting second,
      failure (Nat.min_eq_left (Nat.succ_le_succ second))]
  case minimumRun =>
    rw [exec_minimumRunExpiry place, if_pos ended]
    intro u
    have entry : (u.compRec k).entry = r.entry := by rw [compRec_onComp _ inside]
    refine ⟨fun pending running => ?_, fun other => by rw [minimumRunOver_of_other other]⟩
    rw [minimumRunOver_of_pending pending running]
    refine ⟨fun gone => ?_, fun present => ?_⟩
    · rw [takeStop_of_gone (entry ▸ gone)]
    · rw [takeStop_of_present (entry ▸ present), entry]
      rfl
  case stop =>
    rw [exec_stopConfirmExpiry place, if_pos ⟨unloading, ended⟩]
    rfl
  case cool =>
    rw [exec_cooldownExpiry place, if_pos ⟨cooling, ended⟩]
    rfl
  case young =>
    have none : ¬s.markDue k = true := fun due => by
      obtain ⟨m, member, aged⟩ := markDue_iff.mp due
      exact Nat.not_le.mpr (young m member) aged
    rw [exec_startMarkAgeout place, if_neg none]
  case old =>
    rw [exec_startMarkAgeout place, if_pos (markDue_iff.mpr old)]
    rfl
  · rw [exec_startConfirmExpiry place, if_neg early]
  · rw [exec_minimumRunExpiry place, early, if_neg Bool.false_ne_true]
  · rw [exec_stopConfirmExpiry place, if_neg early]
  · rw [exec_cooldownExpiry place, if_neg early]

end Sys2Proof.Machine

/-!
SUPPORT. The requests on compressors (R117 to R119, R128, R129).
-/

namespace Sys2Proof.Machine

/-! ### The checks that a request naming a compressor begins with (R117, R118) -/

section
variable {s : State} {b : Octet} {f : Nat → Reply}

theorem withComp_of_none (none : 5 < b.toNat) : withComp [b] s f = ⟨.badArgument, [], s⟩ := by
  rw [withComp, fieldAt_single, if_pos none, refuse]

theorem withComp_of_notInUse (valid : b.toNat ≤ 5) (unused : s.compInUse b.toNat = false) :
    withComp [b] s f = ⟨.unknownTarget, [], s⟩ := by
  rw [withComp, fieldAt_single, if_neg (Nat.not_lt.mpr valid), unused]
  rfl

theorem withComp_of_inUse (named : b.toNat ≤ 5 ∧ s.compInUse b.toNat = true) : withComp [b] s f = f b.toNat := by
  rw [withComp, fieldAt_single, if_neg (Nat.not_lt.mpr named.1), named.2]
  rfl

end

/-! ### RESET_UNIT (R117) -/

section
variable {s : State} {b : Octet} (named : b.toNat ≤ 5 ∧ s.compInUse b.toNat = true)
include named

theorem resetUnit_of_refused (refused : (s.compRec b.toNat).state ≠ .lockedOut ∨
    (s.compRec b.toNat).lastReport ≠ some .stopped ∨ s.marked .compressors b.toNat = true) :
    resetUnit [b] s = ⟨.wrongState, [], s⟩ := by
  refine (withComp_of_inUse named).trans (if_pos ?_)
  simpa only [Bool.or_eq_true, decide_eq_true_eq, or_assoc] using refused

theorem resetUnit_of_taken (clear : s.marked .compressors b.toNat = false)
    (locked : (s.compRec b.toNat).state = .lockedOut) (stopped : (s.compRec b.toNat).lastReport = some .stopped) :
    resetUnit [b] s =
      let t := dutyEvaluation (s.onComp b.toNat fun r => { r with state := .stopped, failures := 0 })
      ⟨.ok, t.resetUnitResult b.toNat, t⟩ := by
  refine (withComp_of_inUse named).trans (if_neg ?_)
  simp [locked, stopped, clear]

/-! ### SET_UNIT_AUTO and SET_UNIT_MANUAL (R118) -/

theorem setUnitMode_of_marked {m : UnitMode} (marked : s.marked .compressors b.toNat = true) :
    setUnitMode m [b] s = ⟨.wrongState, [], s⟩ := (withComp_of_inUse named).trans (if_pos marked)

variable (clear : s.marked .compressors b.toNat = false)
include clear

theorem setUnitMode_of_same {m : UnitMode} (same : (s.compRec b.toNat).mode = m) :
    setUnitMode m [b] s = ⟨.ok, [], s⟩ := by
  rw [setUnitMode, withComp_of_inUse named, if_neg (ne_true_of_eq_false clear), if_pos same]

/-- A MANUAL unit becomes AUTO and joins the tail of the duty order list. -/
theorem setUnitMode_auto (manual : (s.compRec b.toNat).mode = .manual) : setUnitMode .auto [b] s =
    let u := s.onComp b.toNat fun r => { r with mode := .auto }
    ⟨.ok, [], dutyEvaluation { u with comp := { u.comp with order := s.comp.order ++ [b.toNat] } }⟩ := by
  have other : (s.compRec b.toNat).mode ≠ .auto := by rw [manual]; nofun
  rw [setUnitMode, withComp_of_inUse named, if_neg (ne_true_of_eq_false clear), if_neg other]
  dsimp only
  rw [becomeAuto, if_neg other]
  rfl

/-- An AUTO unit becomes MANUAL and leaves the duty order list. -/
theorem setUnitMode_manual (auto : (s.compRec b.toNat).mode = .auto) : setUnitMode .manual [b] s =
    let u := withdrawOwn (s.compRec b.toNat).entry isSpeed
      (s.onComp b.toNat fun r => { r with mode := .manual, stopPending := false })
    ⟨.ok, [], dutyEvaluation
      { u with comp := { u.comp with order := s.comp.order.filter fun j => decide (j ≠ b.toNat) } }⟩ := by
  have other : (s.compRec b.toNat).mode ≠ .manual := by rw [auto]; nofun
  rw [setUnitMode, withComp_of_inUse named, if_neg (ne_true_of_eq_false clear), if_neg other]
  dsimp only
  rw [becomeManual_of_auto auto]
  rfl

end

/-! ### ROTATE (R119) -/

theorem rotate_eq (args : List Octet) (s : State) : rotate args s =
    ⟨.ok, beList ((s.sortOrder s.comp.order).map (be 1)),
      dutyEvaluation { s with comp := { s.comp with order := s.sortOrder s.comp.order } }⟩ := rfl

/-! ### READ_COMPRESSOR (R128, R129) -/

section
variable {s : State} {b : Octet}

theorem readCompressor_of_none (none : 5 < b.toNat) : readCompressor [b] s = ⟨.badArgument, [], s⟩ := by
  rw [readCompressor, fieldAt_single, if_pos none, refuse]

theorem readCompressor_of_comp (valid : b.toNat ≤ 5) : readCompressor [b] s =
    ⟨.ok, (useComp b.toNat s).compressorResult b.toNat, useComp b.toNat s⟩ := by
  rw [readCompressor, fieldAt_single, if_neg (Nat.not_lt.mpr valid)]

/-- What a check of a record found bad leaves: the mark, the event, and the unit, if in use, locked out (R128). -/
theorem checkComp_of_bad {k : Nat} (bad : s.foundBad .compressors k = true) : checkComp k s =
    let x := occur Src.tableParity k (s.setMark .compressors k)
    if s.compInUse k then
      withdrawAll (s.compRec k).entry (x.onComp k fun r => { r with
        state := .lockedOut
        tStart := none
        tStop := none
        tMinRun := none
        tCool := none
        stopPending := false })
    else x := by
  rw [checkComp, if_pos bad, lockByParity_markEntry, markEntry_eq_occur]

end

/-! ### The rows -/

theorem exec_resetUnit (s : State) : exec .resetUnit s = serve 0x19 resetUnit s := rfl

theorem exec_setUnitManual (s : State) : exec .setUnitManual s = serve 0x1A (setUnitMode .manual) s := rfl

theorem exec_setUnitAuto (s : State) : exec .setUnitAuto s = serve 0x1B (setUnitMode .auto) s := rfl

theorem exec_readCompressor (s : State) : exec .readCompressor s = serve 0x06 readCompressor s := rfl

theorem exec_rotate (s : State) : exec .rotate s = serve 0x18 rotate s := rfl

/-- The refusals that the requests naming a compressor share: no such number, a record not in use, a parity mark. -/
theorem serve_withComp_refused {s : State} {q : Request} {code b : Octet} {h : List Octet → State → Reply}
    {f : Nat → Reply} (asks : s.Asks q code [b]) (known : knownRequests.contains code = true)
    (sized : requestLength code [b] = 1) (checks : h [b] s = withComp [b] s f)
    (onMarked : b.toNat ≤ 5 ∧ s.compInUse b.toNat = true → s.marked .compressors b.toNat = true →
      h [b] s = ⟨.wrongState, [], s⟩) :
    (5 < b.toNat → serve code h s = .next (s.answered q .badArgument [])) ∧
    (b.toNat ≤ 5 → s.compInUse b.toNat = false → serve code h s = .next (s.answered q .unknownTarget [])) ∧
    (b.toNat ≤ 5 ∧ s.compInUse b.toNat = true → s.marked .compressors b.toNat = true →
      serve code h s = .next (s.answered q .wrongState [])) :=
  have answers {status : Status} : h [b] s = ⟨status, [], s⟩ → serve code h s = .next (s.answered q status []) :=
    serve_of_asks_same asks known sized.symm
  ⟨fun none => answers (checks.trans (withComp_of_none none)),
    fun valid unused => answers (checks.trans (withComp_of_notInUse valid unused)),
    fun named marked => answers (onMarked named marked)⟩

/-! ### The obligation -/

/-- Settles O29: the refusals that three of the requests share, then each request on a record it names. -/
theorem dutyRequests : Obligations.DutyRequests := by
  refine ⟨fun s k => ⟨rfl, rfl⟩, ?_⟩
  intro s q b k named
  refine ⟨fun c member code row asks => ?refused, fun asks named clear => ?reset, fun asks named clear => ?auto,
    fun asks named clear => ?manual, fun asks => ?rotate, fun asks => ?read⟩
  case refused =>
    simp only [List.mem_cons, List.not_mem_nil, or_false] at member
    rcases member with rfl | rfl | rfl <;> obtain rfl := Option.some.inj row
    · exact serve_withComp_refused asks rfl rfl rfl fun named marked => resetUnit_of_refused named (.inr (.inr marked))
    · exact serve_withComp_refused asks rfl rfl rfl fun named marked => setUnitMode_of_marked named marked
    · exact serve_withComp_refused asks rfl rfl rfl fun named marked => setUnitMode_of_marked named marked
  case reset =>
    refine ⟨fun wrong => ?_, fun locked stopped => ?_⟩
    · exact serve_of_asks_same asks rfl rfl (resetUnit_of_refused named (wrong.imp_right .inl))
    · rw [exec_resetUnit, serve_of_asks asks rfl rfl, resetUnit_of_taken named clear locked stopped]
  case auto =>
    refine ⟨fun auto => serve_of_asks_same asks rfl rfl (setUnitMode_of_same named clear auto), fun manual => ?_⟩
    rw [exec_setUnitAuto, serve_of_asks asks rfl rfl, setUnitMode_auto named clear manual]
  case manual =>
    refine ⟨fun manual => serve_of_asks_same asks rfl rfl (setUnitMode_of_same named clear manual), fun auto => ?_⟩
    rw [exec_setUnitManual, serve_of_asks asks rfl rfl, setUnitMode_manual named clear auto]
  case rotate => rw [exec_rotate, serve_of_asks asks rfl rfl, rotate_eq]
  case read =>
    refine ⟨fun none => ?_, fun valid sound => ?_, fun valid bad => ?_⟩
    · exact serve_of_asks_same asks rfl rfl (readCompressor_of_none none)
    · refine serve_of_asks_same asks rfl rfl ?_
      rw [readCompressor_of_comp valid, useComp_of_sound sound]
    · rw [exec_readCompressor, serve_of_asks asks rfl rfl, readCompressor_of_comp valid, useComp, if_pos bad,
        checkComp_of_bad bad]

end Sys2Proof.Machine

/-!
SUPPORT. The duty order list, the demand and the desired set (R119 to R121): the re-sort is an insertion sort by run seconds
and number, and the desired set the shortest run from its front whose capacities reach the demand.
-/

namespace Sys2Proof.Machine

/-! ### The duty order list (R119) -/

/-- What the duty order list is sorted by: the run seconds, then the number. -/
def State.orderKey (s : State) (k : Nat) : Nat ×ₗ Nat := toLex ((s.compRec k).runSec, k)

theorem orderKey_lt_iff (s : State) (j k : Nat) : s.orderKey j < s.orderKey k ↔
    (s.compRec j).runSec < (s.compRec k).runSec ∨ ((s.compRec j).runSec = (s.compRec k).runSec ∧ j < k) :=
  Prod.Lex.toLex_lt_toLex

theorem orderKey_injective (s : State) : Function.Injective s.orderKey := fun _ _ same =>
  congrArg (fun key => (ofLex key).2) same

theorem runsBefore_iff (s : State) (j k : Nat) : s.runsBefore j k = true ↔ s.orderKey j < s.orderKey k := by
  rw [orderKey_lt_iff]
  simp [State.runsBefore]

theorem insertOrder_eq_orderedInsert (s : State) (k : Nat) (l : List Nat) :
    s.insertOrder k l = l.orderedInsert (fun a b => s.orderKey a ≤ s.orderKey b) k := by
  induction l with
  | nil => rfl
  | cons j rest ih =>
    rw [State.insertOrder, List.orderedInsert, ih]
    simp only [runsBefore_iff]
    by_cases before : s.orderKey j < s.orderKey k
    · rw [if_pos before, if_neg (not_le.mpr before)]
    · rw [if_neg before, if_pos (not_lt.mp before)]

theorem sortOrder_eq_insertionSort (s : State) (l : List Nat) :
    s.sortOrder l = l.insertionSort fun a b => s.orderKey a ≤ s.orderKey b := by
  have insert : s.insertOrder = List.orderedInsert fun a b => s.orderKey a ≤ s.orderKey b :=
    funext fun k => funext (insertOrder_eq_orderedInsert s k)
  rw [State.sortOrder, insert]
  rfl

theorem sortOrder_perm (s : State) (l : List Nat) : (s.sortOrder l).Perm l := by
  rw [sortOrder_eq_insertionSort]
  exact List.perm_insertionSort _ l

theorem sortOrder_pairwise (s : State) {l : List Nat} (distinct : l.Nodup) :
    (s.sortOrder l).Pairwise fun j k => s.orderKey j < s.orderKey k := by
  have total : Std.Total fun a b => s.orderKey a ≤ s.orderKey b := ⟨fun a b => le_total _ _⟩
  have trans : IsTrans Nat fun a b => s.orderKey a ≤ s.orderKey b := ⟨fun _ _ _ => le_trans⟩
  have ascending : (s.sortOrder l).Pairwise fun j k => s.orderKey j ≤ s.orderKey k := by
    rw [sortOrder_eq_insertionSort]
    exact List.pairwise_insertionSort _ l
  have apart : (s.sortOrder l).Nodup := (sortOrder_perm s l).nodup_iff.mpr distinct
  exact (ascending.and apart).imp fun ⟨le, ne⟩ => lt_of_le_of_ne le fun same => ne (orderKey_injective s same)

/-! ### The demand and the desired set (R120, R121) -/

section
variable {s : State}

theorem demand_inject (mode : s.comp.heldMode = .inject) : s.demand = s.comp.injTotal * 60 / s.lMin := by
  rw [State.demand, mode]

theorem demand_withdraw (mode : s.comp.heldMode = .withdraw) :
    s.demand = if s.comp.heldFlag then s.comp.wdTotal * 60 / s.lMin else 0 := by
  rw [State.demand, mode]

theorem demand_other (noInject : s.comp.heldMode ≠ .inject) (noWithdraw : s.comp.heldMode ≠ .withdraw) :
    s.demand = 0 := by
  unfold State.demand
  split
  next mode => exact absurd mode noInject
  next mode => exact absurd mode noWithdraw
  · rfl
  · rfl

end

theorem eligible_iff (s : State) (k : Nat) : s.eligible k = true ↔ s.marked .compressors k = false ∧
    ((s.compRec k).state = .starting ∨ (s.compRec k).state = .running ∨
      ((s.compRec k).state ∈ [DutyState.stopped, .unloading, .cooldown] ∧
        (s.compRec k).marks.length < (s.compCfg k).budget)) := by
  unfold State.eligible
  cases (s.compRec k).state <;> simp [State.exhausted]

/-- The shortest run begins the list and reaches the demand unless it is the whole of it, and no shorter one does. -/
theorem shortestRun_spec (capacity : Nat → Nat) (d : Nat) (l : List Nat) : ∃ rest,
    l = shortestRun capacity d l ++ rest ∧ (rest ≠ [] → d ≤ ((shortestRun capacity d l).map capacity).sum) ∧
      ∀ pre k post, shortestRun capacity d l = pre ++ k :: post → (pre.map capacity).sum < d := by
  induction d, l using shortestRun.induct capacity with
  | case1 l =>
    rw [shortestRun]
    exact ⟨l, rfl, fun _ => Nat.zero_le _, fun pre k post parts => by simp at parts⟩
  | case2 d positive =>
    have none : shortestRun capacity d [] = [] := by cases d <;> rfl
    rw [none]
    exact ⟨[], rfl, fun more => absurd rfl more, fun pre k post parts => by simp at parts⟩
  | case3 d k rest ih =>
    obtain ⟨left, whole, reached, shorter⟩ := ih
    rw [shortestRun]
    refine ⟨left, ?_, fun more => ?_, fun pre j post parts => ?_⟩
    · rw [List.cons_append, ← whole]
    · have := reached more
      rw [List.map_cons, List.sum_cons]
      omega
    · cases pre with
      | nil => exact Nat.succ_pos d
      | cons i pre =>
        obtain ⟨rfl, tail⟩ := List.cons.inj parts
        have := shorter pre j post tail
        rw [List.map_cons, List.sum_cons]
        omega

end Sys2Proof.Machine

/-!
SUPPORT. A duty evaluation (R109, R111, R121 to R123, R128, R158, R165): what it does to each unit, the speeds it offers, and
the capacity it publishes. Its starts, stops and speeds keep which units can serve, so the capacity published is the one in
force behind them.
-/

namespace Sys2Proof.Machine

/-! ### What an evaluation does to one unit (R109, R111, R121) -/

section
variable {s : State} {k : Nat} {wanted : List Nat}

theorem ownStart_of_refused (refused : s.comp.heldEsd = true ∨ (s.compCfg k).budget ≤ (s.compRec k).marks.length) :
    ownStart k s = s := by
  refine if_pos ?_
  rwa [State.exhausted, Bool.or_eq_true, decide_eq_true_eq]

theorem ownStart_of_taken (calm : s.comp.heldEsd = false) (left : (s.compRec k).marks.length < (s.compCfg k).budget) :
    ownStart k s = if s.present (s.compRec k).entry then offerOwn (s.compRec k).entry .start (beginStart k s)
      else (beginStart k s).onComp k CompRec.cancel := by
  refine if_neg ?_
  simp [calm, State.exhausted, left]

/-- A start of a record with room for one more mark. -/
theorem beginStart_of_short (short : (s.compRec k).marks.length ≤ 7) : beginStart k s = s.onComp k fun x => { x with
    state := .starting
    marks := x.marks ++ [s.now]
    tStart := startTimer s.now ((s.compCfg k).startConfirm * 1000)
    stopPending := false
    lastSpeed := none } := by
  refine onComp_congr ?_
  rw [CompRec.start, appendMark_of_short _ short]

/-- A start that is taken back leaves the unit STOPPED with the marks it had. -/
theorem cancel_beginStart (stopped : (s.compRec k).state = .stopped) (short : (s.compRec k).marks.length ≤ 7) :
    (beginStart k s).onComp k CompRec.cancel =
      s.onComp k fun x => { x with tStart := none, stopPending := false, lastSpeed := none } := by
  rw [beginStart_of_short short, onComp_onComp]
  refine onComp_congr ?_
  simp only [Function.comp, CompRec.cancel, List.dropLast_concat, ← stopped]

theorem actOn_of_stopped (stopped : (s.compRec k).state = .stopped) :
    actOn wanted k s = if k ∈ wanted then ownStart k s else s := by
  simp only [actOn, stopped, List.contains_iff_mem]

theorem actOn_of_running (running : (s.compRec k).state = .running) : actOn wanted k s =
    if k ∈ wanted then s.onComp k fun r => { r with stopPending := false }
    else if (s.compRec k).tMinRun ≠ none then s.onComp k fun r => { r with stopPending := true }
    else takeStop k s := by
  simp only [actOn, running, List.contains_iff_mem, Option.isSome_iff_ne_none]

theorem actOn_of_other (noStopped : (s.compRec k).state ≠ .stopped) (noRunning : (s.compRec k).state ≠ .running) :
    actOn wanted k s = s := by
  unfold actOn
  split
  next stopped => exact absurd stopped noStopped
  next running => exact absurd running noRunning
  · rfl

/-! ### The speed of a load share (R122) -/

theorem speedDue_iff (deadband speed : Nat) (before : Option Nat) : speedDue deadband speed before = true ↔
    ∀ last, before = some last → speed ≠ last ∧ deadband ≤ max speed last - min speed last := by
  cases before <;> simp [speedDue]

/-- A RUNNING unit takes the speed of its load share where that is due. -/
def State.takesSpeed (s : State) (demand running k : Nat) : Bool :=
  decide ((s.compRec k).state = .running) &&
    speedDue (s.compCfg k).deadband (shareSpeed (s.compCfg k) demand running) (s.compRec k).lastSpeed &&
    s.present (s.compRec k).entry

theorem takesSpeed_iff (s : State) (demand running k : Nat) : s.takesSpeed demand running k = true ↔
    let speed := shareSpeed (s.compCfg k) demand running
    (s.compRec k).state = .running ∧ s.present (s.compRec k).entry = true ∧ ∀ last, (s.compRec k).lastSpeed = some last →
      speed ≠ last ∧ (s.compCfg k).deadband ≤ max speed last - min speed last := by
  rw [State.takesSpeed, Bool.and_eq_true, Bool.and_eq_true, decide_eq_true_eq, speedDue_iff]
  tauto

theorem offerSpeed_eq (s : State) (demand running k : Nat) : offerSpeed demand running k s =
    if s.takesSpeed demand running k then
      (offerOwn (s.compRec k).entry (.speed (shareSpeed (s.compCfg k) demand running)) s).onComp k fun r =>
        { r with lastSpeed := some (shareSpeed (s.compCfg k) demand running) }
    else s := rfl

end

/-! ### Which units can serve (R123) -/

/-- The unit can serve: it is neither LOCKED_OUT nor UNAVAILABLE. -/
def CompRec.canServe (r : CompRec) : Bool := decide (r.state ≠ .lockedOut) && decide (r.state ≠ .unavailable)

theorem compCapacity_eq (s : State) : s.compCapacity = ((s.comp.order.filter fun k =>
    !s.marked .compressors k && (s.compRec k).canServe).map fun k => (s.compCfg k).capacity).sum := by
  simp only [State.compCapacity, CompRec.canServe, Bool.and_assoc]

/-- Own commands and duty records alone differ, and the same units can serve. -/
structure KeepsService (s t : State) : Prop where
  only : t = { s with own := t.own, comp := { s.comp with recs := t.comp.recs } }
  serves : ∀ k, (t.compRec k).canServe = (s.compRec k).canServe

namespace KeepsService
variable {s t u : State}

theorem refl (s : State) : KeepsService s s := ⟨rfl, fun _ => rfl⟩

theorem trans (h : KeepsService s t) (k : KeepsService t u) : KeepsService s u where
  only := k.only.trans (by rw [h.only])
  serves j := (k.serves j).trans (h.serves j)

theorem ite {c : Prop} [Decidable c] (h : KeepsService s t) (k : KeepsService s u) :
    KeepsService s (if c then t else u) := by
  split
  · exact h
  · exact k

theorem foldl {α : Type} {f : State → α → State} (step : ∀ s a, KeepsService s (f s a)) (l : List α) (s : State) :
    KeepsService s (l.foldl f s) := List.foldlRecOn l f (refl s) fun t before a _ => before.trans (step t a)

theorem compCapacity (h : KeepsService s t) : t.compCapacity = s.compCapacity := by
  rw [compCapacity_eq, compCapacity_eq]
  simp only [h.serves]
  rw [h.only]
  rfl

theorem published (h : KeepsService s t) : t.comp.published = s.comp.published := by rw [h.only]

theorem acct (h : KeepsService s t) : t.acct = s.acct := by rw [h.only]

end KeepsService

theorem offerOwn_keepsService (e : Nat) (c : Command) (s : State) : KeepsService s (offerOwn e c s) where
  only := by
    unfold offerOwn
    split <;> rfl
  serves k := by rw [offerOwn_compRec]

theorem withdrawOwn_keepsService (e : Nat) (p : Command → Bool) (s : State) : KeepsService s (withdrawOwn e p s) :=
  ⟨rfl, fun _ => rfl⟩

theorem onComp_keepsService {s : State} {k : Nat} {f : CompRec → CompRec}
    (same : (f (s.compRec k)).canServe = (s.compRec k).canServe) : KeepsService s (s.onComp k f) where
  only := rfl
  serves j := by
    rw [State.compRec_onComp]
    split
    next place =>
      obtain ⟨rfl, -⟩ := place
      exact same
    · rfl

section
variable (s : State) (k : Nat)

theorem takeStop_keepsService (running : (s.compRec k).state = .running) : KeepsService s (takeStop k s) := by
  refine .ite (.trans (.trans (offerOwn_keepsService _ _ s) (withdrawOwn_keepsService _ _ _)) (onComp_keepsService ?_))
    (.refl s)
  rw [withdrawOwn_compRec, offerOwn_compRec, CompRec.canServe, CompRec.canServe, running]
  rfl

theorem ownStart_keepsService (stopped : (s.compRec k).state = .stopped) : KeepsService s (ownStart k s) := by
  have serves : (s.compRec k).canServe = true := by rw [CompRec.canServe, stopped]; rfl
  refine .ite (.refl s) (.ite (.trans (onComp_keepsService ?_) (offerOwn_keepsService _ _ _)) ?_)
  · exact serves.symm
  · rw [beginStart, onComp_onComp]
    exact onComp_keepsService serves.symm

theorem actOn_keepsService (wanted : List Nat) : KeepsService s (actOn wanted k s) := by
  by_cases stopped : (s.compRec k).state = .stopped
  · rw [actOn_of_stopped stopped]
    exact .ite (ownStart_keepsService s k stopped) (.refl s)
  by_cases running : (s.compRec k).state = .running
  · rw [actOn_of_running running]
    exact .ite (onComp_keepsService rfl) (.ite (onComp_keepsService rfl) (takeStop_keepsService s k running))
  · rw [actOn_of_other stopped running]
    exact .refl s

theorem offerSpeed_keepsService (demand running : Nat) : KeepsService s (offerSpeed demand running k s) :=
  .ite (.trans (offerOwn_keepsService _ _ s) (onComp_keepsService rfl)) (.refl s)

end

theorem offerSpeeds_keepsService (s : State) : KeepsService s (offerSpeeds s) :=
  .ite (.refl s) (.foldl (fun t k => offerSpeed_keepsService t k _ _) _ s)

theorem evalCore_keepsService (s : State) : KeepsService s (evalCore s) :=
  .trans (.foldl (fun t k => actOn_keepsService t k _) _ s) (offerSpeeds_keepsService _)

/-! ### The check of the listed records (R128) -/

theorem checkOrder_of_sound {s : State} (sound : ∀ k ∈ s.comp.order, s.foundBad .compressors k = false) :
    checkOrder s = s :=
  List.foldlRecOn (motive := (· = s)) s.comp.order _ rfl fun t same k listed => by
    rw [same, checkComp, sound k listed, if_neg Bool.false_ne_true]

theorem withdrawAll_eq (e : Nat) (s : State) :
    withdrawAll e s = { s with own := s.own.filter fun x => decide (x.target ≠ e) } := by
  simp [withdrawAll, withdrawOwn]

theorem occur_own (n b : Nat) (s : State) : (occur n b s).own = s.own := by rw [occur_only]

/-- The check leaves the published capacity, on both of its sides. -/
theorem checkComp_published (k : Nat) (s : State) :
    (checkComp k s).comp.published = s.comp.published ∧ (checkComp k s).acct = s.acct := by
  unfold checkComp
  split
  · split <;> rw [markEntry_only] <;> exact ⟨rfl, rfl⟩
  · exact ⟨rfl, rfl⟩

theorem checkOrder_published (s : State) :
    (checkOrder s).comp.published = s.comp.published ∧ (checkOrder s).acct = s.acct :=
  List.foldlRecOn (motive := fun t : State => t.comp.published = s.comp.published ∧ t.acct = s.acct) s.comp.order _
    ⟨rfl, rfl⟩ fun t ⟨published, acct⟩ k _ => by
      obtain ⟨published', acct'⟩ := checkComp_published k t
      exact ⟨published'.trans published, acct'.trans acct⟩

/-! ### The capacity published (R123, R158, R165) -/

/-- The accounts are told the capacity in force, with the curtailment that follows. -/
def tellCapacity (s : State) : State := curtailCore none { s with
  comp := { s.comp with published := s.compCapacity }
  acct := { s.acct with compCap := s.compCapacity } }

section
variable {s : State}

theorem publish_of_same (same : s.compCapacity = s.comp.published) : publish s = s := if_pos same

theorem publish_of_new (new : s.compCapacity ≠ s.comp.published) :
    publish s = if (tellCapacity s).sumsChanged then evalCore (tellSums (tellCapacity s)) else tellCapacity s := if_neg new

theorem sumsChanged_eq_false_iff : s.sumsChanged = false ↔
    s.confirmedSum .inject = s.acct.toldInj ∧ s.confirmedSum .withdraw = s.acct.toldWd := by
  simp [State.sumsChanged]

end

/-- An occurrence changes neither the duty records nor the parity marks that the capacity goes by. -/
theorem occur_compCapacity (n b : Nat) (s : State) : (occur n b s).compCapacity = s.compCapacity := by
  have marks : (occur n b s).parity.get .compressors = s.parity.get .compressors := occur_parity n b s (by decide)
  have order : (occur n b s).comp = s.comp := by rw [occur_only]
  simp only [compCapacity_eq, State.marked, marks, State.compRec, order, State.compCfg, (occur_frame n b s).tables]

/-- A curtailment leaves the duty records, the capacity told and the capacity in force. -/
theorem curtailCore_comp (just : Option Nat) (s : State) : (curtailCore just s).comp = s.comp ∧
    (curtailCore just s).acct.compCap = s.acct.compCap ∧ (curtailCore just s).compCapacity = s.compCapacity := by
  unfold curtailCore occurIf
  dsimp only
  split
  · exact ⟨rfl, rfl, rfl⟩
  split
  · rw [occur_compCapacity, occur_only]
    exact ⟨rfl, rfl, rfl⟩
  · exact ⟨rfl, rfl, rfl⟩

theorem tellCapacity_published (s : State) : (tellCapacity s).comp.published = (tellCapacity s).compCapacity ∧
    (tellCapacity s).acct.compCap = (tellCapacity s).comp.published := by
  obtain ⟨comp, cap, same⟩ := curtailCore_comp none { s with
    comp := { s.comp with published := s.compCapacity }
    acct := { s.acct with compCap := s.compCapacity } }
  rw [tellCapacity, same, cap, comp]
  exact ⟨rfl, rfl⟩

/-- What is published is the capacity in force, and the accounts hold it where they held the one before. -/
theorem publish_published (s : State) : (publish s).comp.published = (publish s).compCapacity ∧
    (s.acct.compCap = s.comp.published → (publish s).acct.compCap = (publish s).comp.published) := by
  by_cases same : s.compCapacity = s.comp.published
  · rw [publish_of_same same]
    exact ⟨same.symm, id⟩
  obtain ⟨published, told⟩ := tellCapacity_published s
  rw [publish_of_new same]
  split
  · have kept := evalCore_keepsService (tellSums (tellCapacity s))
    rw [kept.published, kept.compCapacity, kept.acct]
    exact ⟨published, fun _ => told⟩
  · exact ⟨published, fun _ => told⟩

theorem dutyEvaluation_published (s : State) : (dutyEvaluation s).comp.published = (dutyEvaluation s).compCapacity ∧
    (s.acct.compCap = s.comp.published → (dutyEvaluation s).acct.compCap = (dutyEvaluation s).comp.published) := by
  obtain ⟨published, told⟩ := publish_published (evalCore (checkOrder s))
  have acted := evalCore_keepsService (checkOrder s)
  obtain ⟨before, acct⟩ := checkOrder_published s
  rw [acted.acct, acted.published, acct, before] at told
  exact ⟨published, told⟩

/-! ### The obligation -/

/-- Settles O30: the list, the demand and the desired set by their own lemmas; an evaluation as the check, the actions and
the publication that it is made of; each action and speed by the state of its unit. -/
theorem dutyOrderAndEvaluation : Obligations.DutyOrderAndEvaluation := by
  refine ⟨fun s l distinct => ⟨sortOrder_perm s l, ?order⟩, fun s => ?evaluation, fun s wanted k => ?actions,
    fun s => ?speeds⟩
  case order => exact (sortOrder_pairwise s distinct).imp (orderKey_lt_iff s _ _).mp
  case evaluation =>
    intro cap
    refine ⟨demand_inject, fun mode flag => (demand_withdraw mode).trans (if_pos flag), fun mode flag => ?noFlag,
      demand_other, eligible_iff s, shortestRun_spec _ _ _, ?evaluates, ?capacity, dutyEvaluation_published s⟩
    case noFlag => rw [demand_withdraw mode, flag, if_neg Bool.false_ne_true]
    case evaluates =>
      intro acting found checked acted new told sum same
      have check (x : State) (k : Nat) : checkComp k x = if x.foundBad .compressors k then found x k else x := by
        split
        next bad =>
          rw [checkComp_of_bad bad]
          dsimp only
          rw [withdrawAll_eq, State.onComp_own, occur_own]
          rfl
        next sound => exact if_neg sound
      have checks : checkOrder s = checked :=
        congrArg (fun f => s.comp.order.foldl f s) (funext fun x => funext fun k => check x k)
      have whole : dutyEvaluation s = publish acted := by
        rw [dutyEvaluation, checks]
        rfl
      have unchanged : (tellCapacity acted).sumsChanged = false ↔ same := sumsChanged_eq_false_iff
      rw [whole]
      refine ⟨fun sound => checks.symm.trans (checkOrder_of_sound sound), publish_of_same, fun changed agree => ?_,
        fun changed differ => ?_⟩
      · rw [publish_of_new changed, unchanged.mpr agree, if_neg Bool.false_ne_true]
        rfl
      · rw [publish_of_new changed, if_pos (Bool.of_not_eq_false (mt unchanged.mp differ))]
        rfl
    case capacity => simp only [State.compCapacity, Bool.decide_and, Bool.and_assoc, cap]
  case actions =>
    intro r c
    refine ⟨fun stopped => ?stopped, fun running => ?running, actOn_of_other⟩
    case stopped =>
      rw [actOn_of_stopped stopped]
      refine ⟨fun refused => ?_, fun mem calm left short => ?_⟩
      · rcases refused with out | refused
        · rw [if_neg out]
        · rw [ownStart_of_refused refused, ite_self]
      · rw [if_pos mem, ownStart_of_taken calm left, cancel_beginStart stopped short, beginStart_of_short short]
        exact ⟨fun present => if_pos present, fun gone => if_neg (ne_true_of_eq_false gone)⟩
    case running =>
      rw [actOn_of_running running]
      refine ⟨fun mem => if_pos mem, fun out waits => ?_, fun out ran => ?_⟩
      · rw [if_neg out, if_pos waits]
      · rw [if_neg out, if_neg (not_not.mpr ran)]
        exact ⟨takeStop_of_gone, takeStop_of_present⟩
  case speeds =>
    intro running
    refine ⟨fun none => if_pos none, fun some => if_neg some, ?_⟩
    intro d k r c p speed due
    have takes : s.takesSpeed d running k = true ↔ due := takesSpeed_iff s d running k
    rw [offerSpeed_eq]
    exact ⟨fun no => if_neg (mt takes.mp no), fun yes => if_pos (takes.mpr yes)⟩

end Sys2Proof.Machine

/-!
SUPPORT. The beds and the switch of one train (R134, R140): which updates keep at most one bed ADSORBING, the STANDBY beds dry,
and an opening switch consistent with its beds.
-/

namespace Sys2Proof.Machine

/-! ### The beds of a train -/

theorem mem_allBeds (x : BedId) : x ∈ allBeds := by cases x <;> decide

theorem Train.bed_onBed (t : Train) (x y : BedId) (f : Bed → Bed) :
    (t.onBed x f).bed y = if x = y then f (t.bed y) else t.bed y := by
  cases x <;> cases y <;> rfl

theorem Train.bed_onBed_other (t : Train) {x y : BedId} (other : x ≠ y) (f : Bed → Bed) : (t.onBed x f).bed y = t.bed y := by
  rw [Train.bed_onBed, if_neg other]

theorem Train.onBed_switch (t : Train) (x : BedId) (f : Bed → Bed) : (t.onBed x f).switch = t.switch := by
  cases x <;> rfl

/-- The beds of a train are sound, and so is its switch (R134, R140). -/
def Train.Ok (t : Train) : Prop := t.BedsOk ∧ t.SwitchOk

section
variable {t u : Train}

/-- At most one bed adsorbs, whichever beds are compared. -/
theorem Train.BedsOk.unique (ok : t.BedsOk) {x y : BedId} (hx : (t.bed x).state = .adsorbing)
    (hy : (t.bed y).state = .adsorbing) : x = y := ok.1 x (mem_allBeds x) y (mem_allBeds y) hx hy

theorem Train.BedsOk.dry (ok : t.BedsOk) {x : BedId} (standby : (t.bed x).state = .standby) : (t.bed x).loading = 0 :=
  ok.2 x (mem_allBeds x) standby

theorem Train.BedsOk.intro (unique : ∀ x y, (t.bed x).state = .adsorbing → (t.bed y).state = .adsorbing → x = y)
    (dry : ∀ x, (t.bed x).state = .standby → (t.bed x).loading = 0) : t.BedsOk :=
  ⟨fun x _ y _ => unique x y, fun x _ => dry x⟩

theorem adsorbing_spec {x : BedId} (h : t.adsorbing = some x) : (t.bed x).state = .adsorbing := by
  have found := List.find?_some h
  exact of_decide_eq_true found

theorem standby_spec {x : BedId} (h : t.standby = some x) : (t.bed x).state = .standby := by
  have found := List.find?_some h
  exact of_decide_eq_true found

theorem adsorbing_eq_none_iff : t.adsorbing = none ↔ ∀ x, (t.bed x).state ≠ .adsorbing := by
  simp [Train.adsorbing, List.find?_eq_none, mem_allBeds]

/-- The one bed that adsorbs is the ADSORBING bed. -/
theorem Train.BedsOk.adsorbing_eq (ok : t.BedsOk) {x : BedId} (state : (t.bed x).state = .adsorbing) :
    t.adsorbing = some x := by
  cases found : t.adsorbing with
  | none => exact absurd state (adsorbing_eq_none_iff.mp found x)
  | some y => rw [ok.unique (adsorbing_spec found) state]

theorem adsorbing_congr (same : ∀ x, (u.bed x).state = .adsorbing ↔ (t.bed x).state = .adsorbing) :
    u.adsorbing = t.adsorbing := by
  simp only [Train.adsorbing, same]

/-- A train without an opening switch is sound in its switch. -/
theorem Train.SwitchOk.of_idle (idle : ∀ op ∈ t.switch, op.phase ≠ .opening) : t.SwitchOk :=
  fun op member opening => absurd opening (idle op member)

theorem Train.SwitchOk.of_none (none : t.switch = none) : t.SwitchOk := .of_idle (by simp [none])

/-! ### Updates that keep a train sound -/

/-- What an update of a bed may do beside a switch in flight: neither enter nor leave ADSORBING, not leave STANDBY, and
enter STANDBY without loading only. -/
structure Bed.Follows (a b : Bed) : Prop where
  adsorbing : b.state = .adsorbing ↔ a.state = .adsorbing
  standby : a.state = .standby → b.state = .standby
  dry : (a.state = .standby → a.loading = 0) → b.state = .standby → b.loading = 0

theorem Bed.Follows.refl (a : Bed) : a.Follows a := ⟨Iff.rfl, id, id⟩

/-- An update that leaves the bed's state and loading. -/
theorem Bed.Follows.of_same {a b : Bed} (state : b.state = a.state) (loading : b.loading = a.loading) : a.Follows b :=
  ⟨by rw [state], by simp [state], by simp [state, loading]⟩

/-- An update of a bed that is neither STANDBY nor ADSORBING. -/
theorem Bed.Follows.of_apart {a b : Bed} (standby : a.state ≠ .standby) (adsorbing : a.state ≠ .adsorbing)
    (after : b.state ≠ .adsorbing) (dry : b.state = .standby → b.loading = 0) : a.Follows b :=
  ⟨iff_of_false after adsorbing, fun h => absurd h standby, fun _ => dry⟩

theorem Train.Ok.follows (ok : t.Ok) (switch : u.switch = t.switch) (beds : ∀ x, (t.bed x).Follows (u.bed x)) : u.Ok := by
  obtain ⟨sound, opening⟩ := ok
  refine ⟨.intro (fun x y hx hy => ?_) fun x => (beds x).dry fun standby => sound.dry standby, fun op member phase => ?_⟩
  · exact sound.unique ((beds x).adsorbing.mp hx) ((beds y).adsorbing.mp hy)
  · rw [switch] at member
    obtain ⟨incoming, outgoing⟩ := opening op member phase
    exact ⟨(beds _).standby incoming, outgoing.trans (adsorbing_congr fun x => (beds x).adsorbing).symm⟩

theorem Train.Ok.onBed (ok : t.Ok) {x : BedId} {f : Bed → Bed} (follows : (t.bed x).Follows (f (t.bed x))) :
    (t.onBed x f).Ok := by
  refine ok.follows (t.onBed_switch x f) fun y => ?_
  rw [Train.bed_onBed]
  split
  next same => exact same ▸ follows
  · exact .refl _

/-- An update of fields other than the beds and the switch. -/
theorem Train.Ok.of_same (ok : t.Ok) (switch : u.switch = t.switch) (beds : u.bed = t.bed) : u.Ok :=
  ok.follows switch fun _ => beds ▸ .refl _

/-- The beds stay sound where none enters ADSORBING and each that enters STANDBY is dry. -/
theorem Train.BedsOk.onBed (ok : t.BedsOk) {x : BedId} {f : Bed → Bed}
    (adsorbing : (f (t.bed x)).state = .adsorbing → (t.bed x).state = .adsorbing)
    (dry : (f (t.bed x)).state = .standby → (f (t.bed x)).loading = 0) : (t.onBed x f).BedsOk := by
  have before (y : BedId) (h : ((t.onBed x f).bed y).state = .adsorbing) : (t.bed y).state = .adsorbing := by
    rw [Train.bed_onBed] at h
    split at h
    next same => exact same ▸ adsorbing (same ▸ h)
    · exact h
  refine .intro (fun y z hy hz => ok.unique (before y hy) (before z hz)) fun y h => ?_
  rw [Train.bed_onBed] at h ⊢
  split at h
  next same =>
    subst same
    rw [if_pos rfl]
    exact dry h
  next other =>
    rw [if_neg other]
    exact ok.dry h

/-- A bed goes OUT_OF_SERVICE. -/
theorem Train.BedsOk.bedOut (ok : t.BedsOk) (x : BedId) :
    (t.onBed x fun y => { y with state := .outOfService }).BedsOk := ok.onBed nofun nofun

/-- A bed that no opening switch involves goes OUT_OF_SERVICE. -/
theorem Train.Ok.bedOut (ok : t.Ok) {x : BedId}
    (apart : ∀ op ∈ t.switch, op.phase = .opening → op.incoming ≠ x ∧ op.outgoing ≠ some x) :
    (t.onBed x fun y => { y with state := .outOfService }).Ok := by
  refine ⟨ok.1.bedOut x, fun op member phase => ?_⟩
  rw [Train.onBed_switch] at member
  obtain ⟨incoming, outgoing⟩ := ok.2 op member phase
  obtain ⟨notIn, notOut⟩ := apart op member phase
  rw [Train.bed_onBed_other _ (Ne.symm notIn)]
  refine ⟨incoming, outgoing.trans (adsorbing_congr fun y => ?_).symm⟩
  rw [Train.bed_onBed]
  split
  next same =>
    subst same
    exact iff_of_false nofun fun adsorbs => notOut (outgoing.trans (ok.1.adsorbing_eq adsorbs))
  · exact Iff.rfl

/-- A switch begins with a STANDBY bed and the ADSORBING one (R140). -/
theorem Train.Ok.beginSwitch (ok : t.Ok) {x : BedId} (standby : t.standby = some x) (valve : Nat) :
    ({ t with request := false, switch := some ⟨.opening, x, t.adsorbing, valve⟩ } : Train).Ok :=
  ⟨ok.1, fun op member _ => by
    obtain rfl := Option.mem_some.mp member
    exact ⟨standby_spec standby, rfl⟩⟩

/-- The incoming bed of an opening switch that replaces none begins to adsorb (R141). -/
theorem Train.Ok.openAlone (ok : t.Ok) {op : SwitchOp} (switch : t.switch = some op) (opening : op.phase = .opening)
    (alone : op.outgoing = none) : (t.onBed op.incoming Bed.beginAdsorbing).BedsOk := by
  have none := adsorbing_eq_none_iff.mp (((ok.2 op switch opening).2.symm.trans alone))
  have only (y : BedId) (h : ((t.onBed op.incoming Bed.beginAdsorbing).bed y).state = .adsorbing) : y = op.incoming := by
    by_contra other
    rw [Train.bed_onBed_other _ (Ne.symm other)] at h
    exact none y h
  refine .intro (fun y z hy hz => (only y hy).trans (only z hz).symm) fun y h => ?_
  rw [Train.bed_onBed] at h ⊢
  split at h
  · contradiction
  next other =>
    rw [if_neg other]
    exact ok.1.dry h

/-- The incoming bed of an opening switch begins to adsorb and the outgoing one to be released (R141). -/
theorem Train.Ok.openRelease (ok : t.Ok) {op : SwitchOp} {out : BedId} (switch : t.switch = some op)
    (opening : op.phase = .opening) (outgoing : op.outgoing = some out) :
    ((t.onBed op.incoming Bed.beginAdsorbing).onBed out fun y => { y with state := .releasing }).BedsOk := by
  have adsorbing := adsorbing_spec ((ok.2 op switch opening).2.symm.trans outgoing)
  have only (y : BedId) (h : (((t.onBed op.incoming Bed.beginAdsorbing).onBed out fun y =>
      { y with state := .releasing }).bed y).state = .adsorbing) : y = op.incoming := by
    rw [Train.bed_onBed] at h
    split at h
    · contradiction
    next kept =>
      by_contra other
      rw [Train.bed_onBed_other _ (Ne.symm other)] at h
      exact kept (ok.1.unique adsorbing h)
  refine .intro (fun y z hy hz => (only y hy).trans (only z hz).symm) fun y h => ?_
  rw [Train.bed_onBed] at h ⊢
  split at h
  · contradiction
  next kept =>
    rw [if_neg kept]
    rw [Train.bed_onBed] at h ⊢
    split at h
    · contradiction
    next other =>
      rw [if_neg other]
      exact ok.1.dry h

/-- The outgoing bed of an opening switch fails: the switch goes on without one (R143). -/
theorem Train.Ok.outgoingOut (ok : t.Ok) {op : SwitchOp} {x : BedId} (switch : t.switch = some op)
    (opening : op.phase = .opening) (incoming : op.incoming ≠ x) (outgoing : op.outgoing = some x) :
    ({ t.onBed x (fun y => { y with state := .outOfService }) with switch := some { op with outgoing := none } } : Train).Ok := by
  obtain ⟨standby, adsorbing⟩ := ok.2 op switch opening
  have adsorbs := adsorbing_spec (adsorbing.symm.trans outgoing)
  refine ⟨ok.1.bedOut x, fun o member _ => ?_⟩
  obtain rfl := Option.mem_some.mp member
  have bed (y : BedId) : (({ t.onBed x (fun y => { y with state := .outOfService }) with
      switch := some { op with outgoing := none } } : Train).bed y) =
        (t.onBed x (fun y => { y with state := .outOfService })).bed y := rfl
  constructor
  · rw [bed, Train.bed_onBed_other _ (Ne.symm incoming)]
    exact standby
  · refine (adsorbing_eq_none_iff.mpr fun y h => ?_).symm
    rw [bed, Train.bed_onBed] at h
    split at h
    · contradiction
    next kept => exact kept (ok.1.unique adsorbs h)

/-- A train whose beds are all UNSYNCED (R152, R153). -/
theorem Train.unsync_ok (t : Train) : t.unsync.Ok := by
  refine ⟨.intro (fun x _ h => ?_) fun x h => ?_, .of_none rfl⟩
  · cases x <;> contradiction
  · cases x <;> contradiction

theorem Train.initial_ok : Train.initial.Ok := by
  refine ⟨.intro (fun x _ h => ?_) fun x h => ?_, .of_none rfl⟩
  · cases x <;> contradiction
  · cases x <;> contradiction

/-- A train after a reset, with the state and the capacity that it published before (R135). -/
theorem Train.initial_ok_of (state : TrainState) (published : Nat) :
    ({ Train.initial with published := published, state := state } : Train).Ok :=
  Train.initial_ok.of_same rfl rfl

end

/-! ### Synchronisation (R136), water (R138), a DRYERS image (R135) and the clock -/

section
variable {t : Train}

theorem syncBed_standby (resume : Nat) (opened : Bool) {p : Position} (still : p ≠ .moving) (x : Bed)
    (standby : (syncBed resume opened p x).state = .standby) : (syncBed resume opened p x).loading = 0 := by
  cases p with
  | closed => rfl
  | opened => cases opened <;> contradiction
  | fault => contradiction
  | moving => contradiction

/-- Only the first bed reported OPEN adsorbs. -/
theorem syncBed_adsorbing (resume : Nat) {opened : Bool} {p : Position} (still : p ≠ .moving) (x : Bed)
    (adsorbing : (syncBed resume opened p x).state = .adsorbing) : p = .opened ∧ opened = false := by
  cases p with
  | closed => contradiction
  | opened =>
    cases opened with
    | true => contradiction
    | false => exact ⟨rfl, rfl⟩
  | fault => contradiction
  | moving => contradiction

/-- The train as a report with no bed MOVING synchronises it (R136). -/
def Train.synchronised (resume : Nat) (p : BedId → Position) (t : Train) : Train :=
  { t with
    synced := true
    request := false
    switch := none
    bedA := syncBed resume false (p .a) t.bedA
    bedB := syncBed resume (decide (p .a = .opened)) (p .b) t.bedB
    bedC := syncBed resume (decide (p .a = .opened) || decide (p .b = .opened)) (p .c) t.bedC }

theorem Train.synchronised_ok (resume : Nat) {p : BedId → Position} (still : ∀ x, p x ≠ .moving) (t : Train) :
    (t.synchronised resume p).Ok := by
  have earlier : ((t.synchronised resume p).bed .b).state = .adsorbing → p .a ≠ .opened := fun h =>
    of_decide_eq_false (syncBed_adsorbing resume (still .b) t.bedB h).2
  have last (h : ((t.synchronised resume p).bed .c).state = .adsorbing) : p .a ≠ .opened ∧ p .b ≠ .opened := by
    have none := (syncBed_adsorbing resume (still .c) t.bedC h).2
    simpa using none
  have first (h : ((t.synchronised resume p).bed .a).state = .adsorbing) : p .a = .opened :=
    (syncBed_adsorbing resume (still .a) t.bedA h).1
  have second (h : ((t.synchronised resume p).bed .b).state = .adsorbing) : p .b = .opened :=
    (syncBed_adsorbing resume (still .b) t.bedB h).1
  refine ⟨.intro (fun x y hx hy => ?_) fun x h => ?_, .of_none rfl⟩
  · cases x <;> cases y
    · rfl
    · exact absurd (first hx) (earlier hy)
    · exact absurd (first hx) (last hy).1
    · exact absurd (first hy) (earlier hx)
    · rfl
    · exact absurd (second hx) (last hy).2
    · exact absurd (first hy) (last hx).1
    · exact absurd (second hy) (last hx).2
    · rfl
  · cases x
    · exact syncBed_standby resume _ (still .a) _ h
    · exact syncBed_standby resume _ (still .b) _ h
    · exact syncBed_standby resume _ (still .c) _ h

theorem addWater_ok (mg : Nat) (ok : t.Ok) : (addWater mg t).Ok := by
  unfold addWater
  split
  next x adsorbing =>
    have state := adsorbing_spec adsorbing
    exact ok.onBed ⟨Iff.rfl, id, fun _ standby => nomatch state.symm.trans standby⟩
  · exact ok

theorem Bed.remeasure_follows (c : DryerCfg) (a : Bed) : a.Follows (a.remeasure c) := .of_same rfl rfl

theorem trainAfter_ok (old new : DryerCfg) (wasMarked : Bool) (ok : t.Ok) : (trainAfter old new wasMarked t).Ok := by
  have kept : (if wasMarked then t.unsync else t).Ok := by
    split
    · exact t.unsync_ok
    · exact ok
  unfold trainAfter
  split
  · refine kept.follows rfl fun x => ?_
    cases x <;> exact Bed.remeasure_follows new _
  · exact Train.initial_ok_of _ _

theorem Bed.advance_follows (adsorbs : Bool) (most : Nat) (a : Bed) : a.Follows (a.advance adsorbs most) := by
  unfold Bed.advance
  split
  · split
    · exact .of_same rfl rfl
    · exact .refl a
  all_goals exact .of_same rfl rfl

theorem Train.Ok.advance (ok : t.Ok) (withdrawing : Bool) (most : Nat) : (t.advance withdrawing most).Ok := by
  unfold Train.advance
  split
  · exact ok
  · refine ok.follows rfl fun x => ?_
    cases x <;> exact Bed.advance_follows _ most _

end

end Sys2Proof.Machine

/-!
SUPPORT. What every operation keeps of the beds and switches of the trains (R134, R140). The operations of the Drying Controller
write a train bed by bed and may leave its switch behind in between: `OkBut i q` says what train `i` then still meets.
-/

namespace Sys2Proof.Machine

/-! ### The trains of a state -/

/-- The beds and the switch of every train are sound. -/
def TrainsOk (s : State) : Prop := ∀ t ∈ s.dry.trains, t.Ok

/-- Every train but train `i` is sound, and train `i` meets `q`. -/
def OkBut (i : Nat) (q : Train → Prop) (s : State) : Prop :=
  ∀ j t, s.dry.trains[j]? = some t → (j = i → q t) ∧ (j ≠ i → t.Ok)

section
variable {s t : State} {i : Nat} {q r : Train → Prop}

theorem TrainsOk.of_dry (same : t.dry = s.dry) (ok : TrainsOk s) : TrainsOk t := by
  unfold TrainsOk
  rwa [same]

theorem OkBut.of_dry (same : t.dry = s.dry) (ok : OkBut i q s) : OkBut i q t := by
  unfold OkBut
  rwa [same]

/-- An operation of the duty controller or of the accounts reaches no train. -/
theorem ByDuty.trainsOk (frame : ByDuty s t) : TrainsOk s → TrainsOk t := .of_dry frame.dry

theorem ByDuty.okBut (frame : ByDuty s t) : OkBut i q s → OkBut i q t := .of_dry frame.dry

theorem TrainsOk.ite {c : Prop} [Decidable c] (hs : TrainsOk s) (ht : TrainsOk t) : TrainsOk (if c then s else t) := by
  split
  · exact hs
  · exact ht

theorem TrainsOk.foldl {α : Type} {f : State → α → State} (step : ∀ {t} a, TrainsOk t → TrainsOk (f t a)) (l : List α)
    (ok : TrainsOk s) : TrainsOk (l.foldl f s) :=
  List.foldlRecOn l f ok fun _ ht a _ => step a ht

theorem train_of_getElem? {t : Train} (place : s.dry.trains[i]? = some t) : s.train i = t := by
  rw [State.train, List.getD_eq_getElem?_getD, place, Option.getD_some]

/-- A train that is not in the list reads as one after a reset. -/
theorem TrainsOk.train (ok : TrainsOk s) (i : Nat) : (s.train i).Ok := by
  cases place : s.dry.trains[i]? with
  | none =>
    rw [State.train, List.getD_eq_getElem?_getD, place]
    exact Train.initial_ok
  | some t =>
    rw [train_of_getElem? place]
    exact ok t (List.mem_of_getElem? place)

theorem TrainsOk.but (ok : TrainsOk s) (i : Nat) : OkBut i (· = s.train i) s := fun _ t place =>
  ⟨fun same => (train_of_getElem? (same ▸ place)).symm, fun _ => ok t (List.mem_of_getElem? place)⟩

theorem OkBut.trainsOk (ok : OkBut i q s) (sound : ∀ t, q t → t.Ok) : TrainsOk s := fun t member => by
  obtain ⟨j, place⟩ := List.getElem?_of_mem member
  by_cases same : j = i
  · exact sound t ((ok j t place).1 same)
  · exact (ok j t place).2 same

theorem OkBut.onTrain {f : Train → Train} (ok : OkBut i q s) (after : ∀ t, q t → r (f t)) : OkBut i r (s.onTrain i f) := by
  intro j t place
  rw [State.onTrain_trains, List.getElem?_modify] at place
  obtain ⟨u, before, rfl⟩ := Option.map_eq_some_iff.mp place
  obtain ⟨there, other⟩ := ok j u before
  refine ⟨fun same => ?_, fun apart => ?_⟩
  · rw [if_pos same.symm]
    exact after u (there same)
  · rw [if_neg (Ne.symm apart)]
    exact other apart

/-- An update of one train is judged on that train. -/
theorem TrainsOk.onTrain {f : Train → Train} (ok : TrainsOk s) (kept : (s.train i).Ok → (f (s.train i)).Ok) :
    TrainsOk (s.onTrain i f) :=
  ((ok.but i).onTrain (r := Train.Ok) fun _ same => same ▸ kept (ok.train i)).trainsOk fun _ => id

/-- One update of a train after another, with nothing between them that reaches the trains. -/
theorem TrainsOk.onTrain_onTrain {f g : Train → Train} {u : State} (ok : TrainsOk s) (between : u.dry = (s.onTrain i f).dry)
    (kept : (s.train i).Ok → (g (f (s.train i))).Ok) : TrainsOk (u.onTrain i g) := by
  have first := (ok.but i).onTrain (f := f) (r := (· = f (s.train i))) fun _ same => congrArg f same
  have second := (first.of_dry between).onTrain (f := g) (r := Train.Ok) fun _ same => same ▸ kept (ok.train i)
  exact second.trainsOk fun _ => id

/-- The beds of a train stay sound through an update. -/
theorem TrainsOk.beds {f : Train → Train} (ok : TrainsOk s) (kept : (f (s.train i)).BedsOk) :
    OkBut i Train.BedsOk (s.onTrain i f) :=
  (ok.but i).onTrain fun _ same => same ▸ kept

end

/-! ### Train state, triggers and the ends of switches (R139 to R142, R151) -/

section
variable {s : State} (i : Nat)

theorem tellDrying_trainsOk (ok : TrainsOk s) : TrainsOk (tellDrying s) :=
  .ite ok ((acctDrying_frame _ _).trainsOk ok)

theorem evalTrain_trainsOk (ok : TrainsOk s) : TrainsOk (evalTrain i s) :=
  tellDrying_trainsOk <| (occurIf_frame _ _ _ _).trainsOk <| ok.onTrain fun train => train.of_same rfl rfl

theorem startTest_trainsOk (ok : TrainsOk s) : TrainsOk (startTest i s) := by
  unfold startTest
  dsimp only
  split
  · exact ok
  next x standby =>
    have train : (offerOwn (s.dryerCfg i).unit (.openBed x) s).train i = s.train i := by
      rw [State.train, (offerOwn_frame _ _ s).dry, State.train]
    refine .ite (TrainsOk.onTrain ((offerOwn_frame _ _ s).trainsOk ok) fun sound => ?_) ok
    exact sound.beginSwitch (train ▸ standby) _

theorem raiseRequest_trainsOk (ok : TrainsOk s) : TrainsOk (raiseRequest i s) :=
  startTest_trainsOk i <| ok.onTrain fun train => train.of_same rfl rfl

theorem bedTrigger_trainsOk (ok : TrainsOk s) : TrainsOk (bedTrigger i s) := .ite (raiseRequest_trainsOk i ok) ok

theorem loadingTrigger_trainsOk (ok : TrainsOk s) : TrainsOk (loadingTrigger i s) := .ite (bedTrigger_trainsOk i ok) ok

theorem noBedTrigger_trainsOk (ok : TrainsOk s) : TrainsOk (noBedTrigger i s) := .ite (raiseRequest_trainsOk i ok) ok

theorem entryTriggers_trainsOk (ok : TrainsOk s) : TrainsOk (entryTriggers i s) :=
  noBedTrigger_trainsOk i (loadingTrigger_trainsOk i ok)

/-- The end of a switch asks of its train sound beds alone: the switch is removed. -/
theorem endSwitch_trainsOk (ok : OkBut i Train.BedsOk s) : TrainsOk (endSwitch i s) := by
  refine startTest_trainsOk i (noBedTrigger_trainsOk i ?_)
  have removed := ok.onTrain (f := fun t => { t with switch := none }) (r := Train.Ok) fun _ beds => ⟨beds, .of_none rfl⟩
  exact removed.trainsOk fun _ => id

theorem bedOut_okBut (x : BedId) (ok : TrainsOk s) : OkBut i Train.BedsOk (bedOut i x s) :=
  (occur_frame _ _ _).okBut (ok.beds ((ok.train i).1.bedOut x))

/-- A bed goes out that no opening switch involves. -/
theorem bedOut_trainsOk {x : BedId} (apart : ∀ op ∈ (s.train i).switch, op.phase = .opening →
    op.incoming ≠ x ∧ op.outgoing ≠ some x) (ok : TrainsOk s) : TrainsOk (bedOut i x s) :=
  (occur_frame _ _ _).trainsOk (ok.onTrain fun train => train.bedOut apart)

theorem confirmOpening_trainsOk {op : SwitchOp} (switch : (s.train i).switch = some op) (opening : op.phase = .opening)
    (ok : TrainsOk s) : TrainsOk (confirmOpening i op s) := by
  unfold confirmOpening
  dsimp only
  split
  next alone =>
    exact endSwitch_trainsOk i ((occur_frame _ _ _).okBut (ok.beds ((ok.train i).openAlone switch opening alone)))
  next out outgoing =>
    refine ok.onTrain_onTrain (offerOwn_frame _ _ _).dry fun train => ⟨train.openRelease switch opening outgoing, ?_⟩
    exact .of_idle (by simp)

theorem failOpening_trainsOk (timeout : Bool) (op : SwitchOp) (ok : TrainsOk s) : TrainsOk (failOpening timeout i op s) := by
  have withdrawn := (withdrawOwn_frame (s.dryerCfg i).unit isOpenBed s).trainsOk ok
  refine endSwitch_trainsOk i ?_
  exact (bedOut_okBut i _ ((occurIf_frame _ _ _ _).trainsOk withdrawn)).onTrain fun _ => id

theorem confirmRelease_trainsOk (x : BedId) (ok : TrainsOk s) : TrainsOk (confirmRelease i x s) :=
  endSwitch_trainsOk i ((occur_frame _ _ _).okBut (ok.beds ((ok.train i).1.onBed nofun nofun)))

theorem failRelease_trainsOk (timeout : Bool) (x : BedId) (ok : TrainsOk s) : TrainsOk (failRelease timeout i x s) := by
  have withdrawn := (withdrawOwn_frame (s.dryerCfg i).unit isCloseBed s).trainsOk ok
  exact endSwitch_trainsOk i ((occur_frame _ _ _).okBut (withdrawn.beds ((withdrawn.train i).1.bedOut x)))

/-! ### Parity and valve-set reports (R136, R137, R143, R153) -/

theorem useTrain_trainsOk (ok : TrainsOk s) : TrainsOk (useTrain i s) := by
  have marked : TrainsOk (markEntry .dryers i i s) := (markEntry_frame i i s (by decide)).trainsOk ok
  have unsynced : TrainsOk ((withdrawAll (s.dryerCfg i).unit (markEntry .dryers i i s)).onTrain i Train.unsync) :=
    TrainsOk.onTrain ((withdrawAll_frame _ _).trainsOk marked) fun _ => Train.unsync_ok _
  exact .ite (.ite (evalTrain_trainsOk i unsynced) marked) ok

theorem synchronise_trainsOk {p : BedId → Position} (still : ∀ x, p x ≠ .moving) (ok : TrainsOk s) :
    TrainsOk (synchronise i p s) := by
  have synced : TrainsOk (s.onTrain i (Train.synchronised (s.dryerCfg i).resume p)) :=
    ok.onTrain fun _ => Train.synchronised_ok _ still _
  have outs (a b c : Bool) : TrainsOk (evalTrain i (occurIf a Src.bedOut i (occurIf b Src.bedOut i
      (occurIf c Src.bedOut i (s.onTrain i (Train.synchronised (s.dryerCfg i).resume p)))))) :=
    evalTrain_trainsOk i <| (occurIf_frame _ _ _ _).trainsOk <| (occurIf_frame _ _ _ _).trainsOk <|
      (occurIf_frame _ _ _ _).trainsOk synced
  exact .ite (evalTrain_trainsOk i (entryTriggers_trainsOk i (outs _ _ _))) (outs _ _ _)

theorem faultPlain_trainsOk {x : BedId} (apart : ∀ op ∈ (s.train i).switch, op.phase = .opening →
    op.incoming ≠ x ∧ op.outgoing ≠ some x) (ok : TrainsOk s) : TrainsOk (faultPlain i x s) := by
  have out := bedOut_trainsOk i apart ok
  unfold faultPlain
  split
  · exact out
  · exact noBedTrigger_trainsOk i out
  · exact out
  · exact out
  all_goals exact ok

theorem faultAt_trainsOk (x : BedId) (ok : TrainsOk s) : TrainsOk (faultAt i x s) := by
  unfold faultAt
  split
  next idle => exact faultPlain_trainsOk i (by simp [idle]) ok
  next op switch =>
    split
    · split
      · exact failOpening_trainsOk i false op ok
      next releasing => exact bedOut_trainsOk i (by simp [switch, releasing]) ok
    next incoming =>
      split
      next outgoing =>
        split
        next opening =>
          exact ok.onTrain_onTrain (occur_frame _ _ _).dry fun train => train.outgoingOut switch opening incoming outgoing
        · exact failRelease_trainsOk i false x ok
      next outgoing =>
        refine faultPlain_trainsOk i (fun o member _ => ?_) ok
        obtain rfl := Option.some.inj (switch.symm.trans member)
        exact ⟨incoming, outgoing⟩

theorem actPosition_trainsOk (before : Option SwitchOp) (x : BedId) (p : Position) (ok : TrainsOk s) :
    TrainsOk (actPosition i before x p s) := by
  unfold actPosition
  split
  · exact ok
  · exact evalTrain_trainsOk i (faultAt_trainsOk i x ok)
  · split
    next switch =>
      split
      next confirms => exact evalTrain_trainsOk i (confirmOpening_trainsOk i switch confirms.2.1 ok)
      · exact ok
    · exact ok
  · split
    · exact .ite (evalTrain_trainsOk i (confirmRelease_trainsOk i x ok)) ok
    · exact ok

theorem recordPositions_trainsOk (p : BedId → Position) (ok : TrainsOk s) : TrainsOk (recordPositions i p s) :=
  ok.onTrain fun train => train.follows rfl fun x => by cases x <;> exact .of_same rfl rfl

theorem trainReport_trainsOk (p : BedId → Position) (ok : TrainsOk s) : TrainsOk (trainReport i p s) := by
  have recorded := recordPositions_trainsOk i p (useTrain_trainsOk i ok)
  unfold trainReport
  dsimp only
  split
  · exact recorded
  · split
    · exact actPosition_trainsOk i _ .c _ (actPosition_trainsOk i _ .b _ (actPosition_trainsOk i _ .a _ recorded))
    · split
      · exact recorded
      next still =>
        refine synchronise_trainsOk i (fun x moving => still ?_) recorded
        exact List.any_eq_true.mpr ⟨x, mem_allBeds x, decide_eq_true moving⟩

end

section
variable {s : State}

theorem dryerReport_trainsOk (e : Nat) (payload : List Octet) (ok : TrainsOk s) : TrainsOk (dryerReport e payload s) := by
  unfold dryerReport
  split
  · exact trainReport_trainsOk _ _ ok
  · exact ok

/-! ### Notices to the trains (R77, R138, R139, R146, R152) -/

theorem useChannels_trainsOk (chs : List Nat) (ok : TrainsOk s) : TrainsOk (useChannels chs s) :=
  .of_dry (useChannels_dry chs s) ok

theorem trainVolume_trainsOk (i vb : Nat) (ok : TrainsOk s) : TrainsOk (trainVolume i vb s) := by
  have used := useTrain_trainsOk i ok
  refine .ite used (evalTrain_trainsOk i (loadingTrigger_trainsOk i ?_))
  exact (useChannels_trainsOk _ used).onTrain fun train => (addWater_ok _ train).of_same rfl rfl

theorem dryVolume_trainsOk (run vb : Nat) (ok : TrainsOk s) : TrainsOk (dryVolume run vb s) :=
  .foldl (fun i ht => .ite (trainVolume_trainsOk i vb ht) ht) _ ok

theorem breakthrough_trainsOk (i : Nat) (ok : TrainsOk s) : TrainsOk (breakthrough i s) := by
  have latched := (occur_frame Src.breakthrough i _).trainsOk (useTrain_trainsOk i ok)
  exact .ite latched (evalTrain_trainsOk i (bedTrigger_trainsOk i latched))

/-- A bed that is HEATING begins to cool. -/
theorem beginCooling_follows {a : Bed} (heating : a.state = .heating) : a.Follows a.beginCooling :=
  .of_apart (by simp [heating]) (by simp [heating]) nofun nofun

theorem testHeating_trainsOk (i : Nat) (x : BedId) (ok : TrainsOk s) : TrainsOk (testHeating i x s) := by
  have used := useChannels_trainsOk (s.dryerCfg i).regenCh.toList ok
  unfold testHeating
  split
  next heated =>
    have heating : ((s.train i).bed x).state = .heating :=
      of_decide_eq_true (Bool.and_eq_true_iff.mp heated).1
    have train : (useChannels (s.dryerCfg i).regenCh.toList s).train i = s.train i := by
      rw [State.train, useChannels_dry, State.train]
    refine .ite (used.onTrain fun sound => sound.onBed (beginCooling_follows ?_)) used
    rw [train]
    exact heating
  · exact ok

theorem testAllHeating_trainsOk (i : Nat) (ok : TrainsOk s) : TrainsOk (testAllHeating i s) :=
  .foldl (testHeating_trainsOk i) _ ok

theorem regenChanged_trainsOk (i : Nat) (ok : TrainsOk s) : TrainsOk (regenChanged i s) := by
  have used := useTrain_trainsOk i ok
  exact .ite used (evalTrain_trainsOk i (testAllHeating_trainsOk i used))

theorem trainComparator_trainsOk (i ch : Nat) (which : CmpId) (output : Bool) (ok : TrainsOk s) :
    TrainsOk (trainComparator i ch which output s) := by
  have broke {c d : Prop} [Decidable c] [Decidable d] :
      TrainsOk (if c then breakthrough i s else if d then useTrain i s else s) :=
    .ite (breakthrough_trainsOk i ok) (.ite (useTrain_trainsOk i ok) ok)
  exact .ite (.ite (regenChanged_trainsOk i broke) broke) ok

theorem dryComparator_trainsOk (ch : Nat) (which : CmpId) (output : Bool) (ok : TrainsOk s) :
    TrainsOk (dryComparator ch which output s) :=
  trainComparator_trainsOk 1 ch which output (trainComparator_trainsOk 0 ch which output ok)

theorem dryMode_trainsOk (m : Mode) (ok : TrainsOk s) : TrainsOk (dryMode m s) := by
  have told : TrainsOk { s with dry := { s.dry with heldMode := m } } := ok
  exact .ite (.foldl (fun i ht => .ite (evalTrain_trainsOk i (entryTriggers_trainsOk i ht)) ht) _ told) told

theorem dryDeparted_trainsOk (e : Nat) (ok : TrainsOk s) : TrainsOk (dryDeparted e s) := by
  unfold dryDeparted
  split
  · exact ok
  · exact evalTrain_trainsOk _ ((occurIf_frame _ _ _ _).trainsOk (ok.onTrain fun _ => Train.unsync_ok _))

theorem dryerCommand_trainsOk (e : Nat) (payload : List Octet) (ok : TrainsOk s) : TrainsOk (dryerCommand e payload s).1 := by
  unfold dryerCommand
  split
  · exact ok
  · split
    all_goals exact useTrain_trainsOk _ ok

/-! ### Timers and a DRYERS image (R135, R139, R146, R147) -/

theorem adsorbLimit_trainsOk (i : Nat) (ok : TrainsOk s) : TrainsOk (adsorbLimit i s) := by
  unfold adsorbLimit
  split
  · exact ok
  · exact evalTrain_trainsOk i (bedTrigger_trainsOk i (ok.onTrain fun train => train.onBed (.of_same rfl rfl)))

theorem heatReached_trainsOk (i : Nat) (x : BedId) (ok : TrainsOk s) : TrainsOk (heatReached i x s) :=
  evalTrain_trainsOk i (testHeating_trainsOk i x (ok.onTrain fun train => train.onBed (.of_same rfl rfl)))

theorem heatShort_trainsOk {i : Nat} {x : BedId} (due : s.heatShortDue i x = true) (ok : TrainsOk s) :
    TrainsOk (heatShort i x s) := by
  have heating : ((s.train i).bed x).state = .heating := by
    simp only [State.heatShortDue, Bool.and_eq_true, decide_eq_true_eq] at due
    exact due.1.1.2
  refine evalTrain_trainsOk i (((occur_frame _ _ s).trainsOk ok).onTrain fun train => train.onBed ?_)
  rw [occur_train]
  exact beginCooling_follows heating

theorem cooled_trainsOk {i : Nat} {x : BedId} (due : s.coolDue i x = true) (ok : TrainsOk s) : TrainsOk (cooled i x s) := by
  have cooling : ((s.train i).bed x).state = .cooling := by
    simp only [State.coolDue, Bool.and_eq_true, decide_eq_true_eq] at due
    exact due.1.2
  refine evalTrain_trainsOk i (startTest_trainsOk i (ok.onTrain fun train => train.onBed ?_))
  exact .of_apart (by simp [cooling]) (by simp [cooling]) nofun fun _ => rfl

theorem TrainsOk.whenDue {c : Bool} {t : State} (acts : c = true → TrainsOk t) (ok : TrainsOk s) :
    TrainsOk (if c then t else s) := by
  split
  next due => exact acts due
  · exact ok

theorem passedExpiries_trainsOk (i : Nat) (ok : TrainsOk s) : TrainsOk (passedExpiries i s) := by
  unfold passedExpiries
  refine .foldl (fun x ht => .whenDue (fun due => cooled_trainsOk due ht) ht) _ ?_
  refine .foldl (fun x ht => .whenDue (fun due => heatShort_trainsOk due ht) ht) _ ?_
  refine .foldl (fun x ht => .ite (heatReached_trainsOk i x ht) ht) _ ?_
  exact .ite (adsorbLimit_trainsOk i ok) ok

/-- Trains that are changed each by what keeps it sound. -/
theorem TrainsOk.mapIdx {t : State} {f : Nat → Train → Train} (ok : TrainsOk s) (trains : t.dry.trains = s.dry.trains.mapIdx f)
    (kept : ∀ i u, u.Ok → (f i u).Ok) : TrainsOk t := fun u member => by
  rw [trains] at member
  obtain ⟨i, place, rfl⟩ := List.mem_mapIdx.mp member
  exact kept i _ (ok _ (List.getElem_mem place))

theorem dryersTakeEffect_trainsOk (old : List DryerCfg) (wasMarked : Nat → Bool) (ok : TrainsOk s) :
    TrainsOk (dryersTakeEffect old wasMarked s) := by
  unfold dryersTakeEffect
  refine evalTrain_trainsOk 1 (evalTrain_trainsOk 0 (passedExpiries_trainsOk 1 (passedExpiries_trainsOk 0 ?_)))
  refine TrainsOk.mapIdx ?_ rfl fun i u sound => trainAfter_ok _ _ _ sound
  exact TrainsOk.foldl (f := fun s i => if (old.getD i .blank).inUse && !keepsTrain (old.getD i .blank) (s.dryerCfg i) then
    withdrawAll (old.getD i .blank).unit s else s) (fun _ ht => .ite ht ht) _ ((occur_frame _ _ s).trainsOk ok)

end

end Sys2Proof.Machine

/-!
SUPPORT. The trains stay sound through the mode machine, the meter runs, the sample channels, the Unit Directory and the frames
of both ports (R134, R140): these reach the trains through the notices to the Drying Controller alone.
-/

namespace Sys2Proof.Machine

section
variable {s : State}

/-! ### The mode machine (R90 to R99) -/

theorem checkStation_trainsOk (ok : TrainsOk s) : TrainsOk (checkStation s) := .of_dry (checkStation_keepsMeters s).dry ok

theorem tellMode_trainsOk (m : Mode) (ok : TrainsOk s) : TrainsOk (tellMode m s) :=
  dryMode_trainsOk m ((dutyMode_frame m { s with mode := { s.mode with mode := m } }).trainsOk ok)

theorem stopModeTimers_trainsOk (ok : TrainsOk s) : TrainsOk (stopModeTimers s) := ok

theorem enterShutIn_trainsOk (n : Nat) (ok : TrainsOk s) : TrainsOk (enterShutIn n s) :=
  (occur_frame _ _ _).trainsOk (tellMode_trainsOk _ ((offerLineup_frame .shut (stopModeTimers s)).trainsOk ok))

theorem failTransition_trainsOk (ok : TrainsOk s) : TrainsOk (failTransition s) := enterShutIn_trainsOk _ ok

theorem enterFlow_trainsOk (d : Dir) (ok : TrainsOk s) : TrainsOk (enterFlow d s) :=
  (occur_frame _ _ _).trainsOk (tellMode_trainsOk _ (stopModeTimers_trainsOk ok))

theorem enterLineup_trainsOk (d : Dir) (ok : TrainsOk s) : TrainsOk (enterLineup d s) := by
  have checked := checkStation_trainsOk (stopModeTimers_trainsOk ok)
  have offered (t : Option Nat) := (offerLineup_frame d.lineup { checkStation (stopModeTimers s) with
    mode := { (checkStation (stopModeTimers s)).mode with tLineup := t } }).trainsOk checked
  unfold enterLineup
  dsimp only
  split
  · exact tellMode_trainsOk _ (offered _)
  · exact failTransition_trainsOk checked

theorem evalStationFlow_trainsOk (ok : TrainsOk s) : TrainsOk (evalStationFlow s) := by
  have checked := checkStation_trainsOk ok
  exact .ite (.ite checked checked) checked

theorem flowNotice_trainsOk (ok : TrainsOk s) : TrainsOk (flowNotice s) := .ite (evalStationFlow_trainsOk ok) ok

theorem enterRundown_trainsOk (d : Dir) (ok : TrainsOk s) : TrainsOk (enterRundown d s) := by
  have checked := checkStation_trainsOk (stopModeTimers_trainsOk ok)
  have timed (t : Option Nat) : TrainsOk { checkStation (stopModeTimers s) with
    mode := { (checkStation (stopModeTimers s)).mode with tRundown := t } } := checked
  unfold enterRundown
  dsimp only
  exact evalStationFlow_trainsOk (tellMode_trainsOk _ (timed _))

theorem quietReached_trainsOk (d : Dir) (ok : TrainsOk s) : TrainsOk (quietReached d s) :=
  .ite (failTransition_trainsOk ok) (enterLineup_trainsOk d ok)

theorem setFlow_trainsOk (d : Dir) (ok : TrainsOk s) : TrainsOk (setFlow d s).2 := by
  unfold setFlow
  split
  any_goals dsimp only
  · exact enterLineup_trainsOk _ ok
  · exact ok
  · exact enterRundown_trainsOk _ ok
  · exact enterRundown_trainsOk _ ok
  · exact ok
  · split
    · exact ok
    · exact ok

theorem requestFlow_trainsOk (d : Dir) (ok : TrainsOk s) : TrainsOk (requestFlow d s).state := by
  have set := setFlow_trainsOk d ok
  unfold requestFlow
  split
  · exact ok
  · split
    all_goals
      rename_i flow
      rwa [flow] at set

theorem setMode_trainsOk (args : List Octet) (ok : TrainsOk s) : TrainsOk (setMode args s).state := by
  unfold setMode
  dsimp only
  split
  · dsimp only
    exact enterShutIn_trainsOk _ ok
  · split
    · exact requestFlow_trainsOk _ ok
    · split
      · exact requestFlow_trainsOk _ ok
      · exact ok

theorem setEsd_trainsOk (active : Bool) (ok : TrainsOk s) :
    TrainsOk (dutyEsd active { s with mode := { s.mode with esd := active } }) :=
  (dutyEsd_frame active { s with mode := { s.mode with esd := active } }).trainsOk ok

theorem esdActivated_trainsOk (ok : TrainsOk s) : TrainsOk (esdActivated s) := by
  have stopped := stopModeTimers_trainsOk (setEsd_trainsOk true ok)
  unfold esdActivated
  dsimp only
  exact (occur_frame _ _ _).trainsOk (tellMode_trainsOk _ ((withdrawLineup_frame _).trainsOk stopped))

theorem esdCleared_trainsOk (ok : TrainsOk s) : TrainsOk (esdCleared s) := setEsd_trainsOk false ok

theorem actLineup_trainsOk (l : Lineup) (ok : TrainsOk s) : TrainsOk (actLineup l s) := by
  unfold actLineup
  split
  · exact enterFlow_trainsOk .inject ok
  · exact enterFlow_trainsOk .withdraw ok
  · exact enterShutIn_trainsOk _ ok
  · exact enterShutIn_trainsOk _ ok
  · exact enterShutIn_trainsOk _ ok
  · exact enterShutIn_trainsOk _ ok
  · exact ok

theorem stationReport_trainsOk (payload : List Octet) (ok : TrainsOk s) : TrainsOk (stationReport payload s) := by
  unfold stationReport
  split
  next l e _ =>
    have recorded : TrainsOk (recordLineup (lineupOf l) s) := ok
    have cleared : TrainsOk (if s.mode.esd then esdCleared s else s) := .ite (esdCleared_trainsOk ok) ok
    exact .ite (actLineup_trainsOk _ cleared) (.ite recorded (esdActivated_trainsOk recorded))
  · exact ok

theorem stationDeparted_trainsOk (ok : TrainsOk s) : TrainsOk (stationDeparted s) := by
  unfold stationDeparted
  split
  · exact failTransition_trainsOk ok
  · exact ok

theorem changeFlag_trainsOk (flag : Bool) (ok : TrainsOk s) : TrainsOk (changeFlag flag s) :=
  (acctFlag_frame _ _).trainsOk <| (dutyFlag_frame _ _).trainsOk <|
    (occur_frame _ _ { s with mode := { s.mode with flag := flag } }).trainsOk ok

theorem pressureNotice_trainsOk (ch : Nat) (ok : TrainsOk s) : TrainsOk (pressureNotice ch s) := by
  have used : TrainsOk (usePressures (checkStation s)) := useChannels_trainsOk _ (checkStation_trainsOk ok)
  refine .ite ?_ ok
  dsimp only
  split
  · exact used
  · exact .ite used (changeFlag_trainsOk _ used)

/-! ### The meter runs (R66 to R79) -/

theorem computeTrigger_trainsOk (r mark : Nat) (ok : TrainsOk s) : TrainsOk (computeTrigger r mark s) := by
  have worked : TrainsOk (computed r mark (useInputs r s)) := .of_dry computed_dry ok
  have told : TrainsOk (tellVolume r ((useInputs r s).compute r mark).record (computed r mark (useInputs r s))) :=
    .ite (dryVolume_trainsOk r _ worked) worked
  rw [computeTrigger_eq]
  exact .ite (flowNotice_trainsOk told) told

theorem trigger_trainsOk (r : Nat) (ok : TrainsOk s) : TrainsOk (trigger r s) := by
  have checked := (checkRun_frame r s).trainsOk ok
  unfold trigger
  dsimp only
  repeat' split
  · exact checked
  · exact checked
  · exact computeTrigger_trainsOk r _ checked

theorem flowCompletion_trainsOk (ch : Nat) (ok : TrainsOk s) : TrainsOk (flowCompletion ch s) :=
  .foldl (fun r ht => .ite (trigger_trainsOk r ht) ht) _ ok

theorem refFault_trainsOk (r : Nat) (ok : TrainsOk s) : TrainsOk (refFault r s) :=
  .ite ok ((occur_frame _ _ (s.onRun r _)).trainsOk ok)

theorem refStale_trainsOk (r : Nat) (ok : TrainsOk s) : TrainsOk (refStale r s) :=
  .ite ((occur_frame _ _ (s.onRun r _)).trainsOk ok) ok

theorem calorificCompletion_trainsOk (ch : Nat) (ok : TrainsOk s) : TrainsOk (calorificCompletion ch s) := by
  refine .foldl (fun r ht => .ite ?_ ht) _ ok
  split
  · exact ht
  · exact refFault_trainsOk r ht
  · exact ht

theorem calorificAged_trainsOk (ch : Nat) (ok : TrainsOk s) : TrainsOk (calorificAged ch s) :=
  .foldl (fun r ht => .ite (refStale_trainsOk r ht) ht) _ ok

/-! ### Sample channels (R32 to R57) -/

theorem completionNotices_trainsOk (ch : Nat) (ok : TrainsOk s) : TrainsOk (completionNotices ch s) :=
  pressureNotice_trainsOk ch (calorificCompletion_trainsOk ch (flowCompletion_trainsOk ch ok))

theorem comparatorNotices_trainsOk (ch : Nat) (before : ChannelState) (ok : TrainsOk s) :
    TrainsOk (comparatorNotices ch before s) := by
  have told {c : Prop} [Decidable c] (which : CmpId) (output : Bool) {t : State} (ht : TrainsOk t) :
      TrainsOk (if c then t else dryComparator ch which output t) := .ite ht (dryComparator_trainsOk ch which output ht)
  exact told .b _ (told .a _ ok)

theorem finishConditioning_trainsOk (ch : Nat) (k : Conditioning) (ok : TrainsOk s) :
    TrainsOk (finishConditioning ch k s) := by
  have latched {t : State} (c : Bool) (n : Nat) (ht : TrainsOk t) : TrainsOk (occurIf c n ch t) :=
    (occurIf_frame _ _ _ _).trainsOk ht
  refine comparatorNotices_trainsOk ch _ (completionNotices_trainsOk ch ?_)
  exact latched _ _ (latched _ _ (latched _ _ (latched _ _ (t := s.onChan ch _) ok)))

theorem useChannel_trainsOk (ch : Nat) (ok : TrainsOk s) : TrainsOk (useChannel ch s) := .of_dry (useChannel_dry ch s) ok

theorem useFilter_trainsOk (n : Nat) (ok : TrainsOk s) : TrainsOk (useFilter n s) := (useFilter_frame n s).trainsOk ok

theorem beginCustody_trainsOk (ch : Nat) (ok : TrainsOk s) : TrainsOk (beginCustody ch s) := by
  have used := useChannel_trainsOk ch ok
  exact .ite (completionNotices_trainsOk ch (s := setBad ch _) used)
    (useFilter_trainsOk ((useChannel ch s).chCfg ch).profile used)

theorem accept_trainsOk (ch : Nat) (item : Item) (ok : TrainsOk s) : TrainsOk (accept ch item s) := by
  rw [accept_eq]
  unfold proceed
  split
  · exact beginCustody_trainsOk ch (s := s.onChan ch _) ok
  · exact ok
  · exact ok

theorem examinePending_trainsOk (ch : Nat) (ok : TrainsOk s) : TrainsOk (examinePending ch s) := by
  rcases examinePending_cases ch s with same | ⟨item, -, accepted⟩
  · rwa [same]
  · rw [accepted]
    exact accept_trainsOk ch item ok

theorem arrive_trainsOk (ch : Nat) (item : Item) (ok : TrainsOk s) : TrainsOk (arrive ch item s) := by
  have used := useChannel_trainsOk ch ok
  have bad : TrainsOk (setBad ch (useChannel ch s)) := used
  exact .ite (.ite (flowCompletion_trainsOk ch bad) bad) (.ite (accept_trainsOk ch item used) used)

theorem takeItem_trainsOk (e : Nat) (x : Nat × Item) (ok : TrainsOk s) : TrainsOk (takeItem e s x) := by
  unfold takeItem
  dsimp only
  repeat' split
  · exact ok
  · exact ok
  · exact arrive_trainsOk _ _ ok
  · exact ok
  · exact ok
  · exact arrive_trainsOk _ _ ok

theorem sampleFrame_trainsOk (e : Nat) (payload : List Octet) (ok : TrainsOk s) : TrainsOk (sampleFrame e payload s) :=
  .foldl (takeItem_trainsOk e) _ ok

theorem sweepCounts_trainsOk (ch : Nat) (ok : TrainsOk s) : TrainsOk (sweepCounts ch s) :=
  .ite ((occurIf_frame _ _ _ { s with engine := { s.engine with remaining := _ } }).trainsOk ok) ok

theorem withdrawRequest_trainsOk (ch : Nat) (ok : TrainsOk s) : TrainsOk (withdrawRequest ch s) :=
  .ite (sweepCounts_trainsOk ch (s := s.onChan ch _) ok) ok

theorem custodyDone_trainsOk (ch : Nat) (k : Conditioning) (ok : TrainsOk s) : TrainsOk (custodyDone ch k s) := by
  have ended : TrainsOk (s.onChan ch fun c => { c with custody := none }) := ok
  exact examinePending_trainsOk ch (.ite ended (finishConditioning_trainsOk ch k ended))

theorem beginService_trainsOk (ch : Nat) (ok : TrainsOk s) : TrainsOk (beginService ch s) := by
  have used := useChannel_trainsOk ch ok
  exact .ite (sweepCounts_trainsOk ch (s := setBad ch (dropPending ch _)) used)
    (useFilter_trainsOk ((useChannel ch s).chCfg ch).profile used)

theorem engineDone_trainsOk (ch : Nat) (k : Conditioning) (ok : TrainsOk s) : TrainsOk (engineDone ch k s) := by
  have freed : TrainsOk { s with engine := { s.engine with serving := none } } := ok
  exact examinePending_trainsOk ch (sweepCounts_trainsOk ch (.ite freed (finishConditioning_trainsOk ch k
    (s := State.onChan { s with engine := { s.engine with serving := none } } ch _) freed)))

theorem channelAged_trainsOk (ch : Nat) (ok : TrainsOk s) : TrainsOk (channelAged ch s) := by
  unfold channelAged
  dsimp only
  exact pressureNotice_trainsOk ch (calorificAged_trainsOk ch ((occur_frame _ _ (s.onChan ch _)).trainsOk ok))

theorem listChannel_trainsOk (ch : Nat) (ok : TrainsOk s) : TrainsOk (listChannel s ch) := by
  have used := useChannel_trainsOk ch ok
  exact .ite used (.ite used used)

theorem beginSweep_trainsOk (ok : TrainsOk s) : TrainsOk (beginSweep s) :=
  (occurIf_frame _ _ _ _).trainsOk (.foldl listChannel_trainsOk _ ok)

theorem sweepPeriod_trainsOk (ok : TrainsOk s) : TrainsOk (sweepPeriod s) := by
  have checked := checkStation_trainsOk ok
  have started : TrainsOk (startSweepTimer (checkStation s)) := checked
  exact .ite checked (.ite (beginSweep_trainsOk started) started)

theorem channelsDeparted_trainsOk (e : Nat) (ok : TrainsOk s) : TrainsOk (channelsDeparted e s) :=
  .foldl (fun {t} ch ht => .ite (withdrawRequest_trainsOk ch (s := dropPending ch t) ht) ht) _ ok

theorem resetChannel_trainsOk (ch : Nat) (ok : TrainsOk s) : TrainsOk (resetChannel ch s) := by
  have withdrawn := withdrawRequest_trainsOk ch ok
  unfold resetChannel voidService
  repeat' split
  all_goals exact withdrawn

theorem channelsTakeEffect_trainsOk (old : List ChannelCfg) (ok : TrainsOk s) : TrainsOk (channelsTakeEffect old s) :=
  .foldl (fun ch ht => .ite ht (resetChannel_trainsOk ch ht)) _ ((occur_frame _ _ s).trainsOk ok)

/-! ### The Unit Directory (R19 to R28) -/

theorem leavePresent_trainsOk (i : Nat) (cls : UnitClass) (ok : TrainsOk s) : TrainsOk (leavePresent i cls s) := by
  have departed := channelsDeparted_trainsOk i ((withdrawAll_frame i s).trainsOk ok)
  unfold leavePresent
  dsimp only
  split
  · exact (compDeparted_frame i _).trainsOk departed
  · exact dryDeparted_trainsOk i departed
  · exact stationDeparted_trainsOk departed
  all_goals exact departed

theorem entryGone_trainsOk (i : Nat) (was : Attach) (cls : UnitClass) (ok : TrainsOk s) : TrainsOk (entryGone i was cls s) := by
  have latched := (occur_frame Src.unitDeparted i s).trainsOk ok
  exact .ite (leavePresent_trainsOk i cls latched) latched

theorem unitFoundBad_trainsOk (i : Nat) (ok : TrainsOk s) : TrainsOk (unitFoundBad i s) := by
  have marked : TrainsOk (markEntry .units i i s) := by
    rw [markEntry_only]
    exact ok
  have gone : TrainsOk ((markEntry .units i i s).onUnit i fun u =>
    { u with attach := .absent, departed := false, silence := none }) := marked
  exact .ite (entryGone_trainsOk i _ _ gone) gone

theorem departEntry_trainsOk (i : Nat) (ok : TrainsOk s) : TrainsOk (departEntry i s) :=
  .ite ok (entryGone_trainsOk i _ _ (s := s.onUnit i _) ok)

theorem announce_trainsOk (i : Nat) (payload : List Octet) (ok : TrainsOk s) : TrainsOk (announce i payload s) := by
  unfold announce
  split
  · exact (occur_frame _ _ (s.onUnit i _)).trainsOk ok
  · exact ok

theorem releaseEntry_trainsOk (i : Nat) (ok : TrainsOk s) : TrainsOk (releaseEntry i s) := by
  unfold releaseEntry
  split
  all_goals exact ok

theorem resetUnitEntry_trainsOk (i : Nat) (cls : UnitClass) (ok : TrainsOk s) : TrainsOk (resetUnitEntry i cls s) := by
  have reset : TrainsOk (s.onUnit i fun _ => .initial) := ok
  exact .ite (entryGone_trainsOk i _ cls reset) reset

theorem lookupCheck_trainsOk (a : Addr) (ok : TrainsOk s) : TrainsOk (lookupCheck a s) := by
  unfold lookupCheck
  split
  · exact .ite (unitFoundBad_trainsOk _ ok) ok
  · exact ok

theorem unitsTakeEffect_trainsOk (old : List UnitCfg) (wasMarked : Nat → Bool) (ok : TrainsOk s) :
    TrainsOk (unitsTakeEffect old wasMarked s) :=
  .foldl (fun i ht => .ite ht (resetUnitEntry_trainsOk i _ ht)) _ ((occur_frame _ _ s).trainsOk ok)

/-! ### Answers and arbiters (R15 to R17, R196, R197) -/

theorem offerResponse_trainsOk (r : Response) (ok : TrainsOk s) : TrainsOk (offerResponse r s) := by
  rcases offerResponse_cases r s with ⟨-, offered⟩ | ⟨-, held⟩
  · rw [offered, leaveService_eq]
    exact ok
  · rw [held]
    exact ok

theorem answerRequest_trainsOk (q : Request) (status : Status) (result : List Octet) (ok : TrainsOk s) :
    TrainsOk (answerRequest q status result s) := by
  rw [answerRequest_frame]
  exact ok

theorem reoffer_trainsOk (ok : TrainsOk s) : TrainsOk (reoffer s) := by
  rcases reoffer_cases s with ⟨-, same⟩ | ⟨r, -, offered⟩
  · rwa [same]
  · rw [offered]
    exact offerResponse_trainsOk r ok

theorem sendResponse_trainsOk (r : Response) (rest : List Response) (ok : TrainsOk s) : TrainsOk (sendResponse r rest s) := by
  unfold sendResponse
  dsimp only
  split
  · exact reoffer_trainsOk (s := { s with link := _, resp := _ }) ok
  · exact ok

theorem selectPortS_trainsOk (ok : TrainsOk s) : TrainsOk (selectPortS s) := by
  have upstream : TrainsOk (sendUpstream s) := by
    unfold sendUpstream
    split
    all_goals exact ok
  unfold selectPortS
  repeat' split
  · exact upstream
  · exact sendResponse_trainsOk _ _ ok
  · exact ok
  · exact upstream

theorem selectPortF_trainsOk (ok : TrainsOk s) : TrainsOk (selectPortF s) := by
  have downstream : TrainsOk (sendDownstream s) := by
    unfold sendDownstream
    split
    all_goals exact ok
  unfold selectPortF
  repeat' split
  · exact downstream
  · exact ok
  · exact downstream

/-! ### The arrival of frames (R3, R5 to R11) -/

theorem checkOwnTable_trainsOk (ok : TrainsOk s) : TrainsOk (checkOwnTable s) := by
  rw [checkOwnTable_only]
  exact ok

theorem offerUpstream_trainsOk (f : Frame) (b : Nat) (ok : TrainsOk s) : TrainsOk (offerUpstream f b s) :=
  .ite ok ((occur_frame _ _ _).trainsOk ok)

theorem examineState_trainsOk (i : Nat) (payload : List Octet) (ok : TrainsOk s) : TrainsOk (examineState i payload s) := by
  unfold examineState
  split
  · exact (compressorReport_frame i payload s).trainsOk ok
  · exact dryerReport_trainsOk i payload ok
  · exact stationReport_trainsOk payload ok
  all_goals exact ok

theorem examine_trainsOk (i : Nat) (f : Frame) (ok : TrainsOk s) : TrainsOk (examine i f s) := by
  refine .ite (announce_trainsOk i _ ok) (.ite (departEntry_trainsOk i ok) (.ite ?_ (.ite ?_ ok)))
  · exact .ite (sampleFrame_trainsOk i _ ok) ok
  · exact .ite (examineState_trainsOk i _ ok) ok

theorem arriveF_trainsOk (f : Frame) (ok : TrainsOk s) : TrainsOk (arriveF f s) := by
  have looked := lookupCheck_trainsOk f.src (checkOwnTable_trainsOk ok)
  unfold arriveF
  dsimp only
  split
  next i _ =>
    have heard : TrainsOk (hear i (lookupCheck f.src (checkOwnTable s))) := looked
    exact .ite ((occur_frame _ _ _).trainsOk heard) (examine_trainsOk i f (offerUpstream_trainsOk _ _ heard))
  · exact .ite ((occur_frame _ _ _).trainsOk looked) (offerUpstream_trainsOk _ _ looked)

theorem judge_trainsOk (i : Nat) (payload : List Octet) (ok : TrainsOk s) : TrainsOk (judge i payload s).1 := by
  unfold judge
  split
  · exact (compressorCommand_frame i payload s).trainsOk ok
  · exact dryerCommand_trainsOk i payload ok
  · rw [stationCommand_frame]
    exact ok
  all_goals exact ok

theorem carryVerdict_trainsOk (i : Nat) (f : Frame) {r : State × Verdict} (ok : TrainsOk r.1) :
    TrainsOk (carryVerdict i f r) := by
  unfold carryVerdict
  split
  · exact ok
  · exact ok
  · exact (occur_frame _ _ _).trainsOk ok

theorem forwardDown_trainsOk (f : Frame) (ok : TrainsOk s) : TrainsOk (forwardDown f s) := by
  have looked := lookupCheck_trainsOk f.dst ok
  unfold forwardDown
  dsimp only
  repeat' split
  · exact (occur_frame _ _ _).trainsOk looked
  · exact carryVerdict_trainsOk _ f (judge_trainsOk _ _ looked)
  · exact looked
  · exact ok

theorem offerRequest_trainsOk (q : Request) (ok : TrainsOk s) : TrainsOk (offerRequest q s) := by
  have busy : TrainsOk (answerBusy q s) := .ite ok ok
  unfold offerRequest
  split
  · rcases enterService_cases { s with mgmt := { s.mgmt with waiting := s.mgmt.waiting ++ [q] } } with
      ⟨-, entered⟩ | ⟨_, _, -, -, entered⟩ <;> rw [entered]
    · exact ok
    · exact ok
  · exact (occur_frame _ _ _).trainsOk busy

theorem arriveS_trainsOk (f : Frame) (ok : TrainsOk s) : TrainsOk (arriveS f s) := by
  have checked := checkOwnTable_trainsOk ok
  unfold arriveS addressedS broadcastS
  dsimp only
  repeat' split
  · exact offerRequest_trainsOk _ checked
  · exact (occur_frame _ _ _).trainsOk checked
  · exact (occur_frame _ _ _).trainsOk checked
  · exact forwardDown_trainsOk f (offerRequest_trainsOk _ checked)
  · exact forwardDown_trainsOk f checked
  · exact forwardDown_trainsOk f checked

theorem takeFrameF_trainsOk (rx : Option (List Octet)) (ok : TrainsOk s) : TrainsOk (takeFrameF rx s) := by
  unfold takeFrameF
  repeat' split
  · exact ok
  · exact (occur_frame _ _ _).trainsOk ok
  · exact arriveF_trainsOk _ ok

theorem takeFrameS_trainsOk (rx : Option (List Octet)) (ok : TrainsOk s) : TrainsOk (takeFrameS rx s) := by
  unfold takeFrameS
  repeat' split
  · exact ok
  · exact (occur_frame _ _ _).trainsOk ok
  · exact arriveS_trainsOk _ ok

end

end Sys2Proof.Machine

/-!
SUPPORT. The trains stay sound through closes, boundaries, requests, table images and resets; then through every command, then
through the step (R134, R140).
-/

namespace Sys2Proof.Machine

section
variable {s : State}

/-! ### Closes and boundaries (R84 to R89, R166 to R180) -/

theorem withTime_trainsOk (t : TimeState) (ok : TrainsOk s) : TrainsOk { s with time := t } := ok

theorem raiseBoundary_trainsOk (ok : TrainsOk s) : TrainsOk (raiseBoundary s) := by
  obtain ⟨w, applied, raised⟩ := raiseBoundary_applied s
  rw [raised]
  exact withTime_trainsOk _ (.of_dry (applied.dry.trans (notified_keepsStation s).dry) ok)

theorem beginClose_trainsOk (n : Notice) (ok : TrainsOk s) : TrainsOk (beginClose n s) :=
  .of_dry (beginClose_keepsMeters s n).dry ok

theorem writeClose_trainsOk (op : CloseOp) (r : AllocResult) (ok : TrainsOk s) : TrainsOk (writeClose op r s) := by
  unfold writeClose joinHistory
  dsimp only
  repeat' split
  · exact ok
  · exact ok
  · exact (occurIf_frame _ _ _ { s with ret := _, free := _ }).trainsOk ok

theorem applyShippers_trainsOk (ok : TrainsOk s) : TrainsOk (applyShippers s) := by
  have installed (img : StoredImage) : TrainsOk (shippersTakeEffect img s) := by
    unfold shippersTakeEffect
    dsimp only
    exact (occur_frame _ _ _).trainsOk ok
  unfold applyShippers
  split
  · exact ok
  · exact .ite ok (installed _)

theorem nextClose_trainsOk (ok : TrainsOk s) : TrainsOk (nextClose s) := by
  unfold nextClose
  split
  · exact ok
  · exact beginClose_trainsOk _ ok

theorem completeClose_trainsOk (op : CloseOp) (r : AllocResult) (ok : TrainsOk s) : TrainsOk (completeClose op r s) := by
  have written : TrainsOk (writeClose op r { s with acct := { s.acct with closing := none } }) := writeClose_trainsOk op r ok
  have confirmed := (curtail_frame none _).trainsOk ((reclampAll_frame _).trainsOk (applyShippers_trainsOk written))
  unfold completeClose
  dsimp only
  refine nextClose_trainsOk ?_
  generalize curtail none _ = t at confirmed ⊢
  have closed := (occur_frame Src.intervalClosed noSubject { t with acct := { t.acct with provisional := false } }).trainsOk
    confirmed
  split
  · exact (occur_frame _ _ _).trainsOk closed
  · exact closed

theorem timeStep_trainsOk (count : Nat) (ok : TrainsOk s) : TrainsOk (timeStep count s) :=
  (occur_frame _ _ _).trainsOk (withTime_trainsOk _ ok)

theorem backwardStep_trainsOk (count : Nat) (ok : TrainsOk s) : TrainsOk (backwardStep count s) :=
  withTime_trainsOk _ (timeStep_trainsOk count ok)

theorem wrapTime_trainsOk (ok : TrainsOk s) : TrainsOk (wrapTime s) := by
  unfold wrapTime
  dsimp only
  exact .ite (withTime_trainsOk _ ok) (backwardStep_trainsOk _ ok)

theorem stepTime_trainsOk (count : Nat) (ok : TrainsOk s) : TrainsOk (stepTime count s).2 := by
  have stepped := timeStep_trainsOk count ok
  have forward (crosses : Bool) : TrainsOk (if crosses then
      if s.acct.closing.isSome then (Status.closing, s) else (.ok, raiseBoundary (timeStep count s))
      else (.ok, timeStep count s)).2 := by
    repeat' split
    · exact ok
    · exact raiseBoundary_trainsOk stepped
    · exact stepped
  unfold stepTime
  split
  · exact ok
  · split
    · exact backwardStep_trainsOk count ok
    · exact forward _

theorem setTime_trainsOk (args : List Octet) (ok : TrainsOk s) : TrainsOk (setTime args s).state := by
  have stepped := stepTime_trainsOk (fieldAt args 0 6) ok
  unfold setTime
  dsimp only
  split
  · exact raiseBoundary_trainsOk (withTime_trainsOk _ ok)
  · split
    next outcome => rwa [outcome] at stepped
    next outcome => rwa [outcome] at stepped

/-! ### Requests -/

theorem nominate_trainsOk (args : List Octet) (ok : TrainsOk s) : TrainsOk (nominate args s).state := by
  have checked (i : Nat) : TrainsOk (checkShipper i s) := (checkShipper_frame i s).trainsOk ok
  have current (i : Nat) (d : Dir) (n : Nat) {t : State} (ht : TrainsOk t) : TrainsOk (nominateCurrent i d n t).state := by
    have used := checkStation_trainsOk ht
    unfold nominateCurrent
    dsimp only
    split
    · exact used
    · exact (curtail_frame _ ((checkStation t).onSlot i _)).trainsOk used
  unfold nominate
  dsimp only
  repeat' split
  · exact ok
  · exact ok
  · exact ok
  · exact ok
  · exact checked _
  · exact current _ _ _ (checked _)
  · exact checked _

theorem carryTransfer_trainsOk (i j n : Nat) (ok : TrainsOk s) : TrainsOk (carryTransfer i j n s) :=
  .ite ok ((curtail_frame none (reclamp j (reclamp i (moveInventory i j n s)))).trainsOk ok)

theorem transfer_trainsOk (args : List Octet) (ok : TrainsOk s) : TrainsOk (transfer args s).state := by
  have checked (i j : Nat) : TrainsOk (checkShipper j (checkShipper i s)) :=
    (checkShipper_frame j _).trainsOk ((checkShipper_frame i s).trainsOk ok)
  unfold transfer
  dsimp only
  repeat' split
  · exact ok
  · exact ok
  · exact checked _ _
  · exact checked _ _
  · exact checked _ _
  · exact carryTransfer_trainsOk _ _ _ (checked _ _)
  · exact ok

theorem readClose_trainsOk (args : List Octet) (ok : TrainsOk s) : TrainsOk (readClose args s).state := by
  unfold readClose
  dsimp only
  repeat' split
  all_goals exact ok

theorem loadBegin_trainsOk (args : List Octet) (ok : TrainsOk s) : TrainsOk (loadBegin args s).state := by
  unfold loadBegin beginLoad
  repeat' split
  · exact ok
  · exact ok
  · exact ok
  · exact (occur_frame Src.tableProtected noSubject _).trainsOk ok
  · exact ok

theorem loadData_trainsOk (args : List Octet) (ok : TrainsOk s) : TrainsOk (loadData args s).state := by
  unfold loadData
  dsimp only
  repeat' split
  all_goals exact ok

theorem loadAbort_trainsOk (args : List Octet) (ok : TrainsOk s) : TrainsOk (loadAbort args s).state := by
  unfold loadAbort
  split
  all_goals exact ok

theorem releaseUnit_trainsOk (args : List Octet) (ok : TrainsOk s) : TrainsOk (releaseUnit args s).state := by
  unfold releaseUnit
  dsimp only
  repeat' split
  · exact ok
  · exact ok
  · exact ok
  · exact releaseEntry_trainsOk _ ok

theorem sweepRequest_trainsOk (args : List Octet) (ok : TrainsOk s) : TrainsOk (sweepRequest args s).state := by
  unfold sweepRequest
  split
  · exact beginSweep_trainsOk ok
  · exact ok

theorem readChannelRequest_trainsOk (args : List Octet) (ok : TrainsOk s) : TrainsOk (readChannelRequest args s).state := by
  unfold readChannelRequest
  dsimp only
  split
  · exact ok
  · exact useChannel_trainsOk _ ok

theorem readPeaks_trainsOk (args : List Octet) (ok : TrainsOk s) : TrainsOk (readPeaks args s).state := by
  unfold readPeaks
  dsimp only
  split
  · exact ok
  · exact useChannel_trainsOk _ ok

/-- A request naming a train is served on the state that the check of its entry leaves (R153). -/
theorem withTrain_trainsOk (i : Nat) {f : State → Reply} (ok : TrainsOk s)
    (serves : ∀ {t}, TrainsOk t → TrainsOk (f t).state) : TrainsOk (withTrain i s f).state := by
  have used := useTrain_trainsOk i ok
  unfold withTrain
  dsimp only
  repeat' split
  · exact ok
  · exact used
  · exact used
  · exact serves used

theorem holdTrain_trainsOk (args : List Octet) (ok : TrainsOk s) : TrainsOk (holdTrain args s).state :=
  withTrain_trainsOk _ ok fun ht => ht.onTrain fun train => train.of_same rfl rfl

theorem resumeTrain_trainsOk (args : List Octet) (ok : TrainsOk s) : TrainsOk (resumeTrain args s).state := by
  unfold resumeTrain
  refine withTrain_trainsOk _ ok fun ht => ?_
  dsimp only
  refine evalTrain_trainsOk _ (startTest_trainsOk _ (testAllHeating_trainsOk _ ?_))
  exact ht.onTrain fun train => train.of_same rfl rfl

theorem forceSwitch_trainsOk (args : List Octet) (ok : TrainsOk s) : TrainsOk (forceSwitch args s).state :=
  withTrain_trainsOk _ ok fun ht => by
    split
    · exact ht
    · exact evalTrain_trainsOk _ (raiseRequest_trainsOk _ ht)

/-- A bed out of service that no switch names enters HEATING (R149). -/
theorem returnBed_trainsOk (args : List Octet) (ok : TrainsOk s) : TrainsOk (returnBed args s).state := by
  unfold returnBed
  dsimp only
  split
  · exact ok
  next x _ =>
    refine withTrain_trainsOk _ ok fun {t} ht => ?_
    split
    · exact ht
    next taken =>
      have out : ((t.train (fieldAt args 0 1)).bed x).state = .outOfService := by
        simp only [Bool.or_eq_true, decide_eq_true_eq, not_or, not_not] at taken
        exact taken.1.1.2
      refine evalTrain_trainsOk _ (ht.onTrain fun train => train.onBed ?_)
      exact .of_apart (by simp [out]) (by simp [out]) nofun nofun

theorem readDryer_trainsOk (args : List Octet) (ok : TrainsOk s) : TrainsOk (readDryer args s).state := by
  unfold readDryer
  dsimp only
  split
  · exact ok
  · exact useTrain_trainsOk _ ok

/-! ### Table images (R203 to R207) -/

theorem ownerActs_trainsOk (t : TableId) (before : State) (ok : TrainsOk s) : TrainsOk (ownerActs t before s) := by
  cases t with
  | units => exact unitsTakeEffect_trainsOk _ _ ok
  | channels => exact channelsTakeEffect_trainsOk _ ok
  | compressors => exact (compressorsTakeEffect_frame _ s).trainsOk ok
  | dryers => exact dryersTakeEffect_trainsOk _ _ ok
  | link => exact (occur_frame _ _ s).trainsOk ok
  | filters => exact (occur_frame _ _ s).trainsOk ok
  | events => exact (occur_frame _ _ s).trainsOk ok
  | runs => exact ok
  | station => exact ok
  | shippers => exact ok

theorem installImage_trainsOk (t : TableId) (img : StoredImage) (ok : TrainsOk s) : TrainsOk (installImage t img s) := ok

theorem takeImage_trainsOk (t : TableId) (img : StoredImage) (ok : TrainsOk s) : TrainsOk (takeImage t img s) := by
  refine .ite (ownerActs_trainsOk t s (installImage_trainsOk t img ok)) ?_
  unfold makePending
  split
  all_goals exact ok

theorem useNamed_trainsOk (l : Load) (ok : TrainsOk s) : TrainsOk (l.useNamed s) := .ite (useChannels_trainsOk _ ok) ok

theorem refuseCommit_trainsOk (q : Request) (l : Load) (f : Finding) (ok : TrainsOk s) : TrainsOk (refuseCommit q l f s) := by
  have used := useNamed_trainsOk l ok
  unfold refuseCommit
  split
  · exact answerRequest_trainsOk q _ _ ok
  · exact answerRequest_trainsOk q _ _ ok
  · exact answerRequest_trainsOk q _ _ used
  · exact answerRequest_trainsOk q _ _ ((occur_frame _ _ _).trainsOk used)
  · exact ok

/-! ### Resets and the clock (R155, R201, R212) -/

/-- Trains as they stand after a reset (R155). -/
theorem TrainsOk.of_reset (reset : s.dry.trains = List.replicate 2 .initial) : TrainsOk s := fun t member => by
  rw [reset] at member
  rw [List.eq_of_mem_replicate member]
  exact Train.initial_ok

theorem fieldRestart_trainsOk : TrainsOk (fieldRestart s) := by
  have reset : TrainsOk (restartBlocks s) := .of_reset rfl
  exact (acctDrying_frame 0 _).trainsOk ((acctCompressor_frame 0 _).trainsOk reset)

theorem restart_trainsOk (args : List Octet) : TrainsOk (restart args s).state := by
  unfold restart
  dsimp only
  exact fieldRestart_trainsOk

theorem powerOnBlocks_trainsOk : TrainsOk (powerOnBlocks s) := by
  unfold powerOnBlocks
  dsimp only
  refine (compPowerOn_frame _).trainsOk (.of_dry (samplingReset_others _).2.1 (.of_reset ?_))
  rfl

theorem execPowerOnReset_trainsOk : TrainsOk (Nat.repeat (occur Src.tableParity noSubject) s.ret.failures (powerOnBlocks s)) := by
  induction s.ret.failures with
  | zero => exact powerOnBlocks_trainsOk
  | succ n ih => exact (occur_frame _ _ _).trainsOk ih

theorem tick_trainsOk (ok : TrainsOk s) : TrainsOk (tick s) := ok.mapIdx rfl fun _ _ train => train.advance _ _

end

/-! ### Every command -/

/-- An answer that goes on leaves sound trains. -/
def Answer.TrainsSound : Answer → Prop
  | .next t => TrainsOk t
  | .fault _ => True
  | .refused _ => True

section
variable {s : State}

theorem serve_trainsOk {code : Octet} {f : List Octet → State → Reply} (ok : TrainsOk s)
    (serves : ∀ args, TrainsOk (f args s).state) : (serve code f s).TrainsSound := by
  unfold serve
  split
  · exact ok
  · split
    · exact answerRequest_trainsOk _ _ _ (serves _)
    · exact answerRequest_trainsOk _ _ _ ok

/-- An event whose operand may name nothing, and which acts where its guard says so. -/
theorem guarded_trainsOk {c : Prop} [Decidable c] {d : Bool} {r : Refusal} {t : State} (ok : TrainsOk s)
    (acts : d = true → TrainsOk t) : Answer.TrainsSound (if c then .refused r else .next (if d then t else s)) := by
  split
  · trivial
  · exact TrainsOk.whenDue acts ok

/-- A request that a duty operation serves. -/
theorem serve_trainsOk_of_duty {code : Octet} {f : List Octet → State → Reply} (ok : TrainsOk s)
    (frame : ∀ args, ByDuty s (f args s).state) : (serve code f s).TrainsSound :=
  serve_trainsOk ok fun args => (frame args).trainsOk ok

theorem execLineupTimerExpiry_trainsOk (ok : TrainsOk s) : (execLineupTimerExpiry s).TrainsSound := by
  unfold execLineupTimerExpiry Answer.TrainsSound
  dsimp only
  split
  · exact .ite (failTransition_trainsOk ok) ok
  · exact ok

theorem execRundownTimerExpiry_trainsOk (ok : TrainsOk s) : (execRundownTimerExpiry s).TrainsSound := by
  unfold execRundownTimerExpiry Answer.TrainsSound
  dsimp only
  split
  · exact .ite (failTransition_trainsOk ok) ok
  · exact ok

theorem execQuietDwellExpiry_trainsOk (ok : TrainsOk s) : (execQuietDwellExpiry s).TrainsSound := by
  unfold execQuietDwellExpiry Answer.TrainsSound
  dsimp only
  split
  · exact .ite (quietReached_trainsOk _ ok) ok
  · exact ok

theorem execEngineSelect_trainsOk (ok : TrainsOk s) : (execEngineSelect s).TrainsSound := by
  unfold execEngineSelect Answer.TrainsSound
  dsimp only
  split
  · exact beginService_trainsOk _ ok
  · exact ok

theorem execEngineConditioningDone_trainsOk (ok : TrainsOk s) : (execEngineConditioningDone s).TrainsSound := by
  unfold execEngineConditioningDone
  split
  · exact ok
  · exact engineDone_trainsOk _ _ ok

theorem execCustodyConditioningDone_trainsOk (ch : Nat) (ok : TrainsOk s) : (execCustodyConditioningDone ch s).TrainsSound := by
  unfold execCustodyConditioningDone
  repeat' split
  · trivial
  · exact ok
  · exact custodyDone_trainsOk _ _ ok

theorem execOpeningValveTimeout_trainsOk (i : Nat) (ok : TrainsOk s) : (execOpeningValveTimeout i s).TrainsSound := by
  unfold execOpeningValveTimeout
  repeat' split
  · trivial
  · exact ok
  · exact evalTrain_trainsOk i (failOpening_trainsOk i true _ ok)

theorem execReleasingValveTimeout_trainsOk (i : Nat) (ok : TrainsOk s) : (execReleasingValveTimeout i s).TrainsSound := by
  unfold execReleasingValveTimeout
  repeat' split
  · trivial
  · exact ok
  · exact evalTrain_trainsOk i (failRelease_trainsOk i true _ ok)

theorem execCloseComplete_trainsOk (ok : TrainsOk s) : (execCloseComplete s).TrainsSound := by
  unfold execCloseComplete Answer.TrainsSound
  dsimp only
  repeat' split
  · exact ok
  · exact ok
  · exact completeClose_trainsOk _ _ ok

theorem execUnknownRequest_trainsOk (ok : TrainsOk s) : (execUnknownRequest s).TrainsSound := by
  unfold execUnknownRequest
  split
  · exact ok
  · exact TrainsOk.ite (answerRequest_trainsOk _ _ _ ok) ok

theorem execLoadCommit_trainsOk (ok : TrainsOk s) : (execLoadCommit s).TrainsSound := by
  unfold execLoadCommit
  repeat' split
  · exact ok
  · exact answerRequest_trainsOk _ _ _ ok
  · exact answerRequest_trainsOk _ _ _ ok
  · exact ok

theorem setLoad_trainsOk (l : Option Load) (ok : TrainsOk s) : TrainsOk (setLoad l s) := ok

theorem execCommitComplete_trainsOk (ok : TrainsOk s) : (execCommitComplete s).TrainsSound := by
  unfold execCommitComplete Answer.TrainsSound
  dsimp only
  split
  next q l _ =>
    exact .ite (answerRequest_trainsOk q _ _ (takeImage_trainsOk _ _ (setLoad_trainsOk none (useNamed_trainsOk l ok)))) ok
  · exact ok

theorem execCommitRefused_trainsOk (ok : TrainsOk s) : (execCommitRefused s).TrainsSound := by
  unfold execCommitRefused Answer.TrainsSound
  dsimp only
  split
  · exact refuseCommit_trainsOk _ _ _ ok
  · exact ok

theorem execAbortDelimiter_trainsOk (a : LineAbort) (ok : TrainsOk s) : (execAbortDelimiter a s).TrainsSound := by
  unfold execAbortDelimiter Answer.TrainsSound dropCollected
  dsimp only
  split
  all_goals exact ok

/-- Every command keeps the trains sound. -/
theorem exec_trainsOk (c : Instr) (ok : TrainsOk s) : Answer.TrainsSound (exec c s) := by
  cases c with
  | powerOnReset => exact execPowerOnReset_trainsOk
  | custodyLineChange => exact ok
  | frameArrivalPortF run =>
    exact takeFrameF_trainsOk _ (s := { s with link := { s.link with rxF := collect none run.behind } }) ok
  | frameArrivalPortS run =>
    exact takeFrameS_trainsOk _ (s := { s with link := { s.link with rxS := collect none run.behind } }) ok
  | portSSelect => exact TrainsOk.ite (selectPortS_trainsOk ok) ok
  | portSTransmitEnd => exact ok
  | portFSelect => exact TrainsOk.ite (selectPortF_trainsOk ok) ok
  | portFTransmitEnd => exact ok
  | silenceTimeout i => exact guarded_trainsOk ok fun _ => departEntry_trainsOk i ok
  | releaseUnit => exact serve_trainsOk ok fun a => releaseUnit_trainsOk a ok
  | readUnit => exact serve_trainsOk ok fun a => (readUnit_state a s).symm ▸ ok
  | intervalTimerExpiry ch => exact guarded_trainsOk ok fun _ => examinePending_trainsOk ch (s := s.onChan ch _) ok
  | custodyConditioningDone ch => exact execCustodyConditioningDone_trainsOk ch ok
  | engineSelect => exact execEngineSelect_trainsOk ok
  | engineConditioningDone => exact execEngineConditioningDone_trainsOk ok
  | ageTimerExpiry ch => exact guarded_trainsOk ok fun _ => channelAged_trainsOk ch ok
  | sweepPeriodExpiry => exact TrainsOk.ite (sweepPeriod_trainsOk ok) ok
  | sweep => exact serve_trainsOk ok fun a => sweepRequest_trainsOk a ok
  | readChannel => exact serve_trainsOk ok fun a => readChannelRequest_trainsOk a ok
  | readPeaks => exact serve_trainsOk ok fun a => readPeaks_trainsOk a ok
  | refStaleTimerExpiry r => exact guarded_trainsOk ok fun _ => refStale_trainsOk r ok
  | readRun => exact serve_trainsOk_of_duty ok fun a => readRun_frame a s
  | boundary => exact TrainsOk.ite (raiseBoundary_trainsOk ok) ok
  | timeWrap => exact TrainsOk.ite (wrapTime_trainsOk ok) ok
  | setTime => exact serve_trainsOk ok fun a => setTime_trainsOk a ok
  | setMode => exact serve_trainsOk ok fun a => setMode_trainsOk a ok
  | lineupTimerExpiry => exact execLineupTimerExpiry_trainsOk ok
  | rundownTimerExpiry => exact execRundownTimerExpiry_trainsOk ok
  | quietDwellExpiry => exact execQuietDwellExpiry_trainsOk ok
  | readStatus => exact serve_trainsOk (f := readStatus) ok fun _ => ok
  | startConfirmExpiry k => exact guarded_trainsOk ok fun _ => (failStart_frame k s).trainsOk ok
  | minimumRunExpiry k => exact guarded_trainsOk ok fun _ => (minimumRunOver_frame k s).trainsOk ok
  | stopConfirmExpiry k => exact guarded_trainsOk ok fun _ => (stopTimedOut_frame k s).trainsOk ok
  | cooldownExpiry k => exact guarded_trainsOk ok fun _ => (cooledDown_frame k s).trainsOk ok
  | startMarkAgeout k => exact guarded_trainsOk ok fun _ => (markAgeout_frame k s).trainsOk ok
  | resetUnit => exact serve_trainsOk_of_duty ok fun a => resetUnit_frame a s
  | setUnitAuto => exact serve_trainsOk_of_duty ok fun a => setUnitMode_frame .auto a s
  | setUnitManual => exact serve_trainsOk_of_duty ok fun a => setUnitMode_frame .manual a s
  | rotate => exact serve_trainsOk_of_duty ok fun a => rotate_frame a s
  | readCompressor => exact serve_trainsOk_of_duty ok fun a => readCompressor_frame a s
  | adsorbLimitExpiry i => exact guarded_trainsOk ok fun _ => adsorbLimit_trainsOk i ok
  | openingValveTimeout i => exact execOpeningValveTimeout_trainsOk i ok
  | releasingValveTimeout i => exact execReleasingValveTimeout_trainsOk i ok
  | heatTimeReached i x => exact guarded_trainsOk ok fun _ => heatReached_trainsOk i x ok
  | heatShort i x => exact guarded_trainsOk ok fun due => heatShort_trainsOk due ok
  | coolTimerExpiry i x => exact guarded_trainsOk ok fun due => cooled_trainsOk due ok
  | holdTrain => exact serve_trainsOk ok fun a => holdTrain_trainsOk a ok
  | resumeTrain => exact serve_trainsOk ok fun a => resumeTrain_trainsOk a ok
  | forceSwitch => exact serve_trainsOk ok fun a => forceSwitch_trainsOk a ok
  | returnBed => exact serve_trainsOk ok fun a => returnBed_trainsOk a ok
  | readDryer => exact serve_trainsOk ok fun a => readDryer_trainsOk a ok
  | nominate => exact serve_trainsOk ok fun a => nominate_trainsOk a ok
  | closeComplete => exact execCloseComplete_trainsOk ok
  | transfer => exact serve_trainsOk ok fun a => transfer_trainsOk a ok
  | readShipper => exact serve_trainsOk_of_duty ok fun a => readShipper_frame a s
  | readClose => exact serve_trainsOk ok fun a => readClose_trainsOk a ok
  | clearEvents => exact serve_trainsOk_of_duty ok fun a => clearEvents_frame a s
  | forceEvent => exact serve_trainsOk_of_duty ok fun a => forceEvent_frame a s
  | readEvents => exact serve_trainsOk_of_duty ok fun a => readEvents_frame a s
  | readTable => exact serve_trainsOk ok fun a => (readTable_state a s).symm ▸ ok
  | restart => exact serve_trainsOk ok restart_trainsOk
  | unknownRequest => exact execUnknownRequest_trainsOk ok
  | loadBegin => exact serve_trainsOk ok fun a => loadBegin_trainsOk a ok
  | loadData => exact serve_trainsOk ok fun a => loadData_trainsOk a ok
  | loadAbort => exact serve_trainsOk ok fun a => loadAbort_trainsOk a ok
  | loadCommit => exact execLoadCommit_trainsOk ok
  | commitComplete => exact execCommitComplete_trainsOk ok
  | abortDelimiter a => exact execAbortDelimiter_trainsOk a ok
  | commitRefused => exact execCommitRefused_trainsOk ok

theorem step_trainsOk (ok : TrainsOk s) : Answer.TrainsSound (step s) := by
  unfold step
  split
  · exact tick_trainsOk ok
  next c rest _ => exact exec_trainsOk c (s := { s with pending := rest }) ok

end

/-- Settles O57: a switch begins with a STANDBY and the ADSORBING bed, and its confirmation, its failure or a report of a FAULT
changes both of its beds together with it; every other update of a bed leaves who is ADSORBING and who STANDBY, but for a
bed that has cooled, which is dry and which no switch names. -/
theorem stepKeepsDryerBeds : Obligations.StepKeepsDryerBeds := by
  intro s t beds h
  have ok := step_trainsOk (s := s) beds
  rw [h] at ok
  exact ok

end Sys2Proof.Machine

/-!
SUPPORT. What the commands on compressors and on dryer trains change (spec/06 6.3, 6.4, 6.7, spec/07 7.4, 7.5, 7.8, R37): their
frames by level, with the responses of a request, and the one field of the engine that a check of a regen channel reaches.
-/

namespace Sys2Proof.Machine

/-! ### The engine at a check of a channel (R37, R46) -/

/-- Of the engine nothing differs but the list of channels that a sweep waits for. -/
def OnlySweeps (s t : State) : Prop := t.engine = { s.engine with remaining := t.engine.remaining }

section
variable {s t u : State}

theorem OnlySweeps.of_same (same : t.engine = s.engine) : OnlySweeps s t := by rw [OnlySweeps, same]

theorem OnlySweeps.trans (h : OnlySweeps s t) (k : OnlySweeps t u) : OnlySweeps s u :=
  Eq.trans k (by rw [show t.engine = _ from h])

theorem OnlySweeps.ite {c : Prop} [Decidable c] (h : OnlySweeps s t) (k : OnlySweeps s u) :
    OnlySweeps s (if c then t else u) := by
  split
  · exact h
  · exact k

theorem OnlySweeps.foldl {α : Type} {f : State → α → State} (step : ∀ s a, OnlySweeps s (f s a)) (l : List α) (s : State) :
    OnlySweeps s (l.foldl f s) := by
  induction l generalizing s with
  | nil => exact .of_same rfl
  | cons a l ih => exact (step s a).trans (ih _)

/-- An operation on the trains that reads no channel reaches no engine. -/
theorem ByTrain.onlySweeps (frame : ByTrain s t) : OnlySweeps s t := .of_same frame.engine

end

theorem sweepCounts_onlySweeps (ch : Nat) (s : State) : OnlySweeps s (sweepCounts ch s) := by
  refine .ite ?_ (.of_same rfl)
  have listed : OnlySweeps s { s with engine := { s.engine with
    remaining := s.engine.remaining.filter fun c => decide (c ≠ ch) } } := rfl
  exact listed.trans (.of_same (occurIf_frame _ _ _ _).engine)

theorem withdrawRequest_onlySweeps (ch : Nat) (s : State) : OnlySweeps s (withdrawRequest ch s) :=
  .ite (.trans (t := s.onChan ch _) (.of_same rfl) (sweepCounts_onlySweeps ch _)) (.of_same rfl)

theorem useChannel_onlySweeps (ch : Nat) (s : State) : OnlySweeps s (useChannel ch s) := by
  have dropped : OnlySweeps s (dropPending ch (markEntry .channels ch ch s)) :=
    .of_same (markEntry_frame (t := .channels) ch ch s (by decide)).engine
  exact .ite ((dropped.trans (withdrawRequest_onlySweeps ch _)).trans (.of_same rfl)) (.of_same rfl)

theorem useChannels_onlySweeps (chs : List Nat) (s : State) : OnlySweeps s (useChannels chs s) :=
  .foldl (fun t ch => useChannel_onlySweeps ch t) chs s

theorem testHeating_onlySweeps (i : Nat) (x : BedId) (s : State) : OnlySweeps s (testHeating i x s) := by
  have used := useChannels_onlySweeps (s.dryerCfg i).regenCh.toList s
  exact .ite (.ite (used.trans (.of_same rfl)) used) (.of_same rfl)

theorem testAllHeating_onlySweeps (i : Nat) (s : State) : OnlySweeps s (testAllHeating i s) :=
  .foldl (fun t x => testHeating_onlySweeps i x t) _ s

theorem heatReached_onlySweeps (i : Nat) (x : BedId) (s : State) : OnlySweeps s (heatReached i x s) :=
  ((onTrain_frame _ _ s).onlySweeps.trans (testHeating_onlySweeps i x _)).trans (evalTrain_frame i _).onlySweeps

theorem resumeTrain_onlySweeps (args : List Octet) (s : State) : OnlySweeps s (resumeTrain args s).state := by
  have used := (useTrain_frame (fieldAt args 0 1) s).onlySweeps
  unfold resumeTrain withTrain
  dsimp only
  repeat' split
  · exact .of_same rfl
  · exact used
  · exact used
  · dsimp only
    exact ((used.trans (onTrain_frame _ _ _).onlySweeps).trans (testAllHeating_onlySweeps _ _)).trans
      ((startTest_frame _ _).trans (evalTrain_frame _ _)).onlySweeps

/-! ### The fields that a command writes -/

/-- What a command on compressors may write: own commands, parity marks, duty records, accounts and events. -/
def State.dutyOf (s t : State) : State :=
  { s with own := t.own, parity := t.parity, comp := t.comp, acct := t.acct, ev := t.ev }

/-- What a request in service may write besides: the responses and the requests in service and waiting. -/
def State.askedOf (s t : State) : State :=
  { s with resp := t.resp, mgmt := { s.mgmt with waiting := t.mgmt.waiting, service := t.mgmt.service } }

/-- What a command on trains may write besides: the trains. -/
def State.trainsOf (s t : State) : State := { s with dry := t.dry }

/-- What a test of heating may write besides: the channels, and the list of those that a sweep waits for. -/
def State.channelsOf (s t : State) : State :=
  { s with chans := t.chans, engine := { s.engine with remaining := t.engine.remaining } }

section
variable {s t u : State}

theorem ByDuty.eq_dutyOf (frame : ByDuty s t) : t = s.dutyOf t :=
  Eq.trans frame (by rw [show t = _ from frame]; rfl)

theorem ByTrain.eq_dutyOf (frame : ByTrain s t) : t = (s.trainsOf t).dutyOf t :=
  Eq.trans frame (by rw [show t = _ from frame]; rfl)

theorem ByDrying.eq_dutyOf (frame : ByDrying s t) (sweeps : OnlySweeps s t) : t = ((s.trainsOf t).channelsOf t).dutyOf t := by
  have engine : t.engine = { s.engine with remaining := t.engine.remaining } := sweeps
  calc
    t = { s with
      own := t.own, comp := t.comp, acct := t.acct, ev := t.ev
      parity := { t.parity with link := s.parity.link, units := s.parity.units }
      dry := t.dry, chans := t.chans, engine := t.engine } := frame
    _ = { s with
      own := t.own, comp := t.comp, acct := t.acct, ev := t.ev, parity := t.parity
      dry := t.dry, chans := t.chans, engine := t.engine } := by rw [← frame.linkParity, ← frame.unitsParity]
    _ = ((s.trainsOf t).channelsOf t).dutyOf t := by rw [engine]; rfl

/-! ### Events and requests by what their operations write -/

/-- An event that goes on leaves the state, or what it does where it is due. -/
theorem next_of_guarded {c d : Prop} [Decidable c] [Decidable d] {r : Refusal}
    (h : (if c then .refused r else .next (if d then u else s) : Answer) = .next t) : t = s ∨ t = u := by
  split at h
  · contradiction
  · obtain rfl := Host.Outcome.next.inj h
    split
    · exact .inr rfl
    · exact .inl rfl

/-- A request leaves the state, or an answer to it on the state or on what it does. -/
theorem next_of_serve {code : Octet} {f : List Octet → State → Reply} (h : serve code f s = .next t) :
    t = s ∨ ∃ u, (u = s ∨ ∃ args, u = (f args s).state) ∧ t = u.askedOf t := by
  unfold serve at h
  split at h
  · exact .inl (Host.Outcome.next.inj h).symm
  · split at h
    all_goals
      obtain rfl := Host.Outcome.next.inj h
      refine .inr ⟨_, ?_, answerRequest_frame _ _ _ _⟩
    · exact .inr ⟨_, rfl⟩
    · exact .inl rfl

/-- A request writes what its answer does and what its operation does, where that takes in leaving the state. -/
theorem eq_of_serve {code : Octet} {f : List Octet → State → Reply} {after : State → State → State}
    (h : serve code f s = .next t) (same : s = after s s) (acts : ∀ args, (f args s).state = after s (f args s).state)
    (answers : ∀ {u}, u = after s u → t = u.askedOf t → t = after (s.askedOf t) t) : t = after (s.askedOf t) t := by
  rcases next_of_serve h with rfl | ⟨u, rfl | ⟨args, rfl⟩, asked⟩
  · exact answers same rfl
  · exact answers same asked
  · exact answers (acts args) asked

theorem dutyOf_of_serve {code : Octet} {f : List Octet → State → Reply} (frame : ∀ args, ByDuty s (f args s).state)
    (h : serve code f s = .next t) : t = (s.askedOf t).dutyOf t :=
  eq_of_serve (after := State.dutyOf) h rfl (fun args => (frame args).eq_dutyOf) fun {u} duty asked =>
    asked.trans (by rw [show t = _ from asked, show u = _ from duty]; rfl)
theorem trainsOf_of_serve {code : Octet} {f : List Octet → State → Reply} (frame : ∀ args, ByTrain s (f args s).state)
    (h : serve code f s = .next t) : t = ((s.askedOf t).trainsOf t).dutyOf t :=
  eq_of_serve (after := fun s t => (s.trainsOf t).dutyOf t) h rfl (fun args => (frame args).eq_dutyOf) fun {u} trains asked =>
    asked.trans (by rw [show t = _ from asked, show u = _ from trains]; rfl)

theorem channelsOf_of_serve {code : Octet} {f : List Octet → State → Reply} (frame : ∀ args, ByDrying s (f args s).state)
    (sweeps : ∀ args, OnlySweeps s (f args s).state) (h : serve code f s = .next t) :
    t = (((s.askedOf t).trainsOf t).channelsOf t).dutyOf t :=
  eq_of_serve (after := fun s t => ((s.trainsOf t).channelsOf t).dutyOf t) h rfl
    (fun args => (frame args).eq_dutyOf (sweeps args)) fun {u} dries asked =>
      asked.trans (by rw [show t = _ from asked, show u = _ from dries]; rfl)

theorem dutyOf_of_guarded {c d : Prop} [Decidable c] [Decidable d] {r : Refusal} (frame : ByDuty s u)
    (h : (if c then .refused r else .next (if d then u else s) : Answer) = .next t) : t = s.dutyOf t := by
  rcases next_of_guarded h with rfl | rfl
  · rfl
  · exact frame.eq_dutyOf

theorem trainsOf_of_guarded {c d : Prop} [Decidable c] [Decidable d] {r : Refusal} (frame : ByTrain s u)
    (h : (if c then .refused r else .next (if d then u else s) : Answer) = .next t) : t = (s.trainsOf t).dutyOf t := by
  rcases next_of_guarded h with rfl | rfl
  · rfl
  · exact frame.eq_dutyOf

/-- The same of an event that is due for something, and acts on that. -/
theorem trainsOf_of_elim {α : Type} {c : Prop} [Decidable c] {r : Refusal} {due : Option α} {f : α → State}
    (frame : ∀ a, ByTrain s (f a)) (h : (if c then .refused r else .next (due.elim s f) : Answer) = .next t) :
    t = (s.trainsOf t).dutyOf t := by
  split at h
  · contradiction
  · obtain rfl := Host.Outcome.next.inj h
    cases due with
    | none => rfl
    | some a => exact (frame a).eq_dutyOf

theorem exec_openingValveTimeout (i : Nat) (s : State) : exec (.openingValveTimeout i) s =
    if 2 ≤ i then .refused .noSuchTarget
    else .next ((s.valveDue i .opening).elim s fun op => evalTrain i (failOpening true i op s)) := by
  change execOpeningValveTimeout i s = _
  unfold execOpeningValveTimeout
  refine ite_congr rfl (fun _ => rfl) fun _ => ?_
  cases s.valveDue i .opening with
  | none => simp only [Option.elim_none]
  | some => simp only [Option.elim_some]

theorem exec_releasingValveTimeout (i : Nat) (s : State) : exec (.releasingValveTimeout i) s =
    if 2 ≤ i then .refused .noSuchTarget
    else .next (((s.valveDue i .releasing).bind SwitchOp.outgoing).elim s fun out =>
      evalTrain i (failRelease true i out s)) := by
  change execReleasingValveTimeout i s = _
  unfold execReleasingValveTimeout
  refine ite_congr rfl (fun _ => rfl) fun _ => ?_
  cases (s.valveDue i .releasing).bind SwitchOp.outgoing with
  | none => simp only [Option.elim_none]
  | some => simp only [Option.elim_some]

end

/-! ### The obligation -/

/-- Settles O52: each command by the frame of the operation that it carries out, for a request with that of its answer. -/
theorem dutyAndDryerCommandsChangeOnly : Obligations.DutyAndDryerCommandsChangeOnly := by
  intro s t i x asked duty heats
  refine ⟨fun c member h => ?dutyTimers, fun c member h => ?dutyRequests, fun c member h => ?trainTimers, fun h => ?heat,
    fun c member h => ?trainRequests, fun h => ?resume⟩
  case dutyTimers =>
    simp only [List.mem_cons, List.not_mem_nil, or_false] at member
    rcases member with rfl | rfl | rfl | rfl | rfl
    · exact dutyOf_of_guarded (failStart_frame i s) h
    · exact dutyOf_of_guarded (minimumRunOver_frame i s) h
    · exact dutyOf_of_guarded (stopTimedOut_frame i s) h
    · exact dutyOf_of_guarded (cooledDown_frame i s) h
    · exact dutyOf_of_guarded (markAgeout_frame i s) h
  case dutyRequests =>
    simp only [List.mem_cons, List.not_mem_nil, or_false] at member
    rcases member with rfl | rfl | rfl | rfl | rfl
    · exact dutyOf_of_serve (resetUnit_frame · s) h
    · exact dutyOf_of_serve (setUnitMode_frame .auto · s) h
    · exact dutyOf_of_serve (setUnitMode_frame .manual · s) h
    · exact dutyOf_of_serve (rotate_frame · s) h
    · exact dutyOf_of_serve (readCompressor_frame · s) h
  case trainTimers =>
    simp only [List.mem_cons, List.not_mem_nil, or_false] at member
    rcases member with rfl | rfl | rfl | rfl | rfl
    · exact trainsOf_of_guarded (adsorbLimit_frame i s) h
    · exact trainsOf_of_elim (fun op => (failOpening_frame true i op s).trans (evalTrain_frame i _))
        ((exec_openingValveTimeout i s).symm.trans h)
    · exact trainsOf_of_elim (fun out => (failRelease_frame true i out s).trans (evalTrain_frame i _))
        ((exec_releasingValveTimeout i s).symm.trans h)
    · exact trainsOf_of_guarded (heatShort_frame i x s) h
    · exact trainsOf_of_guarded (cooled_frame i x s) h
  case heat =>
    rcases next_of_guarded h with rfl | rfl
    · rfl
    · exact (heatReached_frame i x s).eq_dutyOf (heatReached_onlySweeps i x s)
  case trainRequests =>
    simp only [List.mem_cons, List.not_mem_nil, or_false] at member
    rcases member with rfl | rfl | rfl | rfl
    · exact trainsOf_of_serve (holdTrain_frame · s) h
    · exact trainsOf_of_serve (forceSwitch_frame · s) h
    · exact trainsOf_of_serve (returnBed_frame · s) h
    · exact trainsOf_of_serve (readDryer_frame · s) h
  case resume => exact channelsOf_of_serve (resumeTrain_frame · s) (resumeTrain_onlySweeps · s) h

end Sys2Proof.Machine

/-!
SUPPORT. The timers of a train and of its beds (R139, R141, R142, R146 to R148): when each is due, what its row then does, and
the test of heating by the regen channel that the train names.
-/

namespace Sys2Proof.Machine

/-! ### When a timer is due -/

section
variable {s : State} {i : Nat} {x : BedId}

theorem adsorbDue_iff (adsorbing : (s.train i).adsorbing = some x) : s.adsorbDue i = true ↔
    (s.train i).held = false ∧ ((s.train i).bed x).adsorbDone = false ∧
      (s.dryerCfg i).adsorbMax * 1000 ≤ ((s.train i).bed x).adsorbMs := by
  simp [State.adsorbDue, adsorbing, Config.second, and_assoc]

theorem adsorbDue_of_none (none : (s.train i).adsorbing = none) : s.adsorbDue i = false := by
  rw [State.adsorbDue, none]

theorem adsorbDue_of_held (held : (s.train i).held = true) : s.adsorbDue i = false := by
  unfold State.adsorbDue
  split
  · rfl
  · rw [held, Bool.not_true, Bool.false_and, Bool.false_and]

theorem valveDue_of_due {op : SwitchOp} {phase : SwitchPhase} (switch : (s.train i).switch = some op)
    (inPhase : op.phase = phase) (ended : op.valve ≤ s.now) : s.valveDue i phase = some op := by
  simp [State.valveDue, switch, inPhase, ended]

theorem valveDue_of_other {op : SwitchOp} {phase : SwitchPhase} (switch : (s.train i).switch = some op)
    (other : op.phase ≠ phase) : s.valveDue i phase = none := by
  simp [State.valveDue, switch, other]

theorem valveDue_of_early {phase : SwitchPhase} (early : ∀ op, (s.train i).switch = some op → s.now < op.valve) :
    s.valveDue i phase = none := by
  rw [State.valveDue, Option.filter_eq_none_iff]
  intro op switch
  simp [early op switch]

theorem heatDue_iff : s.heatDue i x = true ↔ (s.train i).held = false ∧ ((s.train i).bed x).state = .heating ∧
    ((s.train i).bed x).heatDone = false ∧ (s.dryerCfg i).heat * 1000 ≤ ((s.train i).bed x).heatMs := by
  simp [State.heatDue, Config.second, and_assoc]

theorem heatShortDue_iff : s.heatShortDue i x = true ↔ (s.train i).held = false ∧
    ((s.train i).bed x).state = .heating ∧ ((s.train i).bed x).heatDone = true ∧
    (s.dryerCfg i).heatMax * 1000 ≤ ((s.train i).bed x).heatMs := by
  simp [State.heatShortDue, Config.second, and_assoc]

theorem coolDue_iff : s.coolDue i x = true ↔ (s.train i).held = false ∧ ((s.train i).bed x).state = .cooling ∧
    (s.dryerCfg i).cool * 1000 ≤ ((s.train i).bed x).coolMs := by
  simp [State.coolDue, Config.second, and_assoc]

end

/-! ### The rows -/

section
variable {s : State} {i : Nat} (place : i < 2)
include place

theorem exec_adsorbLimitExpiry : exec (.adsorbLimitExpiry i) s =
    .next (if s.adsorbDue i = true then adsorbLimit i s else s) := if_neg (Nat.not_le.mpr place)

theorem exec_adsorbLimitExpiry_of_due {x : BedId} (adsorbing : (s.train i).adsorbing = some x)
    (due : s.adsorbDue i = true) : exec (.adsorbLimitExpiry i) s = .next (evalTrain i (bedTrigger i
      (s.onTrain i fun t => t.onBed x fun y => { y with adsorbDone := true }))) := by
  rw [exec_adsorbLimitExpiry place, if_pos due, adsorbLimit, adsorbing]

theorem exec_adsorbLimitExpiry_of_idle (idle : s.adsorbDue i = false) : exec (.adsorbLimitExpiry i) s = .next s := by
  rw [exec_adsorbLimitExpiry place, idle, if_neg Bool.false_ne_true]

theorem exec_openingValveTimeout_of_due {op : SwitchOp} (due : s.valveDue i .opening = some op) :
    exec (.openingValveTimeout i) s = .next (evalTrain i (failOpening true i op s)) := by
  rw [exec_openingValveTimeout, if_neg (Nat.not_le.mpr place), due, Option.elim_some]

theorem exec_openingValveTimeout_of_idle (idle : s.valveDue i .opening = none) :
    exec (.openingValveTimeout i) s = .next s := by
  rw [exec_openingValveTimeout, if_neg (Nat.not_le.mpr place), idle, Option.elim_none]

theorem exec_releasingValveTimeout_of_due {op : SwitchOp} {out : BedId} (due : s.valveDue i .releasing = some op)
    (outgoing : op.outgoing = some out) :
    exec (.releasingValveTimeout i) s = .next (evalTrain i (failRelease true i out s)) := by
  rw [exec_releasingValveTimeout, if_neg (Nat.not_le.mpr place), due, Option.bind_some, outgoing, Option.elim_some]

theorem exec_releasingValveTimeout_of_idle (idle : s.valveDue i .releasing = none) :
    exec (.releasingValveTimeout i) s = .next s := by
  rw [exec_releasingValveTimeout, if_neg (Nat.not_le.mpr place), idle, Option.bind_none, Option.elim_none]

variable (x : BedId)

theorem exec_heatTimeReached : exec (.heatTimeReached i x) s =
    .next (if s.heatDue i x = true then heatReached i x s else s) := if_neg (Nat.not_le.mpr place)

theorem exec_heatShort : exec (.heatShort i x) s =
    .next (if s.heatShortDue i x = true then heatShort i x s else s) := if_neg (Nat.not_le.mpr place)

theorem exec_coolTimerExpiry : exec (.coolTimerExpiry i x) s =
    .next (if s.coolDue i x = true then cooled i x s else s) := if_neg (Nat.not_le.mpr place)

end

/-! ### The test of heating (R37, R146) -/

section
variable {s : State} {i : Nat} {x : BedId}

theorem heated_iff : s.heated i x = true ↔ ((s.train i).bed x).state = .heating ∧
    (s.dryerCfg i).heat * 1000 ≤ ((s.train i).bed x).heatMs := by
  simp [State.heated, Config.second]

theorem readChannel_quality_iff (s : State) (ch : Nat) :
    (s.readChannel ch).1 = .good ∨ (s.readChannel ch).1 = .suspect ↔ s.Trusts ch := by
  unfold State.readChannel State.Trusts
  split
  next inUse => cases quality : (s.chan ch).quality <;> simp [inUse]
  next unused => simp [unused]

/-- The comparator that the train names is true, and its channel may be trusted. -/
def State.Regenerated (s : State) (c : DryerCfg) (ch : Nat) : Prop :=
  (c.regenCmp = some .a ∧ (s.chan ch).cmpA = true ∨ c.regenCmp = some .b ∧ (s.chan ch).cmpB = true) ∧ s.Trusts ch

theorem regenReached_iff {c : DryerCfg} {ch : Nat} (named : c.regenCh = some ch) :
    s.regenReached c = true ↔ s.Regenerated c ch := by
  rw [State.Regenerated, ← readChannel_quality_iff, State.regenReached, named]
  simp only [Bool.and_eq_true]
  refine and_congr ?_ ?_
  · cases c.regenCmp with
    | none => simp
    | some which => cases which <;> simp
  · cases (s.readChannel ch).1 <;> simp

theorem regenReached_of_none {c : DryerCfg} (none : c.regenCh = none) : s.regenReached c = true := by
  rw [State.regenReached, none]

theorem testHeating_of_not (not : ¬s.heated i x = true) : testHeating i x s = s := if_neg not

/-- A bed whose regeneration is complete begins to cool. -/
def endHeating (i : Nat) (x : BedId) (s : State) : State :=
  if s.regenReached (s.dryerCfg i) = true then s.onTrain i fun t => t.onBed x Bed.beginCooling else s

theorem testHeating_of_heated (heated : s.heated i x = true) :
    testHeating i x s = endHeating i x (useChannels (s.dryerCfg i).regenCh.toList s) :=
  if_pos heated

theorem testHeating_of_noChannel (heated : s.heated i x = true) (none : (s.dryerCfg i).regenCh = none) :
    testHeating i x s = s.onTrain i fun t => t.onBed x Bed.beginCooling := by
  rw [testHeating_of_heated heated, none]
  exact if_pos (regenReached_of_none none)

theorem testHeating_of_channel {ch : Nat} (heated : s.heated i x = true) (named : (s.dryerCfg i).regenCh = some ch)
    (sound : s.foundBad .channels ch = false) : testHeating i x s = endHeating i x s := by
  rw [testHeating_of_heated heated, useChannels_of_sound]
  intro c member
  rw [named, Option.toList_some, List.mem_singleton] at member
  rw [member]
  exact sound

theorem useChannels_heated (chs : List Nat) : (useChannels chs s).heated i x = s.heated i x := by
  rw [State.heated, useChannels_dryerCfg, State.train, useChannels_dry, State.heated, State.train]

/-- A test of heating works on the state in which its channel was checked. -/
theorem testHeating_useChannel {ch : Nat} (heated : s.heated i x = true) (named : (s.dryerCfg i).regenCh = some ch) :
    testHeating i x s = testHeating i x (useChannel ch s) := by
  have checked : useChannel ch s = useChannels (s.dryerCfg i).regenCh.toList s := by
    rw [named]
    rfl
  have still := (useChannels_heated (s.dryerCfg i).regenCh.toList).trans heated
  rw [checked, testHeating_of_heated heated, testHeating_of_heated still, useChannels_dryerCfg, useChannels_again]

end

/-! ### The obligation -/

/-- Settles O33: each timer by its guard, a failed switch as the operation that ends it, and the test of heating by the
regen channel that the train names. -/
theorem dryerTimersExpire : Obligations.DryerTimersExpire := by
  intro s i x place t c bed outOf finished
  refine ⟨fun adsorbing free fresh reached => ?limit, fun rests => ?atRest, fun adsorbing early => ?early,
    fun op switch opening ended => ⟨?opening, ?_⟩, fun op out switch releasing ended outgoing => ⟨?releasing, ?_⟩,
    fun early => ⟨?_, ?_⟩, fun still => ?still, fun free heating => ?heating, fun free cooling => ?cooling, ?test⟩
  case limit =>
    exact exec_adsorbLimitExpiry_of_due place adsorbing ((adsorbDue_iff adsorbing).mpr ⟨free, fresh, reached⟩)
  case atRest =>
    refine exec_adsorbLimitExpiry_of_idle place ?_
    rcases rests with none | held
    · exact adsorbDue_of_none none
    · exact adsorbDue_of_held held
  case early =>
    refine exec_adsorbLimitExpiry_of_idle place (Bool.eq_false_iff.mpr fun due => ?_)
    obtain ⟨-, fresh, reached⟩ := (adsorbDue_iff adsorbing).mp due
    rcases early with done | before
    · exact Bool.false_ne_true (fresh.symm.trans done)
    · exact Nat.not_le.mpr before reached
  case opening => exact exec_openingValveTimeout_of_due place (valveDue_of_due switch opening ended)
  case releasing => exact exec_releasingValveTimeout_of_due place (valveDue_of_due switch releasing ended) outgoing
  case still =>
    rw [exec_heatTimeReached place, exec_heatShort place, exec_coolTimerExpiry place]
    refine ⟨congrArg _ (if_neg fun due => ?_), congrArg _ (if_neg fun due => ?_), congrArg _ (if_neg fun due => ?_)⟩
    · obtain ⟨free, heating, -⟩ := heatDue_iff.mp due
      exact still.elim (Bool.false_ne_true ∘ free.symm.trans) fun rests => rests.1 heating
    · obtain ⟨free, heating, -⟩ := heatShortDue_iff.mp due
      exact still.elim (Bool.false_ne_true ∘ free.symm.trans) fun rests => rests.1 heating
    · obtain ⟨free, cooling, -⟩ := coolDue_iff.mp due
      exact still.elim (Bool.false_ne_true ∘ free.symm.trans) fun rests => rests.2 cooling
  case heating =>
    rw [exec_heatTimeReached place, exec_heatShort place]
    refine ⟨fun fresh reached => ?_, fun before => ?_, fun done reached => ?_, fun before => ?_⟩
    · exact congrArg _ (if_pos (heatDue_iff.mpr ⟨free, heating, fresh, reached⟩))
    · exact congrArg _ (if_neg fun due => Nat.not_le.mpr before (heatDue_iff.mp due).2.2.2)
    · exact congrArg _ (if_pos (heatShortDue_iff.mpr ⟨free, heating, done, reached⟩))
    · exact congrArg _ (if_neg fun due => Nat.not_le.mpr before (heatShortDue_iff.mp due).2.2.2)
  case cooling =>
    rw [exec_coolTimerExpiry place]
    refine ⟨fun reached => ?_, fun before => ?_⟩
    · exact congrArg _ (if_pos (coolDue_iff.mpr ⟨free, cooling, reached⟩))
    · exact congrArg _ (if_neg fun due => Nat.not_le.mpr before (coolDue_iff.mp due).2.2)
  case test =>
    intro cooling
    refine ⟨fun not => testHeating_of_not fun heated => ?_, fun heating reached => ?_⟩
    · obtain ⟨heating, reached⟩ := heated_iff.mp heated
      exact not.elim (absurd heating) fun before => Nat.not_le.mpr before reached
    have heated := heated_iff.mpr ⟨heating, reached⟩
    refine ⟨testHeating_of_noChannel heated, fun ch named => ?_⟩
    intro reached
    refine ⟨fun sound holds => ?_, fun sound fails => ?_, fun _ => ?_⟩
    · exact (testHeating_of_channel heated named sound).trans (if_pos ((regenReached_iff named).mpr holds))
    · exact (testHeating_of_channel heated named sound).trans (if_neg (mt (regenReached_iff named).mp fails))
    · exact testHeating_useChannel heated named
  · exact exec_releasingValveTimeout_of_idle place (valveDue_of_other switch (by rw [opening]; nofun))
  · exact exec_openingValveTimeout_of_idle place (valveDue_of_other switch (by rw [releasing]; nofun))
  · exact exec_openingValveTimeout_of_idle place (valveDue_of_early early)
  · exact exec_releasingValveTimeout_of_idle place (valveDue_of_early early)

end Sys2Proof.Machine

/-!
SUPPORT. The requests on trains (R145, R148, R149, R153, R154): the checks that they share, and each of them on a train in use
whose entry is sound.
-/

namespace Sys2Proof.Machine

/-! ### The checks that a request naming a train begins with (R153) -/

section
variable {s : State} {i : Nat} {f : State → Reply}

theorem useTrain_trainInUse (i j : Nat) (s : State) : (useTrain i s).trainInUse j = s.trainInUse j := by
  rw [State.trainInUse, State.dryerCfg, (useTrain_frame i s).tables, State.trainInUse, State.dryerCfg]

/-- A train found bad or marked before is marked once its entry has been checked. -/
theorem useTrain_marked_of (spoiled : s.foundBad .dryers i = true ∨ s.marked .dryers i = true) :
    (useTrain i s).marked .dryers i = true := by
  rcases spoiled with bad | marked
  · exact useTrain_marked bad
  · rw [useTrain_of_sound (not_foundBad_of_marked marked)]
    exact marked

theorem useTrain_of_bad_unused (bad : s.foundBad .dryers i = true) (unused : s.trainInUse i = false) :
    useTrain i s = markEntry .dryers i i s := by
  rw [useTrain, if_pos bad, unused, if_neg Bool.false_ne_true]

theorem useTrain_of_bad (bad : s.foundBad .dryers i = true) (inUse : s.trainInUse i = true) : useTrain i s =
    evalTrain i ((withdrawAll (s.dryerCfg i).unit (markEntry .dryers i i s)).onTrain i Train.unsync) := by
  rw [useTrain, if_pos bad, if_pos inUse]

theorem withTrain_of_none (none : 1 < i) : withTrain i s f = ⟨.badArgument, [], s⟩ := if_pos none

theorem withTrain_eq (valid : i ≤ 1) : withTrain i s f =
    if s.trainInUse i = false then ⟨.unknownTarget, [], useTrain i s⟩
    else if (useTrain i s).marked .dryers i = true then ⟨.wrongState, [], useTrain i s⟩ else f (useTrain i s) := by
  unfold withTrain refuse
  dsimp only
  rw [if_neg (Nat.not_lt.mpr valid), useTrain_trainInUse]
  simp only [Bool.not_eq_true']

theorem withTrain_of_notInUse (valid : i ≤ 1) (unused : s.trainInUse i = false) :
    withTrain i s f = ⟨.unknownTarget, [], useTrain i s⟩ := by
  rw [withTrain_eq valid, if_pos unused]

theorem withTrain_of_marked (valid : i ≤ 1) (inUse : s.trainInUse i = true)
    (spoiled : s.foundBad .dryers i = true ∨ s.marked .dryers i = true) :
    withTrain i s f = ⟨.wrongState, [], useTrain i s⟩ := by
  rw [withTrain_eq valid, if_neg (ne_false_of_eq_true inUse), if_pos (useTrain_marked_of spoiled)]

/-- The train is one of the part's, in use, and its entry neither marked nor bad. -/
structure State.ServesTrain (s : State) (i : Nat) : Prop where
  valid : i ≤ 1
  inUse : s.trainInUse i = true
  clear : s.marked .dryers i = false
  sound : s.foundBad .dryers i = false

theorem withTrain_of_serves (serves : s.ServesTrain i) : withTrain i s f = f s := by
  obtain ⟨valid, inUse, clear, sound⟩ := serves
  rw [withTrain_eq valid, if_neg (ne_false_of_eq_true inUse), useTrain_of_sound sound, if_neg (ne_true_of_eq_false clear)]

end

/-- The refusals that the requests naming a train share: no such train, one not in use, a parity mark. -/
theorem serve_withTrain_refused {s : State} {q : Request} {code : Octet} {args : List Octet} {i : Nat}
    {h : List Octet → State → Reply} {f : State → Reply} (asks : s.Asks q code args)
    (known : knownRequests.contains code = true) (sized : args.length = requestLength code args)
    (checks : h args s = withTrain i s f) :
    (1 < i → serve code h s = .next (s.answered q .badArgument [])) ∧
    (i ≤ 1 → s.trainInUse i = false → serve code h s = .next (answerRequest q .unknownTarget [] (useTrain i s))) ∧
    (i ≤ 1 → s.trainInUse i = true → s.foundBad .dryers i = true ∨ s.marked .dryers i = true →
      serve code h s = .next (answerRequest q .wrongState [] (useTrain i s))) := by
  refine ⟨fun none => ?_, fun valid unused => ?_, fun valid inUse spoiled => ?_⟩
  · exact serve_of_asks_same asks known sized (checks.trans (withTrain_of_none none))
  · rw [serve_of_asks asks known sized, checks, withTrain_of_notInUse valid unused]
  · rw [serve_of_asks asks known sized, checks, withTrain_of_marked valid inUse spoiled]

/-! ### The arguments -/

theorem fieldAt_head (b : Octet) (more : List Octet) : fieldAt (b :: more) 0 1 = b.toNat := by
  simp [fieldAt, ofBe]

theorem bedOf_eq_none_iff (l : Octet) : bedOf l = none ↔ 2 < l.toNat := by
  unfold bedOf
  split
  next zero => simp [zero]
  next notZero =>
    split
    next one => simp [one]
    next notOne =>
      split
      next two => simp [two]
      next notTwo =>
        simp only [true_iff]
        bv_omega

/-! ### HOLD_TRAIN, RESUME_TRAIN and FORCE_SWITCH (R145, R148) -/

section
variable {s : State} {b : Octet} (serves : s.ServesTrain b.toNat)
include serves

theorem holdTrain_of_serves (place : b.toNat < s.dry.trains.length) : holdTrain [b] s =
    ⟨.ok, be 1 (s.train b.toNat).state.code ++ [1], s.onTrain b.toNat fun t => { t with held := true }⟩ := by
  rw [holdTrain, fieldAt_single, withTrain_of_serves serves]
  dsimp only
  rw [State.holdResult, State.train_onTrain, if_pos ⟨rfl, place⟩]
  rfl

omit serves in
theorem testAllHeating_eq (i : Nat) (s : State) :
    testAllHeating i s = testHeating i .c (testHeating i .b (testHeating i .a s)) := by
  simp only [testAllHeating, allBeds, List.foldl_cons, List.foldl_nil]

theorem resumeTrain_of_serves {u : State} (resumed : u =
    evalTrain b.toNat (startTest b.toNat (testAllHeating b.toNat (s.onTrain b.toNat fun t => { t with held := false })))) :
    resumeTrain [b] s = ⟨.ok, be 1 (u.train b.toNat).state.code ++ beFlag (u.train b.toNat).held, u⟩ := by
  rw [resumeTrain, fieldAt_single, withTrain_of_serves serves]
  dsimp only
  rw [← resumed, State.holdResult]

theorem forceSwitch_of_refused (refused : s.dry.heldMode ≠ .withdraw ∨ (s.train b.toNat).state = .outOfService ∨
    (s.train b.toNat).switch ≠ none) : forceSwitch [b] s = ⟨.wrongState, [], s⟩ := by
  rw [forceSwitch, fieldAt_single, withTrain_of_serves serves]
  refine if_pos ?_
  simpa [State.withdrawing, Option.isSome_iff_ne_none, or_assoc] using refused

theorem forceSwitch_of_taken (withdraw : s.dry.heldMode = .withdraw) (inService : (s.train b.toNat).state ≠ .outOfService)
    (idle : (s.train b.toNat).switch = none) {u : State} (raised : u = evalTrain b.toNat (raiseRequest b.toNat s)) :
    forceSwitch [b] s = ⟨.ok, be 1 (u.train b.toNat).state.code ++ be 1 (if (u.train b.toNat).switch.isSome then 0 else 1), u⟩ := by
  rw [forceSwitch, fieldAt_single, withTrain_of_serves serves]
  dsimp only
  rw [← raised]
  refine if_neg ?_
  simp [State.withdrawing, withdraw, inService, idle]

/-! ### RETURN_BED (R149) -/

omit serves in
theorem switchNames_iff {t : Train} {x : BedId} :
    t.switchNames x = false ↔ ∀ op, t.switch = some op → op.incoming ≠ x ∧ op.outgoing ≠ some x := by
  unfold Train.switchNames
  cases t.switch <;> simp

/-- The bed stands closed and out of service, and no switch names it. -/
def State.Returnable (s : State) (i : Nat) (x : BedId) : Prop :=
  (s.train i).synced = true ∧ ((s.train i).bed x).state = .outOfService ∧ ((s.train i).bed x).report = some .closed ∧
    ∀ op, (s.train i).switch = some op → op.incoming ≠ x ∧ op.outgoing ≠ some x

omit serves in
theorem returnBed_guard_iff {i : Nat} {x : BedId} :
    (!(s.train i).synced || decide (((s.train i).bed x).state ≠ .outOfService) ||
      decide (((s.train i).bed x).report ≠ some .closed) || (s.train i).switchNames x) = false ↔ s.Returnable i x := by
  simp only [State.Returnable, ← switchNames_iff, Bool.or_eq_false_iff, Bool.not_eq_false', decide_eq_false_iff_not, not_not,
    and_assoc]

/-- What RETURN_BED does on a train that may be acted on. -/
def returned (i : Nat) (x : BedId) (s : State) : Reply :=
  if !(s.train i).synced || decide (((s.train i).bed x).state ≠ .outOfService) ||
      decide (((s.train i).bed x).report ≠ some .closed) || (s.train i).switchNames x then refuse .wrongState s
  else
    let u := evalTrain i (s.onTrain i fun t => t.onBed x Bed.beginHeating)
    ⟨.ok, be 1 ((u.train i).bed x).state.code, u⟩

omit serves in
theorem returnBed_of_bed {l : Octet} {x : BedId} (names : bedOf l = some x) :
    returnBed [b, l] s = withTrain b.toNat s (returned b.toNat x) := by
  have argument : [b, l].getD 1 0 = l := rfl
  unfold returnBed
  rw [argument, names, fieldAt_head]
  rfl

omit serves in
theorem returnBed_of_noBed {l : Octet} (none : 2 < l.toNat) : returnBed [b, l] s = ⟨.badArgument, [], s⟩ := by
  have argument : [b, l].getD 1 0 = l := rfl
  unfold returnBed
  rw [argument, (bedOf_eq_none_iff l).mpr none]
  rfl

variable {l : Octet} {x : BedId} (names : bedOf l = some x)
include names

theorem returnBed_of_not (not : ¬s.Returnable b.toNat x) : returnBed [b, l] s = ⟨.wrongState, [], s⟩ := by
  rw [returnBed_of_bed names, withTrain_of_serves serves, returned, refuse]
  exact if_pos (Bool.of_not_eq_false (mt returnBed_guard_iff.mp not))

theorem returnBed_of_returnable (free : s.Returnable b.toNat x) {u : State}
    (heating : u = evalTrain b.toNat (s.onTrain b.toNat fun t => t.onBed x Bed.beginHeating)) :
    returnBed [b, l] s = ⟨.ok, be 1 ((u.train b.toNat).bed x).state.code, u⟩ := by
  rw [returnBed_of_bed names, withTrain_of_serves serves, returned]
  dsimp only
  rw [← heating]
  exact if_neg (ne_true_of_eq_false (returnBed_guard_iff.mpr free))

end

section
variable {s : State} {b : Octet}

/-! ### READ_DRYER (R154) -/

theorem readDryer_of_none (none : 1 < b.toNat) : readDryer [b] s = ⟨.badArgument, [], s⟩ := by
  rw [readDryer, fieldAt_single, if_pos none, refuse]

theorem readDryer_of_train (valid : b.toNat ≤ 1) : readDryer [b] s =
    ⟨.ok, (useTrain b.toNat s).dryerResult b.toNat, useTrain b.toNat s⟩ := by
  rw [readDryer, fieldAt_single, if_neg (Nat.not_lt.mpr valid)]

end

/-! ### The rows -/

theorem exec_holdTrain (s : State) : exec .holdTrain s = serve 0x28 holdTrain s := rfl

theorem exec_resumeTrain (s : State) : exec .resumeTrain s = serve 0x29 resumeTrain s := rfl

theorem exec_forceSwitch (s : State) : exec .forceSwitch s = serve 0x2A forceSwitch s := rfl

theorem exec_returnBed (s : State) : exec .returnBed s = serve 0x2B returnBed s := rfl

theorem exec_readDryer (s : State) : exec .readDryer s = serve 0x07 readDryer s := rfl

/-! ### The obligation -/

/-- Settles O34: the refusals that the requests share, then each request on a train it may act on. -/
theorem trainRequests : Obligations.TrainRequests := by
  refine ⟨fun s i => ?result, fun s q b l => ?_⟩
  case result =>
    intro t used code elapsed bed switch
    have codes : bedCode = code := funext fun x => by cases x <;> rfl
    have times (x : Bed) : x.elapsed = elapsed x := by
      unfold Bed.elapsed
      cases state : x.state <;> simp [elapsed, state]
    have beds (x : Bed) : x.result used = bed x := by rw [Bed.result, times]
    have op : switchResult s.now (s.train i).switch = switch := by
      dsimp only [switch, t]
      rw [← codes]
      cases (s.train i).switch <;> rfl
    have inUse : s.trainInUse i = used := rfl
    rw [State.dryerResult, inUse, beds, beds, beds, op]
  intro i t
  refine ⟨fun c member code row asks => ?refusals, useTrain_of_sound, useTrain_of_bad_unused, useTrain_of_bad,
    fun valid inUse clear sound => ?served, fun asks => ?returnRefused, fun asks => ⟨fun none => ?_, fun valid sound => ?_,
      fun valid _ => ?_⟩⟩
  case refusals =>
    rcases List.mem_cons.mp member with rfl | member
    · obtain rfl := Option.some.inj row
      exact serve_withTrain_refused asks rfl rfl (by rw [holdTrain, fieldAt_single])
    rcases List.mem_cons.mp member with rfl | member
    · obtain rfl := Option.some.inj row
      exact serve_withTrain_refused asks rfl rfl (by rw [resumeTrain, fieldAt_single])
    · obtain rfl := List.mem_singleton.mp member
      obtain rfl := Option.some.inj row
      exact serve_withTrain_refused asks rfl rfl (by rw [forceSwitch, fieldAt_single])
  case served =>
    have serves : s.ServesTrain b.toNat := ⟨valid, inUse, clear, sound⟩
    refine ⟨fun asks place => ?hold, fun asks => ?resume, fun asks => ⟨fun refused => ?_, fun withdraw inService idle => ?_⟩,
      fun asks x names => ⟨fun not => ?_, fun free => ?_⟩⟩
    case hold =>
      have asksHeld : (s.onTrain b.toNat fun t => { t with held := true }).Asks q 0x28 [b] := asks
      rw [exec_holdTrain, serve_of_asks asks rfl rfl, holdTrain_of_serves serves place]
      exact congrArg _ (answerRequest_of_asks asksHeld _ _)
    case resume =>
      intro tested u
      have resumed : u = _ := congrArg (fun v => evalTrain b.toNat (startTest b.toNat v)) (testAllHeating_eq _ _).symm
      rw [exec_resumeTrain, serve_of_asks asks rfl rfl, resumeTrain_of_serves serves resumed]
    · exact serve_of_asks_same asks rfl rfl (forceSwitch_of_refused serves refused)
    · intro u
      have raised : u = evalTrain i (raiseRequest i s) := by rw [raiseRequest]
      rw [exec_forceSwitch, serve_of_asks asks rfl rfl, forceSwitch_of_taken serves withdraw inService idle raised]
    · exact serve_of_asks_same asks rfl rfl (returnBed_of_not serves names not)
    · intro u
      rw [exec_returnBed, serve_of_asks asks rfl rfl, returnBed_of_returnable serves names free (u := u) rfl]
  case returnRefused =>
    have refused (valid : l.toNat ≤ 2) : ∃ x, returnBed [b, l] s = withTrain b.toNat s (returned b.toNat x) := by
      cases names : bedOf l with
      | none => exact absurd ((bedOf_eq_none_iff l).mp names) (Nat.not_lt.mpr valid)
      | some x => exact ⟨x, returnBed_of_bed names⟩
    refine ⟨fun none => ?_, fun named => ?_, fun named => ?_⟩
    · rcases Nat.lt_or_ge 2 l.toNat with noBed | named
      · exact serve_of_asks_same asks rfl rfl (returnBed_of_noBed noBed)
      · obtain ⟨x, checks⟩ := refused named
        exact (serve_withTrain_refused asks rfl rfl checks).1 (none.resolve_left (Nat.not_lt.mpr named))
    · obtain ⟨x, checks⟩ := refused named
      exact (serve_withTrain_refused asks rfl rfl checks).2.1
    · obtain ⟨x, checks⟩ := refused named
      exact (serve_withTrain_refused asks rfl rfl checks).2.2
  · exact serve_of_asks_same asks rfl rfl (readDryer_of_none none)
  · refine serve_of_asks_same asks rfl rfl ?_
    rw [readDryer_of_train valid, useTrain_of_sound sound]
  · rw [exec_readDryer, serve_of_asks asks rfl rfl, readDryer_of_train valid]

end Sys2Proof.Machine

/-!
SUPPORT. Valve-set reports (R136, R137, R141 to R143, R153): the report recorded, a train synchronised by it, and what one
position of a synchronised train's bed does.
-/

namespace Sys2Proof.Machine

/-! ### The frame reaches its train (R136, R214) -/

section
variable {s : State} {i : Nat} {f : Frame} (kind : f.kind = kindState) (present : s.present i = true)
  (cls : (s.unitCfg i).cls = .dryerValves)
include kind present cls

theorem examine_of_dryerState : examine i f s = dryerReport i f.payload s := by
  rw [examine_of_state kind present, examineState, cls]

theorem examine_of_noReport (nothing : f.payload.length < 3 ∨ s.trainOf i = none) : examine i f s = s := by
  rw [examine_of_dryerState kind present cls]
  unfold dryerReport
  split
  next a b c more d payload train =>
    refine absurd nothing ?_
    rw [payload, train]
    simp
  next => rfl

theorem examine_of_report {a b c : Octet} {more : List Octet} {d : Nat} (payload : f.payload = a :: b :: c :: more)
    (train : s.trainOf i = some d) : examine i f s = trainReport d (positionsOf a b c) s := by
  rw [examine_of_dryerState kind present cls]
  unfold dryerReport
  rw [payload, train]

end

section
variable {s : State} {d : Nat}

theorem lt_of_trainOf {i : Nat} (train : s.trainOf i = some d) : d < 2 :=
  List.mem_range.mp (List.mem_of_find?_eq_some train)

/-! ### The report recorded, and a train that takes no more from it (R136, R153) -/

variable {p : BedId → Position}

theorem recordPositions_marked : (recordPositions d p s).marked .dryers d = s.marked .dryers d := rfl

theorem recordPositions_synced (place : d < s.dry.trains.length) :
    ((recordPositions d p s).train d).synced = (s.train d).synced := by
  rw [recordPositions, State.train_onTrain, if_pos ⟨rfl, place⟩]

theorem recordPositions_switch (place : d < s.dry.trains.length) :
    ((recordPositions d p s).train d).switch = (s.train d).switch := by
  rw [recordPositions, State.train_onTrain, if_pos ⟨rfl, place⟩]

theorem trainReport_of_bad (bad : s.foundBad .dryers d = true) : trainReport d p s = recordPositions d p (useTrain d s) :=
  if_pos (recordPositions_marked.trans (useTrain_marked bad))

theorem trainReport_of_marked (marked : s.marked .dryers d = true) : trainReport d p s = recordPositions d p s := by
  unfold trainReport
  rw [useTrain_of_sound (not_foundBad_of_marked marked)]
  exact if_pos (recordPositions_marked.trans marked)

section
variable (sound : s.foundBad .dryers d = false) (clear : s.marked .dryers d = false) (place : d < s.dry.trains.length)
include sound clear place

theorem trainReport_of_synced (synced : (s.train d).synced = true) : trainReport d p s =
    actPosition d (s.train d).switch .c (p .c) (actPosition d (s.train d).switch .b (p .b)
      (actPosition d (s.train d).switch .a (p .a) (recordPositions d p s))) := by
  unfold trainReport
  dsimp only
  rw [useTrain_of_sound sound, recordPositions_marked, clear, if_neg Bool.false_ne_true, recordPositions_synced place,
    if_pos synced, recordPositions_switch place]

theorem trainReport_of_unsynced (unsynced : (s.train d).synced = false) : trainReport d p s =
    if allBeds.any fun x => decide (p x = .moving) then recordPositions d p s
    else synchronise d p (recordPositions d p s) := by
  unfold trainReport
  dsimp only
  rw [useTrain_of_sound sound, recordPositions_marked, clear, if_neg Bool.false_ne_true, recordPositions_synced place,
    unsynced, if_neg Bool.false_ne_true]

theorem trainReport_of_moving (unsynced : (s.train d).synced = false) (moving : ∃ x, p x = .moving) :
    trainReport d p s = recordPositions d p s := by
  obtain ⟨x, moving⟩ := moving
  rw [trainReport_of_unsynced sound clear place unsynced]
  exact if_pos (List.any_eq_true.mpr ⟨x, mem_allBeds x, decide_eq_true moving⟩)

theorem trainReport_of_settled (unsynced : (s.train d).synced = false) (settled : ∀ x, p x ≠ .moving) :
    trainReport d p s = synchronise d p (recordPositions d p s) := by
  rw [trainReport_of_unsynced sound clear place unsynced]
  refine if_neg fun moving => ?_
  obtain ⟨x, -, moving⟩ := List.any_eq_true.mp moving
  exact settled x (of_decide_eq_true moving)

end

/-! ### Synchronisation (R136) -/

theorem tellDrying_heldMode (s : State) : (tellDrying s).dry.heldMode = s.dry.heldMode := by
  unfold tellDrying
  split
  · rfl
  · rw [(acctDrying_frame _ _).dry]

theorem evalTrain_heldMode (i : Nat) (s : State) : (evalTrain i s).dry.heldMode = s.dry.heldMode := by
  unfold evalTrain
  rw [tellDrying_heldMode, (occurIf_frame _ _ _ _).dry]
  rfl

/-- A bed at synchronisation is out of service by FAULT, or because an earlier bed was reported OPEN. -/
def outAtSync (opened : Bool) (q : Position) : Bool := decide (q = .fault) || (opened && decide (q = .opened))

/-- The train with every bed in the state that its position gives it, before the triggers of WITHDRAW. -/
def synchronised (d : Nat) (p : BedId → Position) (s : State) : State :=
  let resume := (s.dryerCfg d).resume
  let openA := decide (p .a = .opened)
  let openB := openA || decide (p .b = .opened)
  let beds := s.onTrain d fun t => { t with
    synced := true
    request := false
    switch := none
    bedA := syncBed resume false (p .a) t.bedA
    bedB := syncBed resume openA (p .b) t.bedB
    bedC := syncBed resume openB (p .c) t.bedC }
  evalTrain d (occurIf (outAtSync openB (p .c)) Src.bedOut d (occurIf (outAtSync openA (p .b)) Src.bedOut d
    (occurIf (outAtSync false (p .a)) Src.bedOut d beds)))

theorem synchronised_heldMode (d : Nat) (p : BedId → Position) (s : State) :
    (synchronised d p s).dry.heldMode = s.dry.heldMode := by
  unfold synchronised
  dsimp only
  rw [evalTrain_heldMode, (occurIf_frame _ _ _ _).dry, (occurIf_frame _ _ _ _).dry, (occurIf_frame _ _ _ _).dry]
  rfl

theorem synchronise_eq (d : Nat) (p : BedId → Position) (s : State) : synchronise d p s =
    if (synchronised d p s).withdrawing then evalTrain d (entryTriggers d (synchronised d p s))
    else synchronised d p s := by
  unfold synchronise synchronised outAtSync
  rfl

theorem synchronise_of_other (other : s.dry.heldMode ≠ .withdraw) : synchronise d p s = synchronised d p s := by
  rw [synchronise_eq, State.withdrawing, synchronised_heldMode]
  exact if_neg (by simpa using other)

theorem synchronise_of_withdraw (withdraw : s.dry.heldMode = .withdraw) : synchronise d p s =
    evalTrain d (noBedTrigger d (loadingTrigger d (synchronised d p s))) := by
  rw [synchronise_eq, State.withdrawing, synchronised_heldMode, if_pos (decide_eq_true withdraw), entryTriggers]

/-! ### One position of a synchronised train (R137, R141 to R143) -/

variable {before : Option SwitchOp} {x : BedId}

/-- The bed has its part in the phase that the switch is in, and had it when the report was taken (log entry 15). -/
def State.Confirms (s : State) (d : Nat) (before : Option SwitchOp) (x : BedId) (phase : SwitchPhase)
    (bed : SwitchOp → Option BedId) (op : SwitchOp) : Prop :=
  (s.train d).switch = some op ∧ op.phase = phase ∧ bed op = some x ∧
    ∃ old, before = some old ∧ old.phase = phase ∧ bed old = some x

theorem actPosition_opened_of_not (none : ∀ op, ¬s.Confirms d before x .opening (fun op => some op.incoming) op) :
    actPosition d before x .opened s = s := by
  unfold actPosition
  dsimp only
  split
  next old op switch =>
    refine if_neg fun ⟨oldOpening, opening, incoming, oldIncoming⟩ => ?_
    exact none op ⟨switch, opening, congrArg some incoming, old, rfl, oldOpening, congrArg some oldIncoming⟩
  next => rfl

theorem actPosition_opened {op : SwitchOp} (confirms : s.Confirms d before x .opening (fun op => some op.incoming) op) :
    actPosition d before x .opened s = evalTrain d (confirmOpening d op s) := by
  obtain ⟨switch, opening, incoming, old, rfl, oldOpening, oldIncoming⟩ := confirms
  unfold actPosition
  dsimp only
  rw [switch]
  exact if_pos ⟨oldOpening, opening, Option.some.inj incoming, Option.some.inj oldIncoming⟩

theorem actPosition_closed_of_not (none : ∀ op, ¬s.Confirms d before x .releasing SwitchOp.outgoing op) :
    actPosition d before x .closed s = s := by
  unfold actPosition
  dsimp only
  split
  next old op switch =>
    refine if_neg fun ⟨oldReleasing, releasing, outgoing, oldOutgoing⟩ => ?_
    exact none op ⟨switch, releasing, outgoing, old, rfl, oldReleasing, oldOutgoing⟩
  next => rfl

theorem actPosition_closed {op : SwitchOp} (confirms : s.Confirms d before x .releasing SwitchOp.outgoing op) :
    actPosition d before x .closed s = evalTrain d (confirmRelease d x s) := by
  obtain ⟨switch, releasing, outgoing, old, rfl, oldReleasing, oldOutgoing⟩ := confirms
  unfold actPosition
  dsimp only
  rw [switch]
  exact if_pos ⟨oldReleasing, releasing, outgoing, oldOutgoing⟩

theorem actPosition_fault : actPosition d before x .fault s = evalTrain d (faultAt d x s) := rfl

theorem confirmOpening_of_none {op : SwitchOp} (noOutgoing : op.outgoing = none) : confirmOpening d op s =
    endSwitch d (occur Src.bedSwitched d (s.onTrain d fun t => t.onBed op.incoming Bed.beginAdsorbing)) := by
  rw [confirmOpening, noOutgoing]

theorem confirmOpening_of_some {op : SwitchOp} {y : BedId} (outgoing : op.outgoing = some y) : confirmOpening d op s =
    (offerOwn (s.dryerCfg d).unit (.closeBed y) (s.onTrain d fun t => t.onBed op.incoming Bed.beginAdsorbing)).onTrain d
      fun t => { t.onBed y (fun z => { z with state := .releasing }) with
        switch := some { op with phase := .releasing, valve := s.now + (s.dryerCfg d).valveConfirm * Config.second } } := by
  rw [confirmOpening, outgoing]
  rfl

/-! The bed that a FAULT names, by its part in the switch. -/

theorem faultAt_of_uninvolved (free : ∀ op, (s.train d).switch = some op → op.incoming ≠ x ∧ op.outgoing ≠ some x) :
    faultAt d x s = faultPlain d x s := by
  unfold faultAt
  split
  next => rfl
  next op switch =>
    obtain ⟨incoming, outgoing⟩ := free op switch
    rw [if_neg incoming, if_neg outgoing]

section
variable {op : SwitchOp} (switch : (s.train d).switch = some op)
include switch

theorem faultAt_of_incoming_opening (incoming : op.incoming = x) (opening : op.phase = .opening) :
    faultAt d x s = failOpening false d op s := by
  unfold faultAt
  rw [switch]
  dsimp only
  rw [if_pos incoming, opening]

theorem faultAt_of_incoming_releasing (incoming : op.incoming = x) (releasing : op.phase = .releasing) :
    faultAt d x s = bedOut d x s := by
  unfold faultAt
  rw [switch]
  dsimp only
  rw [if_pos incoming, releasing]

theorem faultAt_of_outgoing_opening (other : op.incoming ≠ x) (outgoing : op.outgoing = some x)
    (opening : op.phase = .opening) :
    faultAt d x s = (bedOut d x s).onTrain d fun t => { t with switch := some { op with outgoing := none } } := by
  unfold faultAt
  rw [switch]
  dsimp only
  rw [if_neg other, if_pos outgoing, opening]

theorem faultAt_of_outgoing_releasing (other : op.incoming ≠ x) (outgoing : op.outgoing = some x)
    (releasing : op.phase = .releasing) : faultAt d x s = failRelease false d x s := by
  unfold faultAt
  rw [switch]
  dsimp only
  rw [if_neg other, if_pos outgoing, releasing]

end

theorem faultPlain_of_usable (usable : ((s.train d).bed x).state ∈ [BedState.standby, .heating, .cooling]) :
    faultPlain d x s = bedOut d x s := by
  unfold faultPlain
  cases state : ((s.train d).bed x).state with
  | standby | heating | cooling => rfl
  | unsynced | adsorbing | releasing | outOfService => simp [state] at usable

theorem faultPlain_of_adsorbing (adsorbing : ((s.train d).bed x).state = .adsorbing) :
    faultPlain d x s = noBedTrigger d (bedOut d x s) := by
  rw [faultPlain, adsorbing]

theorem faultPlain_of_other (other : ((s.train d).bed x).state ∈ [BedState.unsynced, .releasing, .outOfService]) :
    faultPlain d x s = s := by
  unfold faultPlain
  cases state : ((s.train d).bed x).state with
  | unsynced | releasing | outOfService => rfl
  | standby | adsorbing | heating | cooling => simp [state] at other

end

/-! ### The obligation -/

/-- Settles O31: the frame's train and its case, then each position of a synchronised train's bed. -/
theorem valveReports : Obligations.ValveReports := by
  refine ⟨fun s f i kind present cls => ⟨examine_of_noReport kind present cls, fun a b c more d payload train two => ?report⟩,
    fun s d before x => ?position⟩
  case report =>
    have place : d < s.dry.trains.length := two ▸ lt_of_trainOf train
    rw [examine_of_report kind present cls payload train]
    intro p recorded v
    have record (y : State) : recordPositions d p y = recorded y := rfl
    refine ⟨trainReport_of_bad, trainReport_of_marked, fun sound clear => ⟨trainReport_of_moving sound clear place,
      fun unsynced settled => ?settled, trainReport_of_synced sound clear place⟩⟩
    rw [trainReport_of_settled sound clear place unsynced settled]
    intro bed openA openB out u
    have beds (opened : Bool) (x : BedId) (y : Bed) : syncBed (v.dryerCfg d).resume opened (p x) y = bed opened x y := by
      dsimp only [bed]
      unfold syncBed
      cases p x <;> rfl
    have outs (opened : Bool) (x : BedId) (y : State) : occurIf (outAtSync opened (p x)) Src.bedOut d y = out opened x y := by
      dsimp only [out]
      simp only [occurIf, outAtSync, Bool.or_eq_true, Bool.and_eq_true, decide_eq_true_eq]
    have same : synchronised d p v = u := by
      unfold synchronised
      dsimp only
      rw [outs, outs, outs]
      simp only [beds]
      rfl
    refine ⟨fun other => ?_, fun withdraw => ?_⟩
    · exact (synchronise_of_other (s := v) other).trans same
    · rw [← same]
      exact synchronise_of_withdraw (s := v) withdraw
  case position =>
    intro unit confirms
    refine ⟨rfl, actPosition_opened_of_not, fun op opening => ⟨fun noOutgoing => ?_, fun y outgoing => ?_⟩,
      actPosition_closed_of_not, fun op releasing => ?_, fun free => ⟨fun usable => ?_, fun adsorbing => ?_, fun other => ?_⟩,
      fun op switch => ⟨fun incoming opening => ?_, fun incoming releasing => ?_, fun other outgoing opening => ?_,
        fun other outgoing releasing => ?_⟩, rfl, rfl⟩
    · obtain ⟨-, -, incoming, -⟩ := id opening
      obtain rfl := Option.some.inj incoming
      rw [actPosition_opened opening, confirmOpening_of_none noOutgoing]
      rfl
    · obtain ⟨-, -, incoming, -⟩ := id opening
      obtain rfl := Option.some.inj incoming
      rw [actPosition_opened opening, confirmOpening_of_some outgoing]
      rfl
    · rw [actPosition_closed releasing, confirmRelease]
      rfl
    · rw [actPosition_fault, faultAt_of_uninvolved free, faultPlain_of_usable usable]
    · rw [actPosition_fault, faultAt_of_uninvolved free, faultPlain_of_adsorbing adsorbing]
    · rw [actPosition_fault, faultAt_of_uninvolved free, faultPlain_of_other other]
    · rw [actPosition_fault, faultAt_of_incoming_opening switch incoming opening, failOpening, incoming]
      rfl
    · rw [actPosition_fault, faultAt_of_incoming_releasing switch incoming releasing]
    · rw [actPosition_fault, faultAt_of_outgoing_opening switch other outgoing opening]
    · rw [actPosition_fault, faultAt_of_outgoing_releasing switch other outgoing releasing, failRelease]
      rfl

end Sys2Proof.Machine
